-- ==== Sys2Proof/Word.lean ====
section
/-! DEFINITION. The words that travel on the part's lines: bytes, 16-bit and 32-bit numbers, 12-bit converter codes. -/

namespace Sys2Proof

/-- One byte on the control link, the module line or in the EEPROM. -/
abbrev Byte := BitVec 8

/-- A 16-bit field of a frame, or one parameter of working memory. -/
abbrev Word16 := BitVec 16

/-- A 32-bit number: the profile id, the image's CRC. -/
abbrev Word32 := BitVec 32

/-- A converter code, 12 bits (R78). -/
abbrev Code := BitVec 12

end Sys2Proof
end

