-- ==== Sys2Proof/Config.lean ====
section
/-! DEFINITION. What the spec leaves open: constants without a body, which no proof can evaluate (free values). -/

namespace Sys2Proof

/-- FREE VALUE (log 13): whether the byte at address `a` of an EEPROM page whose write was cut off or never acknowledged
holds the new byte (R169: what it held before, or a mix). `n` is the value of `State.free` at that moment. -/
opaque Config.mixTakesNew (n a : Nat) : Bool

/-- FREE VALUE (log 13): the byte at address `a` of such a page beyond the image's end, where the image has no byte. -/
opaque Config.mixPadding (n a : Nat) : Byte

/-- FREE VALUE (log 16): the code of an exchange class in READ_MODULES (R131); no rule lists the classes as a field's values.
The argument is the model's own number of the class. -/
opaque Config.exchangeClassCode (cls : Nat) : Byte

/-- FREE VALUE (log 27): the tap that the built-in profile holds in a scan list entry past the list's length of 24. -/
opaque Config.spareScanTap (entry : Nat) : Fin 24

end Sys2Proof
end

