-- ==== Sys2Proof/Syntax.lean ====
section
/-! DEFINITION. The commands of the part: one constructor for each row of spec/opcode_table.json, with the row's operands. -/

namespace Sys2Proof

/-- The link rate strap's level (R145). -/
inductive LinkRate where
  | baud115200
  | baud460800
  deriving DecidableEq, Repr

/-- The level at a door input, and a door's debounced state (R100). -/
inductive DoorLevel where
  | closed
  | opened
  deriving DecidableEq, Repr

/-- The level at the wake input, and the wake line (R132, R137). -/
inductive WakeLevel where
  | inactive
  | active
  deriving DecidableEq, Repr

/-- How the write of one page ended (R169): the page's 64 bytes as read back, or no acknowledge within three tries of a transfer. -/
inductive PageResult where
  | readBack (bytes : Vector Byte 64)
  | noAnswer
  deriving DecidableEq, Repr

/-- The commands. A request's operands are the bytes and words of its frame's payload (R171), so every value a host can
send is an operand. Handlers, doors, points, channels and slots of the part's own events are numbers in range; slot `i` of
the type `Fin 8` is the slot numbered `i + 1`. -/
inductive Instr where
  | hardReset (strap : LinkRate)
  | profileLoadComplete (acknowledged : Bool)
  | rxByte (b : Byte)
  | gapTimeout
  | txFrameEnd
  | parkEntry
  | restartEffect
  | identify
  | status
  | setReports (mask : Word16)
  | clearEvents (mask : Word16)
  | setSetpoints (pairs : List (Byte × Word16))
  | setZoneEnable (zone enable : Byte)
  | readZones (first count : Byte)
  | readHandlers (selector : Byte)
  | grant (watts : Word16) (lifetime : Byte)
  | readAllotment
  | airHold (hold : Byte)
  | renewNow (handler : Byte)
  | readRenewals
  | trim (bank : Byte)
  | mapPoint (point enabled source kind curve shift : Byte)
  | readPoints (first count : Byte)
  | override (channel action : Byte) (value : Word16)
  | readOutputs (first count : Byte)
  | pass (slot operation item : Byte) (value : Word16)
  | passResult
  | lineEnable (value : Byte)
  | readModules
  | standby
  | resume
  | park
  | cadence (value : Byte)
  | restart
  | getParam (number : Word16)
  | setParam (number value : Word16)
  | saveProfile
  | savePageComplete (page : PageResult)
  | savePollTimeout
  | regulationTimerExpiry
  | demandSetReceived
  | requestSetReceived
  | allotmentAtHs
  | allotmentAtZr
  | ouValueReceived
  | accountTimerExpiry
  | restTimerExpiry (h : Fin 2)
  | dwellTimerExpiry (h : Fin 2)
  | lifetimeExpiry
  | intervalExpiry (h : Fin 2)
  | renewalComplete (h : Fin 2)
  | doorInputChange (d : Fin 4) (level : DoorLevel)
  | doorDebounceExpiry (d : Fin 4)
  | doorTimerExpiry (d : Fin 4)
  | wakeInputChange (level : WakeLevel)
  | wakeDebounceExpiry
  | scanGapExpiry
  | supplyConversion (code : Code)
  | fullTrim (low high : Vector Code 32)
  | shortTrim (low high : Vector Code 4)
  | tapReading (raw : Code)
  | trimIntervalExpiry
  | pointStale (p : Fin 32)
  | periodEnd (c : Fin 16)
  | compareReached (c : Fin 16)
  | moduleAnswerReceived (frame : List Byte)
  | moduleResponseTimeout
  | moduleAnswerGap
  | probeTimerExpiry (slot : Fin 8)
  | readTimerExpiry (slot : Fin 8)
  | moduleRequestSent
  deriving DecidableEq, Repr

end Sys2Proof
end

