-- ==== Sys2Proof/Machine/State.lean ====
section
/-! DEFINITION. Everything the spec gives the part to hold, block by block (00 section 2.1), as plain data, and the part right
after a hard reset. Times are in ticks of 10 µs (log 5): a timer that can be stopped is `none` when stopped. -/

namespace Sys2Proof.Machine

/-- A timer that runs or is stopped: the ticks of 10 µs it has left. -/
abbrev Timer := Option Nat

/-! ### Zone Regulator -/

/-- Zone state (R8). -/
inductive ZoneState where
  | off
  | active
  | held
  | substitute
  deriving DecidableEq, Repr

/-- Where a SUBSTITUTE zone's temperature came from (R10); `noSource` is the spec's NONE. -/
inductive SubstSource where
  | zoneMean
  | returnAir
  | noSource
  deriving DecidableEq, Repr

/-- The direction in which the last allotment fell short for a zone (R54). -/
inductive Limited where
  | none
  | heating
  | cooling
  deriving DecidableEq, Repr

/-- The live part of a zone record (R1). The record's settings are read from working memory. -/
structure Zone where
  enabled : Bool
  setpoint : Int
  state : ZoneState
  substitute : Option SubstSource
  tempUsed : Option Int
  integral : Int
  demand : Int
  limited : Limited
  grantedReheat : Nat
  deriving DecidableEq, Repr

/-- What the demand set says of one zone (R16). -/
structure DemandZone where
  handler : Fin 2
  weight : Nat
  state : ZoneState
  counted : Bool
  demand : Int
  hasReheat : Bool
  rating : Nat
  deriving DecidableEq, Repr

/-- The demand set of one cycle (R16). -/
structure DemandSet where
  cycleNo : Word16
  zones : Vector DemandZone 12
  deriving DecidableEq, Repr

/-- The Zone Regulator's state (R1). -/
structure ZR where
  zones : Vector Zone 12
  cycleTimer : Timer
  cycleNo : Word16
  outstanding : Bool
  deferred : Bool
  deriving DecidableEq, Repr

/-! ### Handler Sequencer -/

/-- Handler mode (R27). -/
inductive Mode where
  | idle
  | vent
  | heat
  | cool
  | defrost
  deriving DecidableEq, Repr

/-- Last compressor mode (R28). -/
inductive CompMode where
  | none
  | heat
  | cool
  deriving DecidableEq, Repr

/-- Compressor state (R29). -/
inductive CompState where
  | stopped
  | running
  deriving DecidableEq, Repr

/-- Why the last defrost ended (R21). -/
inductive DefrostEnd where
  | none
  | temperature
  | time
  | aborted
  | drive
  deriving DecidableEq, Repr

/-- One handler record (R21). `dwell` and `rest` are in ticks and stop at 0; the defrost timer and icing are in seconds. -/
structure Handler where
  mode : Mode
  lastMode : CompMode
  dwell : Nat
  rest : Nat
  comp : CompState
  counted : Nat
  net : Int
  qReq : Nat
  candidate : Bool
  q : Nat
  driveSlot : Option (Fin 8)
  driveAvailable : Bool
  icing : Nat
  defrostDue : Bool
  defrostTimer : Nat
  lastEnd : DefrostEnd
  baseBlower : Nat
  blower : Nat
  fresh : Nat
  deriving DecidableEq, Repr

/-- What the request set says of one handler (R25). -/
structure RequestHandler where
  mode : Mode
  qReq : Nat
  rating : Nat
  candidate : Bool
  runningDefrost : Bool
  deriving DecidableEq, Repr

/-- What the request set says of one zone (R25). -/
structure RequestZone where
  request : Nat
  rating : Nat
  deriving DecidableEq, Repr

/-- The request set of one cycle (R25), with the demand set handed on beside it (R47). -/
structure RequestSet where
  cycleNo : Word16
  handlers : Vector RequestHandler 2
  zones : Vector RequestZone 12
  demand : DemandSet
  deriving DecidableEq, Repr

/-- The airflow settings as the HS last read them from working memory (R22): it reads at stage 2, at the expiry of its account timer
and at the start of a timer, and uses them until it reads again. -/
structure AirSettings where
  bMin : Nat
  renewalBlower : Nat
  dMin : Nat
  fMin : Nat
  deriving DecidableEq, Repr

/-- The Handler Sequencer's state (R21, R22), with the demand set it last took. -/
structure HS where
  handlers : Vector Handler 2
  air : AirSettings
  dampers : Vector Nat 12
  accountTimer : Timer
  cycleNo : Word16
  outstanding : Bool
  lastDemand : Option DemandSet
  deriving DecidableEq, Repr

/-! ### Power Allotter -/

/-- What step 1 of an allotment made of a handler's defrost (R48). -/
inductive FixedOutcome where
  | none
  | kept
  | aborted
  | admitted
  | refused
  deriving DecidableEq, Repr

/-- What the allotment gives one handler (R55). -/
structure AllotHandler where
  outcome : FixedOutcome
  command : Nat
  deriving DecidableEq, Repr

/-- What the allotment gives one zone (R55). -/
structure AllotZone where
  duty : Nat
  limited : Limited
  deriving DecidableEq, Repr

/-- An allotment as it is handed on (R55). -/
structure Allotment where
  cycleNo : Word16
  handlers : Vector AllotHandler 2
  zones : Vector AllotZone 12
  deriving DecidableEq, Repr

/-- The handler part of the allotment record (R56); `power` in watts. -/
structure RecordHandler where
  mode : Mode
  qReq : Nat
  outcome : FixedOutcome
  command : Nat
  power : Nat
  deriving DecidableEq, Repr

/-- The zone part of the allotment record (R56); `power` in watts. -/
structure RecordZone where
  request : Nat
  duty : Nat
  power : Nat
  limited : Limited
  deriving DecidableEq, Repr

/-- The allotment record (R56); `live` is its source. -/
structure AllotRecord where
  made : Bool
  cycleNo : Word16
  grant : Nat
  live : Bool
  scale : Nat
  scale2 : Nat
  fixedPower : Nat
  total : Nat
  unallotted : Nat
  handlers : Vector RecordHandler 2
  zones : Vector RecordZone 12
  deriving DecidableEq, Repr

/-- The Power Allotter's state (R42, R56); `live` is the live flag. -/
structure PA where
  liveGrant : Nat
  live : Bool
  timer : Timer
  lifetime : Nat
  record : AllotRecord
  deriving DecidableEq, Repr

/-! ### Renewal Scheduler -/

/-- Renewal state (R60). -/
inductive RenewalState where
  | idle
  | renewing
  | forced
  deriving DecidableEq, Repr

/-- Renewal kind (R60, R65). -/
inductive RenewalKind where
  | due
  | economy
  | airQuality
  | host
  | forced
  deriving DecidableEq, Repr

/-- How the last renewal ended (R60). -/
inductive RenewalEnd where
  | none
  | completed
  | hold
  | leftRun
  | handlerIdle
  deriving DecidableEq, Repr

/-- The air hold (R60). -/
inductive AirHold where
  | none
  | soft
  | hard
  deriving DecidableEq, Repr

/-- One renewal record (R60); `interval` and `timer` in ticks. -/
structure Renewal where
  balance : Int
  interval : Nat
  state : RenewalState
  kind : Option RenewalKind
  timer : Nat
  lastEnd : RenewalEnd
  deriving DecidableEq, Repr

/-- The Renewal Scheduler's state (R60). -/
structure RS where
  renewals : Vector Renewal 2
  airHold : AirHold
  deriving DecidableEq, Repr

/-! ### Sensing Unit -/

/-- Trim state of a bank (R79). -/
inductive TrimState where
  | idle
  | fullQueued
  | shortQueued
  | running
  deriving DecidableEq, Repr

/-- Kind of the last trim (R79). -/
inductive LastTrim where
  | none
  | full
  | short
  deriving DecidableEq, Repr

/-- How the last trim ended (R79). -/
inductive TrimOutcome where
  | none
  | installed
  | limit
  | stepped
  deriving DecidableEq, Repr

/-- One bank record (R79). -/
structure Bank where
  offset : Int
  gain : Int
  failed : Bool
  trim : TrimState
  lastTrim : LastTrim
  lastOutcome : TrimOutcome
  mLo : Nat
  mHi : Nat
  deriving DecidableEq, Repr

/-- Point state (R95). -/
inductive PointState where
  | absent
  | pending
  | valid
  | held
  | failed
  deriving DecidableEq, Repr

/-- A point's own state (R92). Its settings are read from working memory. -/
structure Point where
  value : Int
  state : PointState
  age : Nat
  run : Nat
  deriving DecidableEq, Repr

/-- One door record (R100). -/
structure Door where
  state : DoorLevel
  debounce : Timer
  openSeconds : Nat
  credited : Bool
  timer : Timer
  deriving DecidableEq, Repr

/-- Supply state (R83). -/
inductive SupplyState where
  | normal
  | low
  deriving DecidableEq, Repr

/-- The scan pass under way (R81): none; its supply conversion; its trim of one bank, full or short; or its list, with the
entries still to convert. The first two carry the scan list the pass began with (R80). -/
inductive Pass where
  | none
  | supply (list : List (Fin 24))
  | trim (bank : Fin 3) (full : Bool) (list : List (Fin 24))
  | list (rest : List (Fin 24))
  deriving DecidableEq, Repr

/-- The Sensing Unit's state (R79, R81, R83, R89, R92, R100). `scanGap` is the scan gap, in milliseconds, as it stood when the last
pass began (R78). -/
structure SU where
  supply : SupplyState
  supplyCode : Nat
  banks : Vector Bank 3
  points : Vector Point 32
  doors : Vector Door 4
  trimTimer : Timer
  gapTimer : Timer
  scanGap : Nat
  pass : Pass
  passCut : Bool
  passNext : Bool
  deriving DecidableEq, Repr

/-! ### Output Unit -/

/-- Channel role (R102). -/
inductive Role where
  | none
  | spare
  | zoneDamper (z : Fin 12)
  | zoneReheat (z : Fin 12)
  | blower (h : Fin 2)
  | freshDamper (h : Fin 2)
  deriving DecidableEq, Repr

/-- The time between counter advances (R102). -/
inductive ChannelStep where
  | us10
  | us100
  | ms1
  | ms10
  deriving DecidableEq, Repr

/-- The pin level that means active (R104). -/
inductive Polarity where
  | normal
  | inverted
  deriving DecidableEq, Repr

/-- One channel record (R102). The three `new` fields are the pending settings; `prescale` counts the ticks since the
counter advanced. -/
structure Channel where
  role : Role
  modulus : Nat
  step : ChannelStep
  polarity : Polarity
  bound : Bool
  counter : Nat
  received : Nat
  override : Option Nat
  effective : Nat
  pendingCompare : Nat
  compare : Nat
  newModulus : Option Nat
  newStep : Option ChannelStep
  newPolarity : Option Polarity
  prescale : Nat
  deriving DecidableEq, Repr

/-- The Output Unit's state (R102). -/
structure OU where
  channels : Vector Channel 16
  deriving DecidableEq, Repr

/-! ### Module Line Master -/

/-- Slot state (R115). -/
inductive SlotState where
  | absent
  | present
  | lost
  deriving DecidableEq, Repr

/-- The outcome of the last probe (R115). -/
inductive LastProbe where
  | none
  | found
  | wrongType
  | noAnswer
  deriving DecidableEq, Repr

/-- Module type (R115). -/
inductive ModuleType where
  | drive
  | monitor
  | other
  deriving DecidableEq, Repr

/-- Drive state (R115). -/
inductive DriveState where
  | ready
  | running
  | fault
  deriving DecidableEq, Repr

/-- The last report of a drive (R115), as received (R174). -/
structure DriveData where
  state : DriveState
  fault : Byte
  speed : Word16
  temperature : Word16
  deriving DecidableEq, Repr

/-- One slot record (R115). Its kind is read from working memory. -/
structure Slot where
  state : SlotState
  failed : Nat
  lastProbe : LastProbe
  moduleType : Option ModuleType
  drive : Option DriveData
  monitor : Option (Vector Word16 4)
  probeTimer : Timer
  probeDue : Bool
  readTimer : Timer
  readDue : Bool
  deriving DecidableEq, Repr

/-- Line state (R129). -/
inductive LineState where
  | on
  | closing
  | off
  deriving DecidableEq, Repr

/-- State of the pass-through record (R115). -/
inductive PassState where
  | empty
  | queued
  | inFlight
  | done
  deriving DecidableEq, Repr

/-- Pass-through operation (R115). -/
inductive PassOp where
  | read
  | write
  deriving DecidableEq, Repr

/-- Pass-through outcome (R115). -/
inductive PassOutcome where
  | answered
  | noAnswer
  | flushed
  deriving DecidableEq, Repr

/-- A module's status in an item answer (R118). -/
inductive ModuleStatus where
  | accepted
  | refused
  deriving DecidableEq, Repr

/-- The pass-through record (R115); what it does not hold in its state is absent. -/
structure PassRecord where
  state : PassState
  slot : Option (Fin 8)
  op : Option PassOp
  item : Option Byte
  value : Option Word16
  outcome : Option PassOutcome
  status : Option ModuleStatus
  returned : Option Word16
  deriving DecidableEq, Repr

/-- Direction of a drive command (R118). -/
inductive Direction where
  | heat
  | cool
  | reverse
  deriving DecidableEq, Repr

/-- A module-line request: function and data (R118, R173). -/
inductive ModuleRequest where
  | probe
  | driveCommand (run : Bool) (direction : Direction) (command : Nat)
  | readItems
  | itemRead (item : Byte)
  | itemWrite (item : Byte) (value : Word16)
  deriving DecidableEq, Repr

/-- The class of an exchange (R115, R125, R129). -/
inductive ExchangeClass where
  | drive (h : Fin 2)
  | closingStop (h : Fin 2)
  | passThrough
  | monitorRead
  | probe
  deriving DecidableEq, Repr

/-- Where a try stands (R117): its request is going out, its answer is awaited, or a partial answer was abandoned and the try
waits out its timeout. -/
inductive TryPhase where
  | sending
  | awaiting
  | abandoned
  deriving DecidableEq, Repr

/-- The exchange on the line (R115, R117). `detached`: its slot's kind changed meanwhile (R121). `discard`: a RESTART took its
pass-through result away (R116). -/
structure Exchange where
  cls : ExchangeClass
  slot : Fin 8
  request : ModuleRequest
  secondTry : Bool
  phase : TryPhase
  detached : Bool
  discard : Bool
  deriving DecidableEq, Repr

/-- Host enable (R115). -/
inductive HostEnable where
  | on
  | off
  deriving DecidableEq, Repr

/-- The Module Line Master's state (R115, R117). `closingLeft`: the handlers whose closing stop is still to come (R129). -/
structure ML where
  slots : Vector Slot 8
  hostEnable : HostEnable
  line : LineState
  exchange : Option Exchange
  response : Timer
  drivePending : Vector Bool 2
  pass : PassRecord
  closingLeft : List (Fin 2)
  deriving DecidableEq, Repr

/-! ### State Controller -/

/-- Operating state (R132). -/
inductive OpState where
  | loading
  | run
  | standby
  | parked
  | waking
  deriving DecidableEq, Repr

/-- Cadence (R132). -/
inductive Cadence where
  | full
  | half
  deriving DecidableEq, Repr

/-- The State Controller's state (R132). -/
structure SC where
  opState : OpState
  cadence : Cadence
  pendingCadence : Cadence
  parkRequest : Bool
  wakeLine : WakeLevel
  wakeDebounce : Timer
  wakeHeld : Bool
  deriving DecidableEq, Repr

/-! ### Link Unit -/

/-- The sixteen event kinds, in kind order (R151). -/
inductive EventKind where
  | sensorFailed
  | sensorRestored
  | supplyLow
  | supplyOk
  | trimLimit
  | grantExpired
  | modeChange
  | defrostStart
  | defrostEnd
  | renewalOverdue
  | moduleLost
  | moduleFound
  | driveFault
  | passDone
  | profileFault
  | profileSaved
  deriving DecidableEq, Repr

/-- One event record (R152). -/
structure EventRecord where
  latched : Bool
  subject : Nat
  value : Int
  enable : Bool
  deriving DecidableEq, Repr

/-- A control-link frame: kind byte and payload (R146). -/
structure Frame where
  kind : Byte
  payload : List Byte
  deriving DecidableEq, Repr

/-- The receiver (R145): hunting, or receiving with the bytes that came after the start byte. -/
inductive Receiver where
  | hunting
  | receiving (bytes : List Byte)
  deriving DecidableEq, Repr

/-- What the transmitter sends: the answer or reject to the frame in hand, an overrun reject, or a notice (R150). -/
inductive Sending where
  | answer
  | overrunReject
  | notice
  deriving DecidableEq, Repr

/-- The transmitter (R145): idle, or sending a frame with the pieces that follow it (R170). -/
inductive Transmitter where
  | idle
  | sending (what : Sending) (frame : Frame) (rest : List Frame)
  deriving DecidableEq, Repr

/-- The effect that waits for the last byte of the answer in hand (R141, R143). -/
inductive AfterAnswer where
  | none
  | park
  | restart
  deriving DecidableEq, Repr

/-- The Link Unit's state (R145). `answer`: the first frame and the further pieces of the answer or reject due to the frame in
hand. `overrunReject`: the kind byte of the overrun reject due. -/
structure LU where
  rate : LinkRate
  receiver : Receiver
  gap : Timer
  inHand : Option Frame
  overrun : Option Byte
  answer : Option (Frame × List Frame)
  overrunReject : Option Byte
  transmitter : Transmitter
  after : AfterAnswer
  events : Vector EventRecord 16
  queue : List EventKind
  deriving DecidableEq, Repr

/-! ### Profile Loader -/

/-- Working memory: one 16-bit value for each parameter number, and the lock list (R160, R164). -/
structure WorkingMemory where
  params : Vector Word16 512
  locks : List Nat
  deriving DecidableEq, Repr

/-- Load state (R160). -/
inductive LoadState where
  | notLoaded
  | loading
  | loaded
  deriving DecidableEq, Repr

/-- Save state (R160). -/
inductive SaveState where
  | idle
  | saving
  deriving DecidableEq, Repr

/-- The Profile Loader's state (R160). The profile id is parameters 30 and 31 of working memory (R164). -/
structure PL where
  wm : WorkingMemory
  defaultFlag : Bool
  loadState : LoadState
  saveState : SaveState
  snapshot : Option WorkingMemory
  savePage : Nat
  deriving DecidableEq, Repr

/-! ### Between the blocks, and outside -/

/-- A set handed on by one block and not yet taken by the next; `dropped` says that its cascade has been dropped since, by a RESTART
(R25, R47) or by the leaving of RUN (R135). -/
structure Handed (α : Type) where
  dropped : Bool
  set : α
  deriving DecidableEq, Repr

/-- What is on its way from block to block, oldest first (log 2). -/
structure Bus where
  demandSets : List (Handed DemandSet)
  requestSets : List (Handed RequestSet)
  allotHS : List Allotment
  allotZR : List Allotment
  ouValues : List (Role × Nat)
  deriving DecidableEq, Repr

/-- The levels at the door inputs and the wake input (00 section 2.5). -/
structure Pins where
  doors : Vector DoorLevel 4
  wake : WakeLevel
  deriving DecidableEq, Repr

/-- The EEPROM's bytes (R161): the listed addresses, strictly rising, and no byte equal to what an unlisted address reads. -/
structure Memory where
  cells : List Host.Cell
  deriving DecidableEq, Repr

/-- Everything the part holds, and the queue of the commands that wait. -/
structure State where
  zr : ZR
  hs : HS
  pa : PA
  rs : RS
  su : SU
  ou : OU
  ml : ML
  sc : SC
  lu : LU
  pl : PL
  bus : Bus
  pins : Pins
  eeprom : Memory
  tenth : Nat
  free : Nat
  pending : List Instr
  deriving DecidableEq, Repr

/-- Nothing in the spec stops the part with a fault: every command answers a next state, so this type has no constructor. -/
inductive Fault where
  deriving DecidableEq, Repr

/-- Why a step can be refused. -/
inductive Refusal where
  /-- Raised by `exec` alone, for a command that has no meaning yet; safe, since the machine stops. No arm raises it now. -/
  | notModelled (mnemonic : String)
  deriving DecidableEq, Repr

/-! ### After a hard reset -/

/-- A zone record after a hard reset, before the load (R2). -/
def Zone.reset : Zone :=
  { enabled := false, setpoint := 0, state := .off, substitute := none, tempUsed := none, integral := 0, demand := 0,
    limited := .none, grantedReheat := 0 }

/-- A handler record after a hard reset, before the load (R23). -/
def Handler.reset : Handler :=
  { mode := .idle, lastMode := .none, dwell := 0, rest := 0, comp := .stopped, counted := 0, net := 0, qReq := 0,
    candidate := false, q := 0, driveSlot := none, driveAvailable := false, icing := 0, defrostDue := false,
    defrostTimer := 0, lastEnd := .none, baseBlower := 0, blower := 0, fresh := 0 }

/-- The empty allotment record (R57). -/
def AllotRecord.empty : AllotRecord :=
  { made := false, cycleNo := 0, grant := 0, live := false, scale := 0, scale2 := 0, fixedPower := 0, total := 0,
    unallotted := 0, handlers := Vector.replicate 2 ⟨.idle, 0, .none, 0, 0⟩, zones := Vector.replicate 12 ⟨0, 0, 0, .none⟩ }

/-- A renewal record after a hard reset, before the load (R61). -/
def Renewal.reset : Renewal :=
  { balance := 0, interval := 0, state := .idle, kind := none, timer := 0, lastEnd := .none }

/-- A bank record after a hard reset (R79). -/
def Bank.reset : Bank :=
  { offset := 0, gain := 0, failed := false, trim := .fullQueued, lastTrim := .none, lastOutcome := .none, mLo := 0, mHi := 0 }

/-- A point after a hard reset, before the load (R92). -/
def Point.reset : Point :=
  { value := 0, state := .absent, age := 0, run := 0 }

/-- A door record after a hard reset with its input closed (R100). -/
def Door.reset : Door :=
  { state := .closed, debounce := none, openSeconds := 0, credited := false, timer := none }

/-- A channel record after a hard reset, before the load (R103). -/
def Channel.reset : Channel :=
  { role := .none, modulus := 16, step := .us10, polarity := .normal, bound := false, counter := 0, received := 0,
    override := none, effective := 0, pendingCompare := 0, compare := 0, newModulus := none, newStep := none,
    newPolarity := none, prescale := 0 }

/-- A slot record after a hard reset (R116). -/
def Slot.reset : Slot :=
  { state := .absent, failed := 0, lastProbe := .none, moduleType := none, drive := none, monitor := none,
    probeTimer := none, probeDue := false, readTimer := none, readDue := false }

/-- The empty pass-through record (R116). -/
def PassRecord.empty : PassRecord :=
  { state := .empty, slot := none, op := none, item := none, value := none, outcome := none, status := none, returned := none }

/-- A cleared event record, not enabled (R152, R153). -/
def EventRecord.reset : EventRecord :=
  { latched := false, subject := 0, value := 0, enable := false }

/-- Working memory before the load (log 10). -/
def WorkingMemory.blank : WorkingMemory :=
  { params := Vector.replicate 512 0, locks := [] }

/-- The part right after a hard reset (R133): LOADING, the profile load begun, every block at its hard-reset values, with the
inputs inactive, the strap at 115,200 baud and a blank EEPROM (logs 10, 11, 12). -/
def State.reset : State :=
  { zr := { zones := Vector.replicate 12 Zone.reset, cycleTimer := none, cycleNo := 0, outstanding := false, deferred := false }
    hs := { handlers := Vector.replicate 2 Handler.reset, air := ⟨0, 0, 0, 0⟩, dampers := Vector.replicate 12 0, accountTimer := none, cycleNo := 0,
            outstanding := false, lastDemand := none }
    pa := { liveGrant := 0, live := false, timer := none, lifetime := 0, record := AllotRecord.empty }
    rs := { renewals := Vector.replicate 2 Renewal.reset, airHold := .none }
    su := { supply := .normal, supplyCode := 0, banks := Vector.replicate 3 Bank.reset, points := Vector.replicate 32 Point.reset,
            doors := Vector.replicate 4 Door.reset, trimTimer := none, gapTimer := none, scanGap := 0, pass := .none,
            passCut := false, passNext := false }
    ou := { channels := Vector.replicate 16 Channel.reset }
    ml := { slots := Vector.replicate 8 Slot.reset, hostEnable := .on, line := .off, exchange := none, response := none,
            drivePending := Vector.replicate 2 false, pass := PassRecord.empty, closingLeft := [] }
    sc := { opState := .loading, cadence := .full, pendingCadence := .full, parkRequest := false, wakeLine := .inactive,
            wakeDebounce := none, wakeHeld := false }
    lu := { rate := .baud115200, receiver := .hunting, gap := none, inHand := none, overrun := none, answer := none,
            overrunReject := none, transmitter := .idle, after := .none, events := Vector.replicate 16 EventRecord.reset,
            queue := [] }
    pl := { wm := WorkingMemory.blank, defaultFlag := false, loadState := .loading, saveState := .idle, snapshot := none,
            savePage := 0 }
    bus := { demandSets := [], requestSets := [], allotHS := [], allotZR := [], ouValues := [] }
    pins := { doors := Vector.replicate 4 .closed, wake := .inactive }
    eeprom := { cells := [] }
    tenth := 0
    free := 0
    pending := [] }

end Sys2Proof.Machine
end

