-- ==== Sys2Proof/Machine/Operands.lean ====
section
/-! DEFINITION. Arithmetic of 00 section 3.1, the units of time, the bytes of numbers (R170) and the codes of enumerations (R164, R170). -/

namespace Sys2Proof.Machine

/-! ### Rounding and clamping (00 section 3.1) -/

/-- Clamp to `lo..hi`. -/
def clampInt (lo hi x : Int) : Int := max lo (min hi x)

/-- "trunc" of `a / b`: toward zero. -/
def truncDiv (a b : Int) : Int := a.tdiv b

/-- "floor" of `a / b`: toward minus infinity. -/
def floorDiv (a b : Int) : Int := a.fdiv b

/-- "round half away from zero" of `a / b`, for `b > 0`. -/
def roundHalfAway (a b : Int) : Int :=
  if 0 ≤ a then floorDiv (2 * a + b) (2 * b) else -floorDiv (-2 * a + b) (2 * b)

/-! ### Time (log 5) -/

/-- Seconds, in ticks of 10 µs. -/
def sec (n : Nat) : Nat := n * 100000

/-- Milliseconds, in ticks of 10 µs. -/
def ms (n : Nat) : Nat := n * 100

/-- The seconds a timer shows: a second begun counts whole (log 5). -/
def secondsLeft (ticks : Nat) : Nat := (ticks + 99999) / 100000

/-! ### Bytes of numbers (R170) -/

/-- A 16-bit word, most significant byte first. -/
def wordBytes (w : Word16) : List Byte := [w.extractLsb' 8 8, w.extractLsb' 0 8]

/-- The 16-bit word of two bytes, most significant first. -/
def bytesWord (hi lo : Byte) : Word16 := hi ++ lo

/-- A number in two bytes. -/
def num16 (n : Nat) : List Byte := wordBytes (BitVec.ofNat 16 n)

/-- A signed number in two bytes. -/
def int16 (x : Int) : List Byte := wordBytes (BitVec.ofInt 16 x)

/-- A number in one byte. -/
def num8 (n : Nat) : List Byte := [BitVec.ofNat 8 n]

/-- A signed number in one byte. -/
def int8 (x : Int) : List Byte := [BitVec.ofInt 8 x]

/-- Yes is 1 and no is 0. -/
def yesNo (b : Bool) : List Byte := [if b then 1 else 0]

/-- A byte field that may be absent: 0xFF when absent. -/
def orAbsent8 : Option Nat → List Byte
  | some n => num8 n
  | none => [0xFF]

/-- A 16-bit field that may be absent or none: 0x8000 when absent. -/
def orAbsent16 : Option Int → List Byte
  | some x => int16 x
  | none => wordBytes 0x8000

/-- A timer that can be stopped, in seconds: 0xFFFF when stopped. -/
def timerBytes : Timer → List Byte
  | some t => num16 (secondsLeft t)
  | none => wordBytes 0xFFFF

/-- A sixteen-kind set as a mask: bit k for kind k. -/
def maskOf (f : Fin 16 → Bool) : Word16 :=
  (List.finRange 16).foldl (fun m k => if f k then m ||| (1#16 <<< k.val) else m) 0

/-! ### Codes of enumerations: the position in the list that defines the field (R170) -/

def ZoneState.code : ZoneState → Nat
  | .off => 0 | .active => 1 | .held => 2 | .substitute => 3

def SubstSource.code : SubstSource → Nat
  | .zoneMean => 0 | .returnAir => 1 | .noSource => 2

def Limited.code : Limited → Nat
  | .none => 0 | .heating => 1 | .cooling => 2

def Mode.code : Mode → Nat
  | .idle => 0 | .vent => 1 | .heat => 2 | .cool => 3 | .defrost => 4

def CompMode.code : CompMode → Nat
  | .none => 0 | .heat => 1 | .cool => 2

def CompState.code : CompState → Nat
  | .stopped => 0 | .running => 1

/-- The field last defrost end (R21). -/
def DefrostEnd.code : DefrostEnd → Nat
  | .none => 0 | .temperature => 1 | .time => 2 | .aborted => 3 | .drive => 4

/-- The value of DEFROST_END (R151): its own list of four reasons (log 15). -/
def DefrostEnd.reason : DefrostEnd → Nat
  | .none => 0 | .temperature => 0 | .time => 1 | .aborted => 2 | .drive => 3

def FixedOutcome.code : FixedOutcome → Nat
  | .none => 0 | .kept => 1 | .aborted => 2 | .admitted => 3 | .refused => 4

/-- The live flag and an allotment's source: live, fallback (R42, R56). -/
def liveCode (live : Bool) : Nat := if live then 0 else 1

def RenewalState.code : RenewalState → Nat
  | .idle => 0 | .renewing => 1 | .forced => 2

def RenewalKind.code : RenewalKind → Nat
  | .due => 0 | .economy => 1 | .airQuality => 2 | .host => 3 | .forced => 4

def RenewalEnd.code : RenewalEnd → Nat
  | .none => 0 | .completed => 1 | .hold => 2 | .leftRun => 3 | .handlerIdle => 4

def AirHold.code : AirHold → Nat
  | .none => 0 | .soft => 1 | .hard => 2

def TrimState.code : TrimState → Nat
  | .idle => 0 | .fullQueued => 1 | .shortQueued => 2 | .running => 3

def LastTrim.code : LastTrim → Nat
  | .none => 0 | .full => 1 | .short => 2

def TrimOutcome.code : TrimOutcome → Nat
  | .none => 0 | .installed => 1 | .limit => 2 | .stepped => 3

def PointState.code : PointState → Nat
  | .absent => 0 | .pending => 1 | .valid => 2 | .held => 3 | .failed => 4

def SupplyState.code : SupplyState → Nat
  | .normal => 0 | .low => 1

def doorCode : DoorLevel → Nat
  | .closed => 0 | .opened => 1

/-- Channel role (R164). -/
def Role.code : Role → Nat
  | .none => 0 | .spare => 1 | .zoneDamper z => 16 + z | .zoneReheat z => 32 + z | .blower h => 48 + h | .freshDamper h => 50 + h

/-- Channel step (R164). -/
def ChannelStep.code : ChannelStep → Nat
  | .us10 => 0 | .us100 => 1 | .ms1 => 2 | .ms10 => 3

/-- Channel polarity (R164). -/
def Polarity.code : Polarity → Nat
  | .normal => 0 | .inverted => 1

def SlotState.code : SlotState → Nat
  | .absent => 0 | .present => 1 | .lost => 2

def LastProbe.code : LastProbe → Nat
  | .none => 0 | .found => 1 | .wrongType => 2 | .noAnswer => 3

def ModuleType.code : ModuleType → Nat
  | .drive => 0 | .monitor => 1 | .other => 2

def DriveState.code : DriveState → Nat
  | .ready => 0 | .running => 1 | .fault => 2

def LineState.code : LineState → Nat
  | .on => 0 | .closing => 1 | .off => 2

/-- Host enable: ON, OFF, in the order R115 lists them (log 15). -/
def HostEnable.code : HostEnable → Nat
  | .on => 0 | .off => 1

def PassState.code : PassState → Nat
  | .empty => 0 | .queued => 1 | .inFlight => 2 | .done => 3

def PassOp.code : PassOp → Nat
  | .read => 0 | .write => 1

def PassOutcome.code : PassOutcome → Nat
  | .answered => 0 | .noAnswer => 1 | .flushed => 2

def ModuleStatus.code : ModuleStatus → Nat
  | .accepted => 0 | .refused => 1

/-- Direction in a DRIVE_COMMAND (R173). -/
def Direction.code : Direction → Nat
  | .heat => 0 | .cool => 1 | .reverse => 2

/-- The model's own number of an exchange class, which the free value of log 16 codes. -/
def ExchangeClass.number : ExchangeClass → Nat
  | .drive _ => 0 | .closingStop _ => 1 | .passThrough => 2 | .monitorRead => 3 | .probe => 4

def OpState.code : OpState → Nat
  | .loading => 0 | .run => 1 | .standby => 2 | .parked => 3 | .waking => 4

def Cadence.code : Cadence → Nat
  | .full => 0 | .half => 1

def linkRateCode : LinkRate → Nat
  | .baud115200 => 0 | .baud460800 => 1

/-- The number of an event kind (R151). -/
def EventKind.index : EventKind → Fin 16
  | .sensorFailed => 0 | .sensorRestored => 1 | .supplyLow => 2 | .supplyOk => 3 | .trimLimit => 4 | .grantExpired => 5
  | .modeChange => 6 | .defrostStart => 7 | .defrostEnd => 8 | .renewalOverdue => 9 | .moduleLost => 10 | .moduleFound => 11
  | .driveFault => 12 | .passDone => 13 | .profileFault => 14 | .profileSaved => 15

/-- The sixteen kinds in kind order (R151). -/
def EventKind.all : List EventKind :=
  [.sensorFailed, .sensorRestored, .supplyLow, .supplyOk, .trimLimit, .grantExpired, .modeChange, .defrostStart, .defrostEnd,
   .renewalOverdue, .moduleLost, .moduleFound, .driveFault, .passDone, .profileFault, .profileSaved]

/-! ### Result codes and reject reasons (R171) -/

def codeOk : Byte := 0
def codeClamped : Byte := 1
def codePending : Byte := 2
def codeBusy : Byte := 3
def codeWrongState : Byte := 4
def codeNotReady : Byte := 5
def codeLocked : Byte := 6
def codeBadArg : Byte := 7
def codeBadLength : Byte := 8
def codeLineOff : Byte := 9

def rejectCheck : Byte := 1
def rejectBadKind : Byte := 2
def rejectOverrun : Byte := 3

/-! ### Causes carried as event values -/

/-- SENSOR_FAILED's causes RANGE, BANK, SLOT (R151). -/
def causeRange : Int := 0
def causeBank : Int := 1
def causeSlot : Int := 2

/-! ### CRC-16 of both lines (R146, R173) and CRC-32 of the image (R161) -/

/-- One bit of the CRC-16 with polynomial 0x1021, not reflected. -/
def crc16Bit (c : Word16) : Word16 := if c.msb then (c <<< 1) ^^^ 0x1021 else c <<< 1

/-- One byte of the CRC-16. -/
def crc16Byte (c : Word16) (b : Byte) : Word16 :=
  crc16Bit (crc16Bit (crc16Bit (crc16Bit (crc16Bit (crc16Bit (crc16Bit (crc16Bit (c ^^^ (b.setWidth 16 <<< 8)))))))))

/-- CRC-16 with initial value 0xFFFF and no final exclusive-or. -/
def crc16 (bytes : List Byte) : Word16 := bytes.foldl crc16Byte 0xFFFF

/-- One bit of the reflected CRC-32 with polynomial 0x04C11DB7. -/
def crc32Bit (c : Word32) : Word32 := if c.getLsbD 0 then (c >>> 1) ^^^ 0xEDB88320 else c >>> 1

/-- One byte of the CRC-32. -/
def crc32Byte (c : Word32) (b : Byte) : Word32 :=
  crc32Bit (crc32Bit (crc32Bit (crc32Bit (crc32Bit (crc32Bit (crc32Bit (crc32Bit (c ^^^ b.setWidth 32))))))))

/-- CRC-32 with initial value 0xFFFFFFFF and final exclusive-or 0xFFFFFFFF. -/
def crc32 (bytes : List Byte) : Word32 := (bytes.foldl crc32Byte 0xFFFFFFFF) ^^^ 0xFFFFFFFF

end Sys2Proof.Machine
end

