-- ==== Sys2Proof/WellFormed.lean ====
section
/-! DEFINITION. Which commands the part's lines can carry. The operand types bound every other operand. -/

namespace Sys2Proof

/-- A command is well formed when its bytes can be on the line: the pairs of SET_SETPOINTS fit a payload of 127 bytes
(R146), and a module answer has a start, a slot, a function, a length and a check, and at most 255 data bytes (R173). -/
def Instr.wellFormed : Instr → Bool
  | .setSetpoints pairs => decide (pairs.length ≤ 42)
  | .moduleAnswerReceived frame => decide (6 ≤ frame.length) && decide (frame.length ≤ 261)
  | _ => true

end Sys2Proof
end

