-- ==== Sys2Proof/Decode.lean ====
section
/-! DEFINITION. Reading commands. No row of the opcode table has bits, so no word spells a command; a host's request is spelled by the
kind byte and payload of its frame (R171), read and written here. -/

namespace Sys2Proof

/-- The command a word of the opcode table spells: the table gives no row any bits, so none. -/
def decodeTableWord (_nbits _w : Nat) : Option Instr := none

open Sys2Proof.Machine (wordBytes bytesWord)

/-- What the Link Unit reads in a frame whose check is good (R149): no request kind, a payload of a wrong length, or a request. -/
inductive Reading where
  | badKind
  | badLength
  | request (i : Instr)
  deriving DecidableEq, Repr

/-- The pairs of a SET_SETPOINTS payload: zone and setpoint, three bytes each (R171); none for an incomplete pair. -/
def readPairs : List Byte → Option (List (Byte × Word16))
  | [] => some []
  | z :: hi :: lo :: rest => (readPairs rest).map ((z, bytesWord hi lo) :: ·)
  | _ => none

/-- A list of pairs as payload bytes (R171). -/
def pairPayload (pairs : List (Byte × Word16)) : List Byte := pairs.flatMap fun p => p.1 :: wordBytes p.2

/-- A payload of no byte. -/
def readNone (i : Instr) : List Byte → Reading
  | [] => .request i
  | _ => .badLength

/-- A payload of one byte. -/
def readOne (f : Byte → Instr) : List Byte → Reading
  | [a] => .request (f a)
  | _ => .badLength

/-- A payload of two bytes. -/
def readTwo (f : Byte → Byte → Instr) : List Byte → Reading
  | [a, b] => .request (f a b)
  | _ => .badLength

/-- A payload of one 16-bit word. -/
def readWord (f : Word16 → Instr) : List Byte → Reading
  | [hi, lo] => .request (f (bytesWord hi lo))
  | _ => .badLength

/-- GRANT: watts and lifetime. -/
def readGrant : List Byte → Reading
  | [hi, lo, l] => .request (.grant (bytesWord hi lo) l)
  | _ => .badLength

/-- MAP_POINT: six bytes. -/
def readMapPoint : List Byte → Reading
  | [p, e, s, k, c, f] => .request (.mapPoint p e s k c f)
  | _ => .badLength

/-- OVERRIDE: channel, action, value. -/
def readOverride : List Byte → Reading
  | [c, a, hi, lo] => .request (.override c a (bytesWord hi lo))
  | _ => .badLength

/-- PASS: slot, operation, item, value. -/
def readPass : List Byte → Reading
  | [s, o, i, hi, lo] => .request (.pass s o i (bytesWord hi lo))
  | _ => .badLength

/-- SET_PARAM: number and value. -/
def readSetParam : List Byte → Reading
  | [nh, nl, vh, vl] => .request (.setParam (bytesWord nh nl) (bytesWord vh vl))
  | _ => .badLength

/-- SET_SETPOINTS: one to twelve pairs. -/
def readSetSetpoints (payload : List Byte) : Reading :=
  match readPairs payload with
  | some pairs => if 1 ≤ pairs.length ∧ pairs.length ≤ 12 then .request (.setSetpoints pairs) else .badLength
  | none => .badLength

/-- The request a frame's kind byte and payload spell (R171). -/
def decodeRequest (kind : Byte) (payload : List Byte) : Reading :=
  match kind.toNat with
  | 0x01 => readNone .identify payload
  | 0x02 => readNone .status payload
  | 0x03 => readWord .setReports payload
  | 0x04 => readWord .clearEvents payload
  | 0x10 => readSetSetpoints payload
  | 0x11 => readTwo .setZoneEnable payload
  | 0x12 => readTwo .readZones payload
  | 0x18 => readOne .readHandlers payload
  | 0x20 => readGrant payload
  | 0x21 => readNone .readAllotment payload
  | 0x28 => readOne .airHold payload
  | 0x29 => readOne .renewNow payload
  | 0x2A => readNone .readRenewals payload
  | 0x30 => readOne .trim payload
  | 0x31 => readMapPoint payload
  | 0x32 => readTwo .readPoints payload
  | 0x38 => readOverride payload
  | 0x39 => readTwo .readOutputs payload
  | 0x40 => readPass payload
  | 0x41 => readNone .passResult payload
  | 0x42 => readOne .lineEnable payload
  | 0x43 => readNone .readModules payload
  | 0x48 => readNone .standby payload
  | 0x49 => readNone .resume payload
  | 0x4A => readNone .park payload
  | 0x4B => readOne .cadence payload
  | 0x4C => readNone .restart payload
  | 0x50 => readWord .getParam payload
  | 0x51 => readSetParam payload
  | 0x52 => readNone .saveProfile payload
  | _ => .badKind

/-- The kind byte and payload of a request's frame (R171); a command that is no request has none. -/
def encodeRequest : Instr → Option (Byte × List Byte)
  | .identify => some (0x01, [])
  | .status => some (0x02, [])
  | .setReports m => some (0x03, wordBytes m)
  | .clearEvents m => some (0x04, wordBytes m)
  | .setSetpoints pairs => some (0x10, pairPayload pairs)
  | .setZoneEnable z e => some (0x11, [z, e])
  | .readZones f c => some (0x12, [f, c])
  | .readHandlers x => some (0x18, [x])
  | .grant w l => some (0x20, wordBytes w ++ [l])
  | .readAllotment => some (0x21, [])
  | .airHold v => some (0x28, [v])
  | .renewNow h => some (0x29, [h])
  | .readRenewals => some (0x2A, [])
  | .trim b => some (0x30, [b])
  | .mapPoint p e s k c f => some (0x31, [p, e, s, k, c, f])
  | .readPoints f c => some (0x32, [f, c])
  | .override c a v => some (0x38, [c, a] ++ wordBytes v)
  | .readOutputs f c => some (0x39, [f, c])
  | .pass s o i v => some (0x40, [s, o, i] ++ wordBytes v)
  | .passResult => some (0x41, [])
  | .lineEnable v => some (0x42, [v])
  | .readModules => some (0x43, [])
  | .standby => some (0x48, [])
  | .resume => some (0x49, [])
  | .park => some (0x4A, [])
  | .cadence v => some (0x4B, [v])
  | .restart => some (0x4C, [])
  | .getParam n => some (0x50, wordBytes n)
  | .setParam n v => some (0x51, wordBytes n ++ wordBytes v)
  | .saveProfile => some (0x52, [])
  | .hardReset _ | .profileLoadComplete _ | .rxByte _ | .gapTimeout | .txFrameEnd | .parkEntry | .restartEffect
  | .savePageComplete _ | .savePollTimeout | .regulationTimerExpiry | .demandSetReceived | .requestSetReceived
  | .allotmentAtHs | .allotmentAtZr | .ouValueReceived | .accountTimerExpiry | .restTimerExpiry _ | .dwellTimerExpiry _
  | .lifetimeExpiry | .intervalExpiry _ | .renewalComplete _ | .doorInputChange _ _ | .doorDebounceExpiry _
  | .doorTimerExpiry _ | .wakeInputChange _ | .wakeDebounceExpiry | .scanGapExpiry | .supplyConversion _
  | .fullTrim _ _ | .shortTrim _ _ | .tapReading _ | .trimIntervalExpiry | .pointStale _ | .periodEnd _ | .compareReached _
  | .moduleAnswerReceived _ | .moduleResponseTimeout | .moduleAnswerGap | .probeTimerExpiry _ | .readTimerExpiry _
  | .moduleRequestSent => none

end Sys2Proof
end

