-- ==== Sys2Proof/Machine/Settings.lean ====
section
/-! DEFINITION. The parameter catalogue (R164): numbers, ranges, structural parameters, the built-in profile (R163), and the
settings as the blocks read them from working memory. -/

namespace Sys2Proof.Machine

/-! ### Numbers of the catalogue (R164) -/

def zoneParam (z : Fin 12) (f : Nat) : Nat := 80 + 10 * z + f
def handlerParam (h : Fin 2) (f : Nat) : Nat := 73 + 3 * h + f
def pointParam (p : Fin 32) (f : Nat) : Nat := 200 + 5 * p + f
def channelParam (c : Fin 16) (f : Nat) : Nat := 360 + 4 * c + f
/-- Slot `i` of the type `Fin 8` is slot `i + 1`, whose kind is parameter 423 + slot. -/
def slotParam (i : Fin 8) : Nat := 424 + i

/-- The assigned numbers (R164). -/
def assigned (n : Nat) : Bool :=
  n ≤ 31 || (40 ≤ n && n ≤ 78) || (80 ≤ n && n ≤ 497)

/-- Numbers whose 16 bits are an unsigned pattern (R164); every other value is a signed number in range. -/
def isPattern (n : Nat) : Bool := n == 29 || n == 30 || n == 31

/-- The lowest and highest values of a parameter's range, where its own chapter gives them. -/
def paramRange (n : Nat) : Int × Int :=
  if n ≤ 31 then
    match n with
    | 0 => (0, 100) | 1 => (0, 64) | 2 => (0, 20) | 3 => (5, 120)
    | 4 => (100, 500) | 5 => (0, 90) | 6 => (100, 500) | 7 => (0, 90)
    | 8 => (100, 400) | 9 => (400, 1000) | 10 => (30, 300) | 11 => (60, 600)
    | 12 => (600, 7200) | 13 => (120, 600) | 14 => (-150, 50) | 15 => (-300, 100)
    | 16 => (100, 600) | 17 => (300, 1000) | 18 => (0, 500) | 19 => (0, 500)
    | 20 => (-1, 31) | 21 => (0, 20000) | 22 => (120, 3600) | 23 => (30, 300)
    | 24 => (5, 120) | 25 => (600, 5000) | 26 => (20, 160) | 27 => (10, 1000)
    | 28 => (60, 3600) | _ => (0, 65535)
  else if n = 40 then (1, 32)
  else if n ≤ 72 then (0, 23)
  else if n ≤ 78 then (if (n - 73) % 3 = 0 then (1000, 30000) else (-1, 31))
  else if n ≤ 199 then
    match (n - 80) % 10 with
    | 0 => (0, 1) | 1 => (0, 1) | 2 => (1, 15) | 3 => (120, 300) | 4 => (0, 31)
    | 5 => (-1, 31) | 6 => (-1, 3) | 7 => (-1, 15) | 8 => (-1, 15) | _ => (100, 5000)
  else if n ≤ 359 then
    match (n - 200) % 5 with
    | 0 => (0, 1) | 1 => (0, 63) | 2 => (0, 2) | 3 => (0, 1) | _ => (0, 6)
  else if n ≤ 423 then
    match (n - 360) % 4 with
    | 0 => (0, 51) | 1 => (16, 256) | 2 => (0, 3) | _ => (0, 1)
  else if n ≤ 431 then (0, 4)
  else (-400, 850)

/-- The value a parameter's 16 bits stand for. -/
def paramInt (n : Nat) (w : Word16) : Int := if isPattern n then (w.toNat : Int) else w.toInt

/-- Values inside the range that are no code of the field: holes in the codes of source and role, and the values between the
four of modulus and conversion time (R164). -/
def isListedCode (n : Nat) (v : Int) : Bool :=
  if n = 26 then v == 20 || v == 40 || v == 80 || v == 160
  else if 200 ≤ n && n ≤ 359 && (n - 200) % 5 == 1 then v ≤ 23 || 32 ≤ v
  else if 360 ≤ n && n ≤ 423 && (n - 360) % 4 == 0 then
    v ≤ 1 || (16 ≤ v && v ≤ 27) || (32 ≤ v && v ≤ 43) || 48 ≤ v
  else if 360 ≤ n && n ≤ 423 && (n - 360) % 4 == 1 then v == 16 || v == 32 || v == 64 || v == 256
  else true

/-- A value of an assigned parameter that lies in its range and is one of its field's codes (R164). -/
def inRange (n : Nat) (w : Word16) : Bool :=
  assigned n && decide ((paramRange n).1 ≤ paramInt n w) && decide (paramInt n w ≤ (paramRange n).2) && isListedCode n (paramInt n w)

/-- The structural parameters (R164). -/
def structural (n : Nat) : Bool :=
  (40 ≤ n && n ≤ 72) ||
  (80 ≤ n && n ≤ 199 && ((n - 80) % 10 == 1 || (n - 80) % 10 == 7 || (n - 80) % 10 == 8)) ||
  (200 ≤ n && n ≤ 359 && (n - 200) % 5 != 4) ||
  (360 ≤ n && n ≤ 423 && (n - 360) % 4 != 3) ||
  (424 ≤ n && n ≤ 431)

/-! ### The built-in default profile (R163) -/

/-- The built-in linear curve (R78): T[i] = -400 + trunc(1250 i / 32). -/
def builtinCurve (i : Nat) : Int := -400 + truncDiv (1250 * i) 32

/-- The built-in value of parameter `n` (R163 and the defaults of the chapters). -/
def builtinParam (n : Nat) : Int :=
  if n ≤ 31 then
    [20, 8, 5, 30, 150, 20, 150, 20, 250, 700, 60, 180, 2400, 600, -30, -150, 300, 800, 200, 150, 20, 3000, 600, 90, 20, 1400,
     40, 100, 300, 0xFFFF, 0, 0].getD n 0
  else if n < 40 then 0
  else if n = 40 then 24
  else if n ≤ 72 then (if n - 41 < 24 then ((n - 41 : Nat) : Int) else ((Config.spareScanTap (n - 41)).val : Int))
  else if n ≤ 78 then [14000, 16, 18, 14000, 17, 19].getD (n - 73) 0
  else if n < 80 then 0
  else if n ≤ 199 then
    let z := (n - 80) / 10
    match (n - 80) % 10 with
    | 0 => if z < 8 then 1 else 0
    | 1 => if z < 4 then 0 else 1
    | 2 => 4
    | 3 => 210
    | 4 => (z : Int)
    | 7 => if z < 8 then (z : Int) else -1
    | 9 => 1500
    | _ => -1
  else if n ≤ 359 then
    let p := (n - 200) / 5
    match (n - 200) % 5 with
    | 0 => if p < 24 then 1 else 0
    | 1 => if p < 24 then (p : Int) else 0
    | 4 => 2
    | _ => 0
  else if n ≤ 423 then
    let c := (n - 360) / 4
    match (n - 360) % 4 with
    | 0 => if c < 8 then 16 + (c : Int) else if c < 10 then 48 + ((c - 8 : Nat) : Int) else if c < 12 then 50 + ((c - 10 : Nat) : Int) else 1
    | 1 => if c < 12 then 256 else 64
    | 2 => if c < 8 then 1 else if c < 10 then 0 else if c < 12 then 1 else 3
    | _ => 0
  else if n ≤ 431 then (if n = 424 then 1 else if n = 425 then 2 else 0)
  else if n ≤ 464 then builtinCurve (n - 432)
  else if n ≤ 497 then builtinCurve (n - 465)
  else 0

/-- The built-in default profile: profile id 0, an empty lock list (R163). -/
def builtinProfile : WorkingMemory :=
  { params := Vector.ofFn fun n => BitVec.ofInt 16 (builtinParam n), locks := [] }

/-! ### Reading working memory -/

namespace WorkingMemory

/-- The 16 bits of parameter `n`. -/
def word (w : WorkingMemory) (n : Nat) : Word16 := w.params[n]?.getD 0

/-- Parameter `n` as a signed number. -/
def int (w : WorkingMemory) (n : Nat) : Int := (w.word n).toInt

/-- Parameter `n` as a number, for parameters that are never negative. -/
def nat (w : WorkingMemory) (n : Nat) : Nat := (w.int n).toNat

/-- Working memory with parameter `n` written. -/
def put (w : WorkingMemory) (n : Nat) (v : Word16) : WorkingMemory := { w with params := w.params.setIfInBounds n v }

/-- A field that may be absent: -1, or any value that is no number of its row, is absent. -/
def numberOrAbsent (w : WorkingMemory) (n k : Nat) : Option (Fin k) :=
  if h : 0 ≤ w.int n ∧ (w.int n).toNat < k then some ⟨(w.int n).toNat, h.2⟩ else none

def kp (w : WorkingMemory) : Int := w.int 0
def ki (w : WorkingMemory) : Int := w.int 1
def deadband (w : WorkingMemory) : Int := w.int 2
def holdLimit (w : WorkingMemory) : Nat := w.nat 3
def heatOn (w : WorkingMemory) : Int := w.int 4
def heatOff (w : WorkingMemory) : Int := w.int 5
def coolOn (w : WorkingMemory) : Int := w.int 6
def coolOff (w : WorkingMemory) : Int := w.int 7
def qMin (w : WorkingMemory) : Nat := w.nat 8
def qDef (w : WorkingMemory) : Nat := w.nat 9
def restTime (w : WorkingMemory) : Nat := w.nat 10
def reversalDwell (w : WorkingMemory) : Nat := w.nat 11
def defrostInterval (w : WorkingMemory) : Nat := w.nat 12
def defrostMaximum (w : WorkingMemory) : Nat := w.nat 13
def coilThreshold (w : WorkingMemory) : Int := w.int 14
def assistThreshold (w : WorkingMemory) : Int := w.int 15
def bMin (w : WorkingMemory) : Nat := w.nat 16
def renewalBlower (w : WorkingMemory) : Nat := w.nat 17
def dMin (w : WorkingMemory) : Nat := w.nat 18
def fMin (w : WorkingMemory) : Nat := w.nat 19
/-- The airflow settings that the HS reads together (R22; log 48). -/
def airSettings (w : WorkingMemory) : AirSettings := ⟨w.bMin, w.renewalBlower, w.dMin, w.fMin⟩
def outdoorPoint (w : WorkingMemory) : Option (Fin 32) := w.numberOrAbsent 20 32
def fallbackGrant (w : WorkingMemory) : Nat := w.nat 21
def renewalInterval (w : WorkingMemory) : Nat := w.nat 22
def renewalDuration (w : WorkingMemory) : Nat := w.nat 23
def doorCreditTime (w : WorkingMemory) : Nat := w.nat 24
def co2Limit (w : WorkingMemory) : Int := w.int 25
def scanGap (w : WorkingMemory) : Nat := w.nat 27
def trimInterval (w : WorkingMemory) : Nat := w.nat 28
/-- Report defaults, one bit a kind in kind order (R164), bit k for kind k (log 47). -/
def reportDefaults (w : WorkingMemory) : Word16 := w.word 29
/-- The profile id: parameter 30 its upper and 31 its lower 16 bits (R164). -/
def profileId (w : WorkingMemory) : Word32 := w.word 30 ++ w.word 31

/-- The scan list: the first `length` entries (R80). -/
def scanList (w : WorkingMemory) : List (Fin 24) :=
  ((List.range 32).take (w.nat 40)).map fun i => (w.numberOrAbsent (41 + i) 24).getD 0

def compressorRating (w : WorkingMemory) (h : Fin 2) : Nat := w.nat (handlerParam h 0)
def returnPoint (w : WorkingMemory) (h : Fin 2) : Option (Fin 32) := w.numberOrAbsent (handlerParam h 1) 32
def coilPoint (w : WorkingMemory) (h : Fin 2) : Option (Fin 32) := w.numberOrAbsent (handlerParam h 2) 32

def zoneDefaultEnabled (w : WorkingMemory) (z : Fin 12) : Bool := w.int (zoneParam z 0) == 1
def zoneHandler (w : WorkingMemory) (z : Fin 12) : Fin 2 := if w.int (zoneParam z 1) = 1 then 1 else 0
def zoneWeight (w : WorkingMemory) (z : Fin 12) : Nat := w.nat (zoneParam z 2)
def zoneDefaultSetpoint (w : WorkingMemory) (z : Fin 12) : Int := w.int (zoneParam z 3)
def zonePoint (w : WorkingMemory) (z : Fin 12) : Option (Fin 32) := w.numberOrAbsent (zoneParam z 4) 32
def zoneCo2Point (w : WorkingMemory) (z : Fin 12) : Option (Fin 32) := w.numberOrAbsent (zoneParam z 5) 32
def zoneDoor (w : WorkingMemory) (z : Fin 12) : Option (Fin 4) := w.numberOrAbsent (zoneParam z 6) 4
def zoneDamper (w : WorkingMemory) (z : Fin 12) : Option (Fin 16) := w.numberOrAbsent (zoneParam z 7) 16
def zoneReheat (w : WorkingMemory) (z : Fin 12) : Option (Fin 16) := w.numberOrAbsent (zoneParam z 8) 16
def zoneRating (w : WorkingMemory) (z : Fin 12) : Nat := w.nat (zoneParam z 9)

def curvePoint (w : WorkingMemory) (curveB : Bool) (i : Nat) : Int := w.int ((if curveB then 465 else 432) + i)

/-- A channel's modulus (R102). -/
def channelModulus (w : WorkingMemory) (c : Fin 16) : Nat := w.nat (channelParam c 1)

end WorkingMemory

/-! ### Enumerated settings (R164) -/

/-- The unit of a point's value (R92). -/
inductive PointKind where
  | temp
  | co2
  | level
  deriving DecidableEq, Repr

/-- Where a point's readings come from (R92). -/
inductive PointSource where
  | tap (t : Fin 24)
  | slot (i : Fin 8) (item : Fin 4)
  deriving DecidableEq, Repr

/-- What the profile expects in a slot (R115). -/
inductive SlotKind where
  | none
  | compressorDrive (h : Fin 2)
  | airMonitor
  | generic
  deriving DecidableEq, Repr

/-- The source a code stands for: tap t is t; slot s, item j is 32 + 4 (s - 1) + j. -/
def sourceOfCode (v : Nat) : PointSource :=
  if h : v < 24 then .tap ⟨v, h⟩
  else if h : 32 ≤ v ∧ v < 64 then .slot ⟨(v - 32) / 4, by omega⟩ ⟨(v - 32) % 4, by omega⟩
  else .tap 0

def kindOfCode (v : Nat) : PointKind := if v = 1 then .co2 else if v = 2 then .level else .temp

def roleOfCode (v : Nat) : Role :=
  if v = 1 then .spare
  else if h : 16 ≤ v ∧ v < 28 then .zoneDamper ⟨v - 16, by omega⟩
  else if h : 32 ≤ v ∧ v < 44 then .zoneReheat ⟨v - 32, by omega⟩
  else if h : 48 ≤ v ∧ v < 50 then .blower ⟨v - 48, by omega⟩
  else if h : 50 ≤ v ∧ v < 52 then .freshDamper ⟨v - 50, by omega⟩
  else .none

def stepOfCode (v : Nat) : ChannelStep := if v = 1 then .us100 else if v = 2 then .ms1 else if v = 3 then .ms10 else .us10

def polarityOfCode (v : Nat) : Polarity := if v = 1 then .inverted else .normal

def slotKindOfCode (v : Nat) : SlotKind :=
  if v = 1 then .compressorDrive 0 else if v = 2 then .compressorDrive 1 else if v = 3 then .airMonitor
  else if v = 4 then .generic else .none

/-- The code of a slot kind (R164), which MODULE_LOST carries (R151). -/
def SlotKind.code : SlotKind → Nat
  | .none => 0 | .compressorDrive h => 1 + h | .airMonitor => 3 | .generic => 4

namespace WorkingMemory

def pointEnabled (w : WorkingMemory) (p : Fin 32) : Bool := w.int (pointParam p 0) == 1
def pointSource (w : WorkingMemory) (p : Fin 32) : PointSource := sourceOfCode (w.nat (pointParam p 1))
def pointKind (w : WorkingMemory) (p : Fin 32) : PointKind := kindOfCode (w.nat (pointParam p 2))
def pointCurveB (w : WorkingMemory) (p : Fin 32) : Bool := w.int (pointParam p 3) == 1
def pointShift (w : WorkingMemory) (p : Fin 32) : Nat := w.nat (pointParam p 4)

def channelRole (w : WorkingMemory) (c : Fin 16) : Role := roleOfCode (w.nat (channelParam c 0))
def channelStep (w : WorkingMemory) (c : Fin 16) : ChannelStep := stepOfCode (w.nat (channelParam c 2))
def channelPolarity (w : WorkingMemory) (c : Fin 16) : Polarity := polarityOfCode (w.nat (channelParam c 3))

def slotKind (w : WorkingMemory) (i : Fin 8) : SlotKind := slotKindOfCode (w.nat (slotParam i))

/-- A handler's drive slot: the lowest-numbered slot whose kind is COMPRESSOR_DRIVE for it (R24). -/
def driveSlotOf (w : WorkingMemory) (h : Fin 2) : Option (Fin 8) :=
  (List.finRange 8).find? fun i => w.slotKind i == .compressorDrive h

/-- A profile as it may be loaded: every assigned parameter in range, and at most 64 locks, all assigned (R161). -/
def valid (w : WorkingMemory) : Bool :=
  ((List.range 512).all fun n => !assigned n || inRange n (w.word n)) &&
  decide (w.locks.length ≤ 64) && w.locks.all assigned

end WorkingMemory

end Sys2Proof.Machine
end

