-- ==== Sys2Proof/Machine/Flags.lean ====
section
/-! DEFINITION. The event set and the notice queue (R151 to R155, R158, R159), as operations on the Link Unit's state. -/

namespace Sys2Proof.Machine

/-- The record of a kind. -/
def LU.event (l : LU) (k : EventKind) : EventRecord := l.events[k.index]

/-- The Link Unit with the record of a kind replaced. -/
def LU.setEvent (l : LU) (k : EventKind) (r : EventRecord) : LU := { l with events := l.events.set k.index r }

/-- Queue a notice for a kind (R154): an entry for the kind stays, a full queue takes none. -/
def LU.queueNotice (l : LU) (k : EventKind) : LU :=
  if k ∈ l.queue then l else if l.queue.length < 8 then { l with queue := l.queue ++ [k] } else l

/-- Remove a kind's entry from the notice queue (R155). -/
def LU.dropNotice (l : LU) (k : EventKind) : LU := { l with queue := l.queue.filter (· ≠ k) }

/-- An occurrence of an event (R152): latched, subject and value replaced, the value brought into 16 bits, a notice queued if the
kind is enabled. -/
def LU.occur (l : LU) (k : EventKind) (subject : Nat) (value : Int) : LU :=
  let l' := l.setEvent k { l.event k with latched := true, subject := subject, value := clampInt (-32768) 32767 value }
  if (l.event k).enable then l'.queueNotice k else l'

/-- Set a kind's report enable from a mask, as SET_REPORTS does for a kind whose enable goes from yes to no (R158 step 1). -/
def LU.disable (mask : Word16) (l : LU) (k : EventKind) : LU :=
  if (l.event k).enable && !mask.getLsbD k.index then (l.setEvent k { l.event k with enable := false }).dropNotice k else l

/-- The same for a kind whose enable goes from no to yes (R158 step 2). -/
def LU.enableKind (mask : Word16) (l : LU) (k : EventKind) : LU :=
  if !(l.event k).enable && mask.getLsbD k.index then
    let l' := l.setEvent k { l.event k with enable := true }
    if (l.event k).latched then l'.queueNotice k else l'
  else l

/-- SET_REPORTS (R158): the removals first, then the enables in kind order. -/
def LU.setReports (l : LU) (mask : Word16) : LU :=
  EventKind.all.foldl (LU.enableKind mask) (EventKind.all.foldl (LU.disable mask) l)

/-- Clear one kind where the mask names it (R159). -/
def LU.clearKind (mask : Word16) (l : LU) (k : EventKind) : LU :=
  if mask.getLsbD k.index then
    (l.setEvent k { l.event k with latched := false, subject := 0, value := 0 }).dropNotice k
  else l

/-- CLEAR_EVENTS (R159). -/
def LU.clearEvents (l : LU) (mask : Word16) : LU := EventKind.all.foldl (LU.clearKind mask) l

/-- Take the report defaults as report enables when the load completes (R153), bit k for kind k (log 47), and queue a notice for
each kind that is then enabled and latched. -/
def LU.takeReportDefaults (l : LU) (mask : Word16) : LU :=
  let l' := EventKind.all.foldl (fun l k => l.setEvent k { l.event k with enable := mask.getLsbD k.index }) l
  EventKind.all.foldl (fun l k => if (l.event k).enable && (l.event k).latched then l.queueNotice k else l) l'

/-- The latched flags as a mask (R170). -/
def LU.latchedMask (l : LU) : Word16 := maskOf fun k => l.events[k].latched

/-- The report enables as a mask (R170). -/
def LU.enableMask (l : LU) : Word16 := maskOf fun k => l.events[k].enable

/-- The kinds STATUS lists: latched and enabled, in kind order (R157). -/
def LU.listed (l : LU) : List EventKind := EventKind.all.filter fun k => (l.event k).latched && (l.event k).enable

end Sys2Proof.Machine
end

