-- ==== Sys2Proof/Machine/Ops.lean ====
section
/-! DEFINITION. The named operations over State that the blocks share: updates of one record, the EEPROM's bytes, events, frames
and the transmitter, values handed to the Output Unit. -/

namespace Sys2Proof.Machine

/-! ### Updates of one block or one record -/

namespace State

def setZr (s : State) (x : ZR) : State := { s with zr := x }
def setHs (s : State) (x : HS) : State := { s with hs := x }
def setPa (s : State) (x : PA) : State := { s with pa := x }
def setRs (s : State) (x : RS) : State := { s with rs := x }
def setSu (s : State) (x : SU) : State := { s with su := x }
def setOu (s : State) (x : OU) : State := { s with ou := x }
def setMl (s : State) (x : ML) : State := { s with ml := x }
def setSc (s : State) (x : SC) : State := { s with sc := x }
def setLu (s : State) (x : LU) : State := { s with lu := x }
def setPl (s : State) (x : PL) : State := { s with pl := x }
def setBus (s : State) (x : Bus) : State := { s with bus := x }
def setPins (s : State) (x : Pins) : State := { s with pins := x }
def setEeprom (s : State) (x : Memory) : State := { s with eeprom := x }
def setTenth (s : State) (x : Nat) : State := { s with tenth := x }
def setFree (s : State) (x : Nat) : State := { s with free := x }
def setPending (s : State) (x : List Instr) : State := { s with pending := x }

/-- Working memory, which every block reads. -/
def wm (s : State) : WorkingMemory := s.pl.wm

def zone (s : State) (z : Fin 12) : Zone := s.zr.zones[z]
def handler (s : State) (h : Fin 2) : Handler := s.hs.handlers[h]
def renewal (s : State) (h : Fin 2) : Renewal := s.rs.renewals[h]
def bank (s : State) (b : Fin 3) : Bank := s.su.banks[b]
def point (s : State) (p : Fin 32) : Point := s.su.points[p]
def door (s : State) (d : Fin 4) : Door := s.su.doors[d]
def channel (s : State) (c : Fin 16) : Channel := s.ou.channels[c]
def slot (s : State) (i : Fin 8) : Slot := s.ml.slots[i]

def putZone (s : State) (z : Fin 12) (x : Zone) : State := s.setZr { s.zr with zones := s.zr.zones.set z x }
def putHandler (s : State) (h : Fin 2) (x : Handler) : State := s.setHs { s.hs with handlers := s.hs.handlers.set h x }
def putRenewal (s : State) (h : Fin 2) (x : Renewal) : State := s.setRs { s.rs with renewals := s.rs.renewals.set h x }
def putBank (s : State) (b : Fin 3) (x : Bank) : State := s.setSu { s.su with banks := s.su.banks.set b x }
def putPoint (s : State) (p : Fin 32) (x : Point) : State := s.setSu { s.su with points := s.su.points.set p x }
def putDoor (s : State) (d : Fin 4) (x : Door) : State := s.setSu { s.su with doors := s.su.doors.set d x }
def putChannel (s : State) (c : Fin 16) (x : Channel) : State := s.setOu { s.ou with channels := s.ou.channels.set c x }
def putSlot (s : State) (i : Fin 8) (x : Slot) : State := s.setMl { s.ml with slots := s.ml.slots.set i x }

end State

/-! ### Going through numbered items in order -/

def forHandlers (f : Fin 2 → State → State) (s : State) : State := f 1 (f 0 s)
def forBanks (f : Fin 3 → State → State) (s : State) : State := (List.finRange 3).foldl (fun s b => f b s) s
def forPoints (f : Fin 32 → State → State) (s : State) : State := (List.finRange 32).foldl (fun s p => f p s) s
def forChannels (f : Fin 16 → State → State) (s : State) : State := (List.finRange 16).foldl (fun s c => f c s) s
def forSlots (f : Fin 8 → State → State) (s : State) : State := (List.finRange 8).foldl (fun s i => f i s) s

/-! ### The EEPROM's bytes (R161, R169) -/

/-- What an address that is not listed reads: the byte of an erased cell (log 12). -/
def Memory.blankByte : Byte := 0xFF

/-- The byte at an address. -/
def Memory.read (m : Memory) (a : Nat) : Byte := ((m.cells.find? fun c => c.1 == a).map (·.2)).getD Memory.blankByte

/-- Write into a list of cells with rising addresses, keeping the form: the blank byte is not listed. -/
def writeCells (a : Nat) (b : Byte) : List Host.Cell → List Host.Cell
  | [] => if b = Memory.blankByte then [] else [(a, b)]
  | c :: cs =>
    if a < c.1 then (if b = Memory.blankByte then c :: cs else (a, b) :: c :: cs)
    else if a = c.1 then (if b = Memory.blankByte then cs else (a, b) :: cs)
    else c :: writeCells a b cs

/-- Write one byte. -/
def Memory.write (m : Memory) (a : Nat) (b : Byte) : Memory := { m with cells := writeCells a b m.cells }

/-- Write bytes from an address upward. -/
def Memory.writeBytes (m : Memory) (a : Nat) : List Byte → Memory
  | [] => m
  | b :: bs => (m.write a b).writeBytes (a + 1) bs

/-- The `n` bytes from an address upward. -/
def Memory.readBytes (m : Memory) (a n : Nat) : List Byte := (List.range n).map fun i => m.read (a + i)

/-- Cells with strictly rising addresses above a bound and no blank byte. -/
def cellsWf (lowest : Nat) : List Host.Cell → Bool
  | [] => true
  | c :: cs => decide (lowest ≤ c.1) && decide (c.2 ≠ Memory.blankByte) && cellsWf (c.1 + 1) cs

/-- The canonical form of the EEPROM's contents: rising addresses, no blank byte listed. -/
def Memory.wf (m : Memory) : Bool := cellsWf 0 m.cells

/-! ### Events -/

/-- A block reports an event to the Link Unit (R152). -/
def latch (k : EventKind) (subject : Nat) (value : Int) (s : State) : State := s.setLu (s.lu.occur k subject value)

/-! ### Frames and the transmitter (R150, R155, R170, R171) -/

/-- The kind codes of the part's own frames (R171). -/
def kindReject : Byte := 0xF0
def kindNotice : Byte := 0xF1
def kindAnswerPart : Byte := 0xF2

/-- Cut a content into pieces of 127 bytes and a last piece of 1 to 127 bytes; the last is a frame of the answer kind (R170).
`fuel` bounds the number of pieces. -/
def cutContent (kind : Byte) : Nat → List Byte → Frame × List Frame
  | 0, content => (⟨kind, content⟩, [])
  | fuel + 1, content =>
    if content.length ≤ 127 then (⟨kind, content⟩, [])
    else
      let tail := cutContent kind fuel (content.drop 127)
      (⟨kindAnswerPart, content.take 127⟩, tail.1 :: tail.2)

/-- The frames of the answer to a request of kind `kind` (R170, R171). -/
def answerFrames (kind : Byte) (content : List Byte) : Frame × List Frame := cutContent (kind + 0x80) content.length content

/-- A reject frame: reason and kind byte (R171). -/
def rejectFrame (reason kind : Byte) : Frame := ⟨kindReject, [reason, kind]⟩

/-- The notice of a kind: kind, subject and value as the record holds them now (R155, R171). -/
def noticeFrame (l : LU) (k : EventKind) : Frame :=
  ⟨kindNotice, num8 k.index ++ num8 (l.event k).subject ++ int16 (l.event k).value⟩

/-- The bytes of a control-link frame (R146, R171). -/
def Frame.bytes (f : Frame) : List Byte :=
  let body := BitVec.ofNat 8 (f.payload.length + 1) :: f.kind :: f.payload
  0xC3 :: body ++ wordBytes (crc16 body)

/-- The idle transmitter takes the next frame (R150): the answer or reject due, then the overrun reject due, then the oldest
notice. Nothing is sent in PARKED, and nothing is taken between the last byte of a PARK or RESTART answer and its effect. -/
def LU.takeNext (l : LU) : LU :=
  match l.transmitter with
  | .sending .. => l
  | .idle =>
    match l.answer with
    | some (f, rest) => { l with answer := none, transmitter := .sending .answer f rest }
    | none =>
      if l.after ≠ .none then l
      else match l.overrunReject with
        | some k => { l with overrunReject := none, transmitter := .sending .overrunReject (rejectFrame rejectOverrun k) [] }
        | none =>
          match l.queue with
          | [] => l
          | k :: q => { l with queue := q, transmitter := .sending .notice (noticeFrame l k) [] }

/-- The transmitter looks for its next frame at the end of a step (log 8). -/
def kick (s : State) : State := if s.sc.opState = .parked then s else s.setLu s.lu.takeNext

/-- The answer to the frame in hand falls due (R149). -/
def answerDue (kind : Byte) (content : List Byte) (s : State) : State :=
  s.setLu { s.lu with answer := some (answerFrames kind content) }

/-- The answer to the frame in hand has been sent (R148): the buffer is free, and a set overrun mark makes a reject due. -/
def LU.answerEnded (l : LU) : LU :=
  match l.overrun with
  | some k => { l with inHand := none, overrun := none, overrunReject := some k }
  | none => { l with inHand := none }

/-! ### Values for the Output Unit (R106) -/

/-- The Handler Sequencer hands the Output Unit a value for a role. -/
def handValue (r : Role) (v : Nat) (s : State) : State := s.setBus { s.bus with ouValues := s.bus.ouValues ++ [(r, v)] }

end Sys2Proof.Machine
end

