-- ==== Sys2Proof/Machine/Sensing.lean ====
section
/-! DEFINITION. Corrections, trims' arithmetic, linearisation, filter and the point table (05), without the scan pass. -/

namespace Sys2Proof.Machine

/-! ### From codes to readings (R82, R85, R93, R94) -/

/-- The bank of an input tap (R78). -/
def bankOfTap (t : Fin 24) : Fin 3 := ⟨t / 8, by omega⟩

/-- The corrected code of a raw code (R85). -/
def correctedCode (b : Bank) (raw : Nat) : Int :=
  clampInt 0 4095 (raw + b.offset + floorDiv (raw * b.gain + 2048) 4096)

/-- TEMP from a tap through a curve of 33 temperatures (R93). -/
def curveReading (curve : Nat → Int) (c : Nat) : Int :=
  curve (c / 128) + floorDiv ((curve (c / 128 + 1) - curve (c / 128)) * (c % 128 : Nat) + 64) 128

/-- The reading of a corrected code by a point's kind (R93). DESIGN CHOICE against R78: a changed curve counts from the next reading, also
within a pass (log 19). -/
def tapReading (w : WorkingMemory) (p : Fin 32) (c : Nat) : Int :=
  match w.pointKind p with
  | .temp => curveReading (w.curvePoint (w.pointCurveB p)) c
  | .co2 => floorDiv (c * 5000 + 2048) 4095
  | .level => floorDiv (c * 1000 + 2048) 4095

/-- A module item as a reading: clamped to the kind's range (R93). -/
def moduleReading (k : PointKind) (item : Int) : Int :=
  match k with
  | .temp => clampInt (-400) 850 item
  | .co2 => clampInt 0 5000 item
  | .level => clampInt 0 1000 item

/-- The filtered value after a further reading (R94). -/
def filtered (shift : Nat) (value t : Int) : Int :=
  let h : Int := if shift = 0 then 0 else 2 ^ (shift - 1)
  value + floorDiv (t - value + h) (2 ^ shift)

/-! ### A point takes a reading (R95) -/

/-- A point takes an in-range reading (R95). -/
def takeInRange (p : Fin 32) (t : Int) (s : State) : State :=
  let x := s.point p
  match x.state with
  | .absent => s
  | .pending => s.putPoint p { x with state := .valid, value := t, age := 0, run := 0 }
  | .valid | .held => s.putPoint p { x with state := .valid, value := filtered (s.wm.pointShift p) x.value t, age := 0, run := 0 }
  | .failed =>
    if x.run < 2 then s.putPoint p { x with run := x.run + 1, age := 0 }
    else latch .sensorRestored p t (s.putPoint p { x with state := .valid, value := t, age := 0, run := 0 })

/-- A point takes an out-of-range reading (R95). -/
def takeOutOfRange (p : Fin 32) (s : State) : State :=
  let x := s.point p
  match x.state with
  | .absent => s
  | .failed => s.putPoint p { x with age := 0, run := 0 }
  | .pending | .valid | .held =>
    latch .sensorFailed p causeRange (s.putPoint p { x with state := .failed, age := 0, run := 0 })

/-- A reading reaches one point on the tap (R82): the raw code is checked, corrected, linearised and taken. -/
def takeRaw (t : Fin 24) (raw : Nat) (p : Fin 32) (s : State) : State :=
  if s.wm.pointEnabled p ∧ s.wm.pointSource p = .tap t then
    if raw < 16 ∨ 4079 < raw then takeOutOfRange p s
    else takeInRange p (tapReading s.wm p (correctedCode (s.bank (bankOfTap t)) raw).toNat) s
  else s

/-- A module item reaches one point on the slot and item (R97). -/
def takeItem (i : Fin 8) (item : Fin 4) (value : Int) (p : Fin 32) (s : State) : State :=
  if s.wm.pointEnabled p ∧ s.wm.pointSource p = .slot i item then
    takeInRange p (moduleReading (s.wm.pointKind p) value) s
  else s

/-- The Module Line Master hands the SU one item of a slot (R97). -/
def handItem (i : Fin 8) (item : Fin 4) (value : Int) (s : State) : State := forPoints (takeItem i item value) s

/-! ### Points change state between readings (R83, R86, R88, R96, R97) -/

/-- A VALID point becomes HELD with its value kept. -/
def holdPoint (p : Fin 32) (s : State) : State :=
  if (s.point p).state = .valid then s.putPoint p { s.point p with state := .held } else s

/-- A point becomes or stays FAILED, with run count 0; SENSOR_FAILED is latched with the cause unless it already was FAILED. -/
def failPoint (p : Fin 32) (cause : Int) (s : State) : State :=
  let s1 := s.putPoint p { s.point p with state := .failed, run := 0 }
  if (s.point p).state = .failed then s1 else latch .sensorFailed p cause s1

/-- Whether an enabled point's source is a tap of the bank. -/
def WorkingMemory.onBank (w : WorkingMemory) (b : Fin 3) (p : Fin 32) : Bool :=
  w.pointEnabled p && match w.pointSource p with
  | .tap t => bankOfTap t == b
  | .slot _ _ => false

/-- Whether an enabled point's source is an input tap. -/
def WorkingMemory.onTap (w : WorkingMemory) (p : Fin 32) : Bool :=
  w.pointEnabled p && match w.pointSource p with
  | .tap _ => true
  | .slot _ _ => false

/-- Whether an enabled point's source is the slot. -/
def WorkingMemory.onSlot (w : WorkingMemory) (i : Fin 8) (p : Fin 32) : Bool :=
  w.pointEnabled p && match w.pointSource p with
  | .tap _ => false
  | .slot j _ => j == i

/-- The supply watch holds the VALID tap points (R83). -/
def holdTapPoints (s : State) : State := forPoints (fun p s => if s.wm.onTap p then holdPoint p s else s) s

/-- The trim quiet of a bank (R86). -/
def trimQuiet (b : Fin 3) (s : State) : State := forPoints (fun p s => if s.wm.onBank b p then holdPoint p s else s) s

/-- A bank's points fail (R88). -/
def failBankPoints (b : Fin 3) (s : State) : State :=
  forPoints (fun p s => if s.wm.onBank b p then failPoint p causeBank s else s) s

/-- A slot became ABSENT or LOST: its points fail (R97). -/
def failSlotPoints (i : Fin 8) (s : State) : State :=
  forPoints (fun p s => if s.wm.onSlot i p then failPoint p causeSlot s else s) s

/-- The stale limit of a point in tenths of a second (R96). -/
def WorkingMemory.staleLimit (w : WorkingMemory) (p : Fin 32) : Nat :=
  match w.pointSource p with
  | .tap _ => 50
  | .slot _ _ => 150

/-! ### Trims (R87 to R89) -/

/-- The sum of codes. -/
def sumCodes (l : List Code) : Nat := l.foldl (fun n c => n + c.toNat) 0

/-- G* of a positive span (R87). -/
def gainStar (span : Int) : Int := roundHalfAway (4096 * (3072 - span)) span

/-- O* (R87). -/
def offsetStar (mLo g : Int) : Int := 512 - mLo - floorDiv (mLo * g + 2048) 4096

/-- One step toward a target (R89). -/
def stepToward (x target : Int) : Int := if x < target then x + 1 else if target < x then x - 1 else x

/-- The correction a full trim finds, when it is in range (R87): offset and gain. -/
def fullCorrection (mLo mHi : Nat) : Option (Int × Int) :=
  let span : Int := mHi - mLo
  if span ≤ 0 then none
  else
    let g := gainStar span
    let o := offsetStar mLo g
    if -128 ≤ g ∧ g ≤ 127 ∧ -64 ≤ o ∧ o ≤ 63 then some (o, g) else none

/-- The value of TRIM_LIMIT (R87): G* when it is out of range, otherwise O*, and 0 when the span is not positive. -/
def trimLimitValue (mLo mHi : Nat) : Int :=
  let span : Int := mHi - mLo
  if span ≤ 0 then 0
  else
    let g := gainStar span
    if -128 ≤ g ∧ g ≤ 127 then offsetStar mLo g else g

/-- The arithmetic of a full trim of a bank (R87, R88); TRIM_LIMIT is latched before the SENSOR_FAILED of its points (log 45). -/
def endFullTrim (b : Fin 3) (mLo mHi : Nat) (s : State) : State :=
  let x := s.bank b
  let done := { x with trim := .idle, lastTrim := .full, mLo := mLo, mHi := mHi }
  match fullCorrection mLo mHi with
  | some (o, g) => s.putBank b { done with offset := o, gain := g, lastOutcome := .installed, failed := false }
  | none =>
    failBankPoints b (latch .trimLimit b (trimLimitValue mLo mHi)
      (s.putBank b { done with lastOutcome := .limit, failed := true }))

/-- The arithmetic of a short trim of a bank (R89). -/
def endShortTrim (b : Fin 3) (mLo mHi : Nat) (s : State) : State :=
  let x := s.bank b
  let done := { x with trim := .idle, lastTrim := .short, lastOutcome := .stepped, mLo := mLo, mHi := mHi }
  let span : Int := mHi - mLo
  if span ≤ 0 then s.putBank b done
  else
    let g := gainStar span
    s.putBank b { done with
      offset := clampInt (-64) 63 (stepToward x.offset (offsetStar mLo g))
      gain := clampInt (-128) 127 (stepToward x.gain g) }

/-- A trim is under way while any bank's trim state is not IDLE (R86). -/
def State.trimUnderWay (s : State) : Bool := (List.finRange 3).any fun b => (s.bank b).trim != .idle

/-! ### Settings of a point (R92, R98) -/

/-- The cause for which an enabled point is FAILED by its source: a failed bank, or a slot ABSENT or LOST (R92, R98). -/
def State.sourceFailed (s : State) (p : Fin 32) : Option Int :=
  match s.wm.pointSource p with
  | .tap t => if (s.bank (bankOfTap t)).failed then some causeBank else none
  | .slot i _ => if (s.slot i).state = .present then none else some causeSlot

/-- The point's state after its settings changed from those of `before` to those working memory now holds, by the first row of
R98's table that applies; a point that stays disabled stays ABSENT (log 20). -/
def applyPointChange (before : WorkingMemory) (p : Fin 32) (s : State) : State :=
  let x := s.point p
  if !s.wm.pointEnabled p then
    if before.pointEnabled p then s.putPoint p { x with state := .absent, run := 0 } else s
  else match s.sourceFailed p with
    | some cause => failPoint p cause s
    | none =>
      if !before.pointEnabled p ∨ s.wm.pointSource p ≠ before.pointSource p ∨ s.wm.pointKind p ≠ before.pointKind p
          ∨ s.wm.pointCurveB p ≠ before.pointCurveB p then
        s.putPoint p { x with state := .pending, run := 0 }
      else s

/-- The state a point takes when the profile load completes (R92); no event is latched. -/
def State.firstPointState (s : State) (p : Fin 32) : PointState :=
  if !s.wm.pointEnabled p then .absent else if (s.sourceFailed p).isSome then .failed else .pending

/-- The points take the loaded profile (R92). -/
def pointsLoaded (s : State) : State :=
  forPoints (fun p s => s.putPoint p { s.point p with state := s.firstPointState p }) s

/-! ### The commands that touch points alone -/

/-- POINT_STALE (R96): a VALID point's age has passed its stale limit (log 3); it becomes HELD with its value kept. -/
def execPointStale (p : Fin 32) (s : State) : Host.Outcome State Fault Refusal :=
  let x := s.point p
  if x.state = .valid then
    .next (s.putPoint p { x with state := .held, age := max x.age (s.wm.staleLimit p + 1) })
  else .next s

/-! ### Requests (R90, R98, R99) -/

/-- TRIM at the Sensing Unit (R90). -/
def trimOwner (v : Byte) (s : State) : State × List Byte :=
  if 3 < v.toNat then (s, [codeBadArg])
  else if s.trimUnderWay then (s, [codeBusy])
  else
    let s' := forBanks (fun b s =>
      if v = 3 ∨ v.toNat = b then s.putBank b { s.bank b with trim := .fullQueued } else s) s
    (s', [codeOk] ++ num8 (s'.bank 0).trim.code ++ num8 (s'.bank 1).trim.code ++ num8 (s'.bank 2).trim.code)

/-- The five setting bytes of a point, coded as the catalogue codes them (R164, R170). -/
def WorkingMemory.pointBytes (w : WorkingMemory) (p : Fin 32) : List Byte :=
  (List.range 5).flatMap fun f => num8 (w.nat (pointParam p f))

/-- MAP_POINT's argument check (R98). -/
def mapPointArgs (point enabled source kind curve shift : Byte) : Bool :=
  decide (point.toNat ≤ 31) && decide (enabled.toNat ≤ 1) &&
  (decide (source.toNat ≤ 23) || (decide (32 ≤ source.toNat) && decide (source.toNat ≤ 63))) &&
  decide (kind.toNat ≤ 2) && decide (curve.toNat ≤ 1) && decide (shift.toNat ≤ 6)

/-- Working memory with the five settings of a point written. -/
def WorkingMemory.putPointSettings (w : WorkingMemory) (p : Fin 32) (enabled source kind curve shift : Byte) : WorkingMemory :=
  ((((w.put (pointParam p 0) (enabled.setWidth 16)).put (pointParam p 1) (source.setWidth 16)).put
    (pointParam p 2) (kind.setWidth 16)).put (pointParam p 3) (curve.setWidth 16)).put (pointParam p 4) (shift.setWidth 16)

/-- MAP_POINT at the Sensing Unit (R98, R167). DESIGN CHOICE: with a locked setting the answer is LOCKED, also where nothing would change
(log 55). -/
def mapPointOwner (point enabled source kind curve shift : Byte) (s : State) : State × List Byte :=
  if !mapPointArgs point enabled source kind curve shift then (s, [codeBadArg])
  else
    let p : Fin 32 := Fin.ofNat 32 point.toNat
    let reply (s' : State) (code : Byte) : State × List Byte :=
      (s', [code] ++ s'.wm.pointBytes p ++ num8 (s'.point p).state.code)
    let w' := s.wm.putPointSettings p enabled source kind curve shift
    if (List.range 5).any fun f => s.wm.locks.contains (pointParam p f) then reply s codeLocked
    else if s.sc.opState = .run ∧ (w'.word (pointParam p 0) ≠ s.wm.word (pointParam p 0)
        ∨ w'.word (pointParam p 2) ≠ s.wm.word (pointParam p 2) ∨ w'.word (pointParam p 3) ≠ s.wm.word (pointParam p 3)) then
      reply s codeWrongState
    else if (List.range 5).all fun f => w'.word (pointParam p f) == s.wm.word (pointParam p f) then reply s codeOk
    else reply (applyPointChange s.wm p (s.setPl { s.pl with wm := w' })) codeOk

/-- One bank record as READ_POINTS gives it (R172). -/
def Bank.bytes (b : Bank) : List Byte :=
  int8 b.offset ++ int8 b.gain ++ yesNo b.failed ++ num8 b.trim.code ++ num8 b.lastTrim.code ++ num8 b.lastOutcome.code
    ++ num16 b.mLo ++ num16 b.mHi

/-- One door record as READ_POINTS gives it (R172). -/
def Door.bytes (d : Door) : List Byte := num8 (doorCode d.state) ++ num16 d.openSeconds ++ yesNo d.credited

/-- One point entry as READ_POINTS gives it (R172). -/
def State.pointEntry (s : State) (p : Fin 32) : List Byte :=
  num8 p ++ s.wm.pointBytes p ++ int16 (s.point p).value ++ num8 (s.point p).state.code ++ num16 (s.point p).age
    ++ num8 (s.point p).run

/-- A run of consecutive numbers below `n` asked for by first and count; none where the request is BAD_ARG. -/
def runOf (n : Nat) (first count : Byte) : Option (List (Fin n)) :=
  if first.toNat < n ∧ 1 ≤ count.toNat ∧ count.toNat ≤ n ∧ first.toNat + count.toNat ≤ n then
    some ((List.finRange n).filter fun i => decide (first.toNat ≤ i) && decide (i < first.toNat + count.toNat))
  else none

/-- READ_POINTS at the Sensing Unit (R99, R172). -/
def readPointsOwner (first count : Byte) (s : State) : State × List Byte :=
  match runOf 32 first count with
  | none => (s, [codeBadArg])
  | some ps =>
    (s, [codeOk] ++ num8 s.su.supply.code ++ num16 s.su.supplyCode
      ++ (List.finRange 3).flatMap (fun b => (s.bank b).bytes)
      ++ num16 ((s.su.trimTimer.map secondsLeft).getD 0)
      ++ (List.finRange 4).flatMap (fun d => (s.door d).bytes)
      ++ ps.flatMap s.pointEntry)

end Sys2Proof.Machine
end

