-- ==== Sys2Proof/Machine/Outputs.lean ====
section
/-! DEFINITION. The output channels (06): values, compares, period ends, overrides, gating and settings. -/

namespace Sys2Proof.Machine

/-! ### From values to compares (R107 to R109) -/

/-- The effective value of a role, a received value and an override (R108). -/
def effectiveOf (r : Role) (received : Nat) (override : Option Nat) : Nat :=
  match r with
  | .zoneDamper _ | .blower _ | .freshDamper _ => override.getD received
  | .zoneReheat _ => match override with
    | some v => min v received
    | none => received
  | .spare => override.getD 0
  | .none => 0

/-- The compare of a value at a modulus (R109). -/
def compareOf (v m : Nat) : Nat := (v * m + 500) / 1000

/-- Effective value and pending compare anew, with the modulus in force (R108, R109). -/
def Channel.recompute (x : Channel) : Channel :=
  let v := effectiveOf x.role x.received x.override
  { x with effective := v, pendingCompare := compareOf v x.modulus }

/-- Whether a channel of a role takes values from the HS (R107). -/
def WorkingMemory.binds (w : WorkingMemory) (c : Fin 16) : Role → Bool
  | .blower _ | .freshDamper _ => true
  | .zoneDamper z => w.zoneDamper z == some c
  | .zoneReheat z => w.zoneReheat z == some c
  | .spare | .none => false

/-- The bound field anew; a channel that ceases to be bound takes received value 0 (R107). -/
def deriveBound (c : Fin 16) (s : State) : State :=
  let x := s.channel c
  let now := s.wm.binds c x.role
  s.putChannel c (if x.bound && !now then ({ x with bound := now, received := 0 }).recompute else { x with bound := now })

/-- A channel takes a value for a role (R106). -/
def takeValue (r : Role) (v : Nat) (c : Fin 16) (s : State) : State :=
  let x := s.channel c
  if x.role = r ∧ x.bound then s.putChannel c ({ x with received := v }).recompute else s

/-- OU_VALUE_RECEIVED (R106): the oldest value handed over is taken in RUN and discarded otherwise (log 2).
DESIGN CHOICE: so too a value handed over before RUN was left and received after the return (log 59). -/
def execOuValueReceived (s : State) : Host.Outcome State Fault Refusal :=
  match s.bus.ouValues with
  | [] => .next s
  | (r, v) :: rest =>
    let s1 := s.setBus { s.bus with ouValues := rest }
    .next (if s.sc.opState = .run then forChannels (takeValue r v) s1 else s1)

/-! ### The waveform and the period end (R104, R105) -/

/-- The channel's output: active while the counter is below the compare in force (R104). -/
def Channel.active (x : Channel) : Bool := decide (x.counter < x.compare)

/-- The level at the pin, true for high: low until the load completes (R103), then by polarity (R104). -/
def State.pinLevel (s : State) (c : Fin 16) : Bool :=
  s.pl.loadState == .loaded && match (s.channel c).polarity with
  | .normal => (s.channel c).active
  | .inverted => !(s.channel c).active

/-- The duty in force, in per mille (R114). -/
def Channel.duty (x : Channel) : Nat := 1000 * x.compare / x.modulus

/-- The period end of a channel (R105): pending settings in force, the pending compare recomputed for a new modulus and installed,
and the new period begun at counter 0. -/
def Channel.endPeriod (x : Channel) : Channel :=
  let m := x.newModulus.getD x.modulus
  let pend := if m = x.modulus then x.pendingCompare else compareOf x.effective m
  { x with modulus := m, step := x.newStep.getD x.step, polarity := x.newPolarity.getD x.polarity, newModulus := none,
           newStep := none, newPolarity := none, pendingCompare := pend, compare := pend, counter := 0, prescale := 0 }

/-- PERIOD_END (R105): before the load completes the counters are held at 0 and no period ends (R103). -/
def execPeriodEnd (c : Fin 16) (s : State) : Host.Outcome State Fault Refusal :=
  if s.pl.loadState = .loaded then .next (s.putChannel c (s.channel c).endPeriod) else .next s

/-- COMPARE_REACHED (R104): the counter stands at the compare in force, and the output goes inactive. Of a channel that is already
past it, or whose compare is no position within the period, it says nothing (log 36). -/
def execCompareReached (c : Fin 16) (s : State) : Host.Outcome State Fault Refusal :=
  let x := s.channel c
  if s.pl.loadState = .loaded ∧ x.counter < x.compare ∧ x.compare < x.modulus then
    .next (s.putChannel c { x with counter := x.compare, prescale := 0 })
  else .next s

/-! ### Gating, and the loaded profile (R103, R111) -/

/-- A channel zeroed: both compares, received and effective value 0, no override (R111). -/
def Channel.zero (x : Channel) : Channel :=
  { x with received := 0, override := none, effective := 0, pendingCompare := 0, compare := 0 }

/-- The zeroing of every channel (R111). -/
def zeroOutputs (s : State) : State := s.setOu { s.ou with channels := s.ou.channels.map Channel.zero }

/-- Each channel takes its settings from the loaded profile, and its bound field is derived (R103). -/
def channelsLoaded (s : State) : State :=
  s.setOu { s.ou with channels := Vector.ofFn fun c => { s.ou.channels[c] with
    role := s.wm.channelRole c, modulus := s.wm.channelModulus c, step := s.wm.channelStep c,
    polarity := s.wm.channelPolarity c, bound := s.wm.binds c (s.wm.channelRole c) } }

/-! ### Changes of settings (R112, R113) -/

/-- A pending setting: absent when it is the value in force (R112). -/
def pendingSetting {α : Type} [DecidableEq α] (inForce now : α) : Option α := if now = inForce then none else some now

/-- A channel's modulus changed in working memory (R112). -/
def modulusChanged (c : Fin 16) (s : State) : State :=
  s.putChannel c { s.channel c with newModulus := pendingSetting (s.channel c).modulus (s.wm.channelModulus c) }

/-- A channel's step changed in working memory (R112). -/
def stepChanged (c : Fin 16) (s : State) : State :=
  s.putChannel c { s.channel c with newStep := pendingSetting (s.channel c).step (s.wm.channelStep c) }

/-- A channel's polarity changed in working memory (R113). -/
def polarityChanged (c : Fin 16) (s : State) : State :=
  s.putChannel c { s.channel c with newPolarity := pendingSetting (s.channel c).polarity (s.wm.channelPolarity c) }

/-- A channel's role changed in working memory (R113). -/
def roleChanged (c : Fin 16) (s : State) : State :=
  let r := s.wm.channelRole c
  s.putChannel c ({ s.channel c with role := r, received := 0, override := none, bound := s.wm.binds c r }).recompute

/-- A zone's damper or reheat channel changed in working memory (R107, R113). -/
def zoneChannelChanged (s : State) : State := forChannels deriveBound s

/-! ### Requests (R110, R114) -/

/-- What OVERRIDE answers of a channel (R110). -/
def State.overrideBytes (s : State) (c : Fin 16) : List Byte :=
  let x := s.channel c
  num8 c ++ num8 x.role.code ++ orAbsent16 (x.override.map Int.ofNat) ++ num16 x.received ++ num16 x.effective
    ++ num16 x.pendingCompare ++ num16 x.compare

/-- OVERRIDE at the Output Unit (R110): action SET is 0, RELEASE 1. -/
def overrideOwner (channel action : Byte) (value : Word16) (s : State) : State × List Byte :=
  if h : channel.toNat < 16 then
    let c : Fin 16 := ⟨channel.toNat, h⟩
    let x := s.channel c
    if 1 < action.toNat ∨ (action = 0 ∧ 1000 < value.toNat) then (s, [codeBadArg])
    else if x.role = .none then (s, [codeBadArg])
    else if s.sc.opState = .standby then (s, [codeWrongState] ++ s.overrideBytes c)
    else
      let s' := s.putChannel c ({ x with override := if action = 0 then some value.toNat else none }).recompute
      (s', [codeOk] ++ s'.overrideBytes c)
  else (s, [codeBadArg])

/-- One channel as READ_OUTPUTS gives it (R114). -/
def Channel.bytes (x : Channel) : List Byte :=
  num8 x.role.code ++ num16 x.modulus ++ num8 x.step.code ++ num8 x.polarity.code ++ yesNo x.bound ++ num16 x.received
    ++ orAbsent16 (x.override.map Int.ofNat) ++ num16 x.effective ++ num16 x.pendingCompare ++ num16 x.compare
    ++ orAbsent16 (x.newModulus.map Int.ofNat) ++ orAbsent8 (x.newStep.map (·.code)) ++ orAbsent8 (x.newPolarity.map (·.code))
    ++ num16 x.duty

/-- READ_OUTPUTS at the Output Unit (R114): the list begins with its count (R170; log 17). -/
def readOutputsOwner (first count : Byte) (s : State) : State × List Byte :=
  match runOf 16 first count with
  | none => (s, [codeBadArg])
  | some cs => (s, [codeOk] ++ num8 cs.length ++ cs.flatMap fun c => (s.channel c).bytes)

end Sys2Proof.Machine
end

