-- ==== Sys2Proof/Machine/Power.lean ====
section
/-! DEFINITION. Power allotment (03): the grant, the five steps of an allotment in exact products, its record. -/

namespace Sys2Proof.Machine

/-! ### Step 1: fixed requests (R48) -/

/-- What step 1 has found so far: the fixed power F, each handler's outcome and granted command. -/
structure Fixed where
  power : Nat
  outcome : Vector FixedOutcome 2
  command : Vector Nat 2
  deriving DecidableEq, Repr

/-- One handler in one pass of step 1 (R48): the fixed power is taken whole or not at all. -/
def fixOne (cap qDef : Nat) (r : RequestSet) (mark : RequestHandler → Bool) (yes no : FixedOutcome) (h : Fin 2) (x : Fixed) : Fixed :=
  if mark r.handlers[h] then
    let need := (r.handlers[h]).rating * qDef
    if x.power + need ≤ cap then ⟨x.power + need, x.outcome.set h yes, x.command.set h qDef⟩
    else { x with outcome := x.outcome.set h no, command := x.command.set h 0 }
  else x

/-- Step 1 (R48): running defrosts, then candidates, each in handler order. -/
def fixedRequests (cap qDef : Nat) (r : RequestSet) : Fixed :=
  let run := fixOne cap qDef r (·.runningDefrost) .kept .aborted
  let cand := fixOne cap qDef r (·.candidate) .admitted .refused
  cand 1 (cand 0 (run 1 (run 0 ⟨0, Vector.replicate 2 .none, Vector.replicate 2 0⟩)))

/-! ### Steps 2 and 3: variable requests and the minimum sweep (R49, R50) -/

/-- A handler heats or cools in the request set. -/
def RequestHandler.conditioning (x : RequestHandler) : Bool := x.mode == .heat || x.mode == .cool

/-- The handler's request is variable (R49). -/
def isVariable (r : RequestSet) (f : Fixed) (h : Fin 2) : Bool :=
  (r.handlers[h]).conditioning && decide (0 < (r.handlers[h]).qReq) && f.outcome[h] != .admitted

/-- A sum over the handlers. -/
def sumHandlers (g : Fin 2 → Nat) : Nat := g 0 + g 1

/-- A sum over the zones. -/
def sumZones (g : Fin 12 → Nat) : Nat := (List.finRange 12).foldl (fun n z => n + g z) 0

/-- E (R49). -/
def variableWant (r : RequestSet) (f : Fixed) : Nat :=
  sumHandlers fun h => if isVariable r f h then (r.handlers[h]).rating * (r.handlers[h]).qReq else 0

/-- A scale (R49, R52): 1000 when the want fits, else the share in thousandths rounded down. -/
def scaleOf (want avail : Nat) : Nat := if want ≤ avail then 1000 else 1000 * avail / want

/-- The commands after step 2 (R49). -/
def scaledCommands (r : RequestSet) (f : Fixed) (scale : Nat) : Vector Nat 2 :=
  Vector.ofFn fun h => if isVariable r f h then (r.handlers[h]).qReq * scale / 1000 else f.command[h]

/-- The running total of the sweep (R50): F and the variable commands as they stand. -/
def runningTotal (r : RequestSet) (f : Fixed) (q : Vector Nat 2) : Nat :=
  f.power + sumHandlers fun h => if isVariable r f h then (r.handlers[h]).rating * q[h] else 0

/-- One handler in the minimum sweep (R50): raised to q_min where the grant can carry it, else set to 0. The sweep looks at the
variable commands; every other command is 0 or q_def, which is never below q_min (R51, log 37). -/
def sweepOne (cap qMin : Nat) (r : RequestSet) (f : Fixed) (h : Fin 2) (q : Vector Nat 2) : Vector Nat 2 :=
  if isVariable r f h ∧ 0 < q[h] ∧ q[h] < qMin then
    if runningTotal r f (q.set h qMin) ≤ cap then q.set h qMin else q.set h 0
  else q

/-- The granted commands (R51). -/
def grantedCommands (cap qMin : Nat) (r : RequestSet) (f : Fixed) (scale : Nat) : Vector Nat 2 :=
  sweepOne cap qMin r f 1 (sweepOne cap qMin r f 0 (scaledCommands r f scale))

/-- Compressor power (R51). -/
def compressorPower (r : RequestSet) (q : Vector Nat 2) : Nat := sumHandlers fun h => (r.handlers[h]).rating * q[h]

/-! ### Steps 4 and 5: reheat and the limited directions (R52, R54) -/

/-- H (R52). -/
def reheatWant (r : RequestSet) : Nat := sumZones fun z => (r.zones[z]).rating * (r.zones[z]).request

/-- The granted duties (R52). -/
def grantedDuties (r : RequestSet) (scale2 : Nat) : Vector Nat 12 := Vector.ofFn fun z => (r.zones[z]).request * scale2 / 1000

/-- Reheat power as an exact product. -/
def reheatPower (r : RequestSet) (d : Vector Nat 12) : Nat := sumZones fun z => (r.zones[z]).rating * d[z]

/-- The handler's compressor is short (R54). -/
def isShort (r : RequestSet) (f : Fixed) (q : Vector Nat 2) (h : Fin 2) : Bool :=
  (r.handlers[h]).conditioning && f.outcome[h] != .admitted && decide (q[h] < (r.handlers[h]).qReq)

/-- The limited direction of a zone (R54). -/
def limitedOf (r : RequestSet) (f : Fixed) (q : Vector Nat 2) (d : Vector Nat 12) (z : Fin 12) : Limited :=
  let dz := r.demand.zones[z]
  let h := dz.handler
  if 0 < dz.demand ∧ (((r.handlers[h]).mode = .heat ∧ isShort r f q h) ∨ d[z] < (r.zones[z]).request) then .heating
  else if dz.demand < 0 ∧ (r.handlers[h]).mode = .cool ∧ isShort r f q h then .cooling
  else .none

/-! ### The allotment (R47, R55, R56) -/

/-- An allotment made: its exact results (R47 to R54). -/
structure Made where
  fixed : Fixed
  scale : Nat
  command : Vector Nat 2
  scale2 : Nat
  duty : Vector Nat 12
  limited : Vector Limited 12
  deriving DecidableEq, Repr

/-- The five steps at an effective grant of `g` watts (R47). -/
def allot (g qMin qDef : Nat) (r : RequestSet) : Made :=
  let cap := 1000 * g
  let f := fixedRequests cap qDef r
  let s := scaleOf (variableWant r f) (cap - f.power)
  let q := grantedCommands cap qMin r f s
  let s2 := scaleOf (reheatWant r) (cap - compressorPower r q)
  let d := grantedDuties r s2
  ⟨f, s, q, s2, d, Vector.ofFn (limitedOf r f q d)⟩

/-- The total exact product of an allotment (R53). -/
def Made.total (m : Made) (r : RequestSet) : Nat := compressorPower r m.command + reheatPower r m.duty

/-- The allotment that is handed on (R55). -/
def Made.allotment (m : Made) (r : RequestSet) : Allotment :=
  { cycleNo := r.cycleNo
    handlers := Vector.ofFn fun h => ⟨m.fixed.outcome[h], m.command[h]⟩
    zones := Vector.ofFn fun z => ⟨m.duty[z], m.limited[z]⟩ }

/-- The allotment record (R56): watts rounded down from the exact products. -/
def Made.record (m : Made) (g : Nat) (live : Bool) (r : RequestSet) : AllotRecord :=
  { made := true, cycleNo := r.cycleNo, grant := g, live := live, scale := m.scale, scale2 := m.scale2
    fixedPower := m.fixed.power / 1000, total := m.total r / 1000, unallotted := (1000 * g - m.total r) / 1000
    handlers := Vector.ofFn fun h => ⟨(r.handlers[h]).mode, (r.handlers[h]).qReq, m.fixed.outcome[h], m.command[h],
      (r.handlers[h]).rating * m.command[h] / 1000⟩
    zones := Vector.ofFn fun z => ⟨(r.zones[z]).request, m.duty[z], (r.zones[z]).rating * m.duty[z] / 1000, m.limited[z]⟩ }

/-- The effective grant (R42). -/
def State.effectiveGrant (s : State) : Nat := if s.pa.live then s.pa.liveGrant else s.wm.fallbackGrant

/-- Stage 3 (R47): the record is written and the allotment handed to the HS. -/
def stage3 (r : RequestSet) (s : State) : State :=
  let m := allot s.effectiveGrant s.wm.qMin s.wm.qDef r
  let s1 := s.setPa { s.pa with record := m.record s.effectiveGrant s.pa.live r }
  s1.setBus { s1.bus with allotHS := s1.bus.allotHS ++ [m.allotment r] }

/-- REQUEST_SET_RECEIVED (R47, R135): outside RUN, or where its cascade has been dropped, the set is discarded. -/
def execRequestSetReceived (s : State) : Host.Outcome State Fault Refusal :=
  match s.bus.requestSets with
  | [] => .next s
  | r :: rest =>
    let s1 := s.setBus { s.bus with requestSets := rest }
    .next (if s.sc.opState = .run ∧ !r.dropped then stage3 r.set s1 else s1)

/-! ### The grant (R44, R45) -/

/-- GRANT at the Power Allotter (R44). -/
def grantOwner (watts : Word16) (lifetime : Byte) (s : State) : State × List Byte :=
  let g := min watts.toNat 60000
  let l := max 1 (min lifetime.toNat 120)
  let clamped := g ≠ watts.toNat ∨ l ≠ lifetime.toNat
  (s.setPa { s.pa with liveGrant := g, lifetime := l, live := true, timer := some (sec l) },
    [if clamped then codeClamped else codeOk] ++ num16 g ++ num8 l)

/-- LIFETIME_EXPIRY (R45): a stopped timer cannot expire. -/
def execLifetimeExpiry (s : State) : Host.Outcome State Fault Refusal :=
  if s.pa.timer.isSome then
    .next (kick (latch .grantExpired 0 (s.pa.liveGrant / 10 : Nat) (s.setPa { s.pa with live := false, timer := none })))
  else .next s

/-! ### Reading and emptying the record (R57, R58) -/

/-- The grant now fields (R58, R172). -/
def State.grantBytes (s : State) : List Byte :=
  num16 s.pa.liveGrant ++ num8 s.pa.lifetime ++ num8 (liveCode s.pa.live) ++ num8 ((s.pa.timer.map secondsLeft).getD 0)
    ++ num16 s.wm.fallbackGrant ++ num16 s.effectiveGrant

/-- The record as READ_ALLOTMENT gives it (R172). -/
def AllotRecord.bytes (r : AllotRecord) : List Byte :=
  yesNo r.made ++ wordBytes r.cycleNo ++ num16 r.grant ++ num8 (liveCode r.live) ++ num16 r.scale ++ num16 r.scale2
    ++ num16 r.fixedPower ++ num16 r.total ++ num16 r.unallotted
    ++ (List.finRange 2).flatMap (fun h => let x := r.handlers[h]
        num8 x.mode.code ++ num16 x.qReq ++ num8 x.outcome.code ++ num16 x.command ++ num16 x.power)
    ++ (List.finRange 12).flatMap (fun z => let x := r.zones[z]
        num16 x.request ++ num16 x.duty ++ num16 x.power ++ num8 x.limited.code)

/-- READ_ALLOTMENT at the Power Allotter (R58). -/
def readAllotmentOwner (s : State) : State × List Byte := (s, [codeOk] ++ s.grantBytes ++ s.pa.record.bytes)

/-- The record is emptied: at RESTART and when the part leaves RUN (R57). -/
def emptyRecord (s : State) : State := s.setPa { s.pa with record := AllotRecord.empty }

end Sys2Proof.Machine
end

