-- ==== Sys2Proof/Machine/Compressor.lean ====
section
/-! DEFINITION. What the Handler Sequencer does to a handler's compressor, mode, defrost and drive outside its two stages
(R23, R24, R27 to R29, R35, R36, R38, R40). -/

namespace Sys2Proof.Machine

/-! ### Handler points (R22) -/

/-- The value of a handler point that is usable: present, of kind TEMP and VALID (R22). -/
def State.usable (s : State) (p : Option (Fin 32)) : Option Int :=
  match p with
  | some p => if s.wm.pointKind p = .temp ∧ (s.point p).state = .valid then some (s.point p).value else none
  | none => none

/-! ### The airflow settings (R22) -/

/-- The HS reads its airflow settings from working memory (R22; log 48). -/
def readAir (s : State) : State := s.setHs { s.hs with air := s.wm.airSettings }

/-- A timer of the HS starts, if the condition holds: the HS then reads what was written since (R22). -/
def timerStart (starts : Bool) (s : State) : State := if starts then readAir s else s

/-! ### Rest, dwell, stop (R27 to R29) -/

/-- "Rest clear" (R27): the compressor is RUNNING, or STOPPED with its rest timer at 0. -/
def Handler.restClear (x : Handler) : Bool := x.comp == .running || x.rest == 0

/-- "Dwell clear" for a compressor mode (R27): the dwell timer is 0, or the last compressor mode is that mode or none. -/
def Handler.dwellClear (x : Handler) (m : CompMode) : Bool := x.dwell == 0 || x.lastMode == m || x.lastMode == .none

/-- Q becomes 0: a RUNNING compressor stops and its rest timer is restarted with the full rest time (R29). -/
def Handler.stop (restTime : Nat) (x : Handler) : Handler :=
  if x.comp = .running then { x with q := 0, comp := .stopped, rest := sec restTime } else { x with q := 0 }

/-- Leaving HEAT, COOL or DEFROST for VENT or IDLE (R28): the last compressor mode is recorded and the dwell timer restarted. -/
def Handler.leaveMode (dwell : Nat) (x : Handler) : Handler :=
  match x.mode with
  | .heat | .defrost => { x with lastMode := .heat, dwell := sec dwell }
  | .cool => { x with lastMode := .cool, dwell := sec dwell }
  | .idle | .vent => x

/-- Leaving the mode restarts the dwell timer (R28): it is HEAT, COOL or DEFROST. -/
def Handler.leaves (x : Handler) : Bool := x.mode == .heat || x.mode == .cool || x.mode == .defrost

/-- The handler takes a mode, and MODE_CHANGE is latched where it differs (R27). -/
def takeMode (h : Fin 2) (m : Mode) (s : State) : State :=
  let x := s.handler h
  if x.mode = m then s else latch .modeChange h m.code (s.putHandler h { x with mode := m })

/-- A defrost ends with a reason: the last defrost end takes it and DEFROST_END is latched (R35, R36). -/
def endDefrost (h : Fin 2) (r : DefrostEnd) (s : State) : State :=
  latch .defrostEnd h r.reason (s.putHandler h { s.handler h with lastEnd := r })

/-- A handler leaves its mode for VENT or IDLE (R27, R28): a running defrost ends with the reason given, Q and the compressor stop
at once, the leaving is recorded, and the mode changes; the dwell timer or the rest timer may start. -/
def leaveTo (h : Fin 2) (m : Mode) (r : DefrostEnd) (s : State) : State :=
  let s1 := if (s.handler h).mode = .defrost then endDefrost h r s else s
  let x := s1.handler h
  timerStart (x.leaves || x.comp == .running)
    (takeMode h m (s1.putHandler h ((x.leaveMode s.wm.reversalDwell).stop s.wm.restTime)))

/-! ### Drive slot and drive availability (R24) -/

/-- The drive of a handler is available (R24): it has a drive slot, the line is ON, the slot is PRESENT and its drive last reported
READY or RUNNING. -/
def State.driveReady (s : State) (h : Fin 2) : Bool :=
  match s.wm.driveSlotOf h with
  | none => false
  | some i =>
    s.ml.line == .on && (s.slot i).state == .present &&
      match (s.slot i).drive with
      | some d => d.state != .fault
      | none => false

/-- The HS is told of a change that bears on drives (R24): slot and availability are derived anew; a drive lost sets Q to 0 and
stops a running compressor, whose rest timer starts, and leaves the mode. -/
def tellDrive (h : Fin 2) (s : State) : State :=
  let x := s.handler h
  let now := s.driveReady h
  let lost := x.driveAvailable && !now
  let x' := if lost then x.stop s.wm.restTime else x
  timerStart (lost && x.comp == .running)
    (s.putHandler h { x' with driveSlot := s.wm.driveSlotOf h, driveAvailable := now })

/-- The HS is told, for both handlers. -/
def tellDrives (s : State) : State := forHandlers tellDrive s

/-! ### Blower and fresh damper (R38, R40) -/

/-- A renewal of the handler is running (R60). -/
def State.renewing (s : State) (h : Fin 2) : Bool := (s.renewal h).state != .idle

/-- The blower value over the base blower (R38). -/
def State.blowerValue (s : State) (h : Fin 2) : Nat :=
  if s.renewing h then max (s.handler h).baseBlower s.hs.air.renewalBlower else (s.handler h).baseBlower

/-- The fresh-damper value, by the first row that applies (R40). -/
def State.freshValue (s : State) (h : Fin 2) : Nat :=
  if (s.handler h).mode = .idle then 0
  else if s.renewing h then 1000
  else if s.rs.airHold ≠ .none then 0
  else s.hs.air.fMin

/-- Compute the fresh-damper value anew and hand it to the OU (R40). -/
def renewFresh (h : Fin 2) (s : State) : State :=
  let v := s.freshValue h
  handValue (.freshDamper h) v (s.putHandler h { s.handler h with fresh := v })

/-- Compute the blower value anew and hand it to the OU (R38). -/
def renewBlower (h : Fin 2) (s : State) : State :=
  let v := s.blowerValue h
  handValue (.blower h) v (s.putHandler h { s.handler h with blower := v })

/-- The HS is told that a renewal started, completed or was aborted: both values anew (R68 to R71, R76). -/
def renewAir (h : Fin 2) (s : State) : State := renewFresh h (renewBlower h s)

end Sys2Proof.Machine
end

