-- ==== Sys2Proof/Machine/ModuleLine.lean ====
section
/-! DEFINITION. The module line (07): exchanges, slot states, the arbiter, the pass-through and line enable. -/

namespace Sys2Proof.Machine

/-! ### Module-line frames (R118, R173, R174) -/

/-- The function byte of a request (R173). -/
def ModuleRequest.function : ModuleRequest → Byte
  | .probe => 1 | .driveCommand .. => 2 | .readItems => 3 | .itemRead _ => 4 | .itemWrite .. => 5

/-- The data of a request (R173). -/
def ModuleRequest.data : ModuleRequest → List Byte
  | .probe => []
  | .driveCommand run d c => num8 (if run then 1 else 0) ++ num8 d.code ++ num16 c
  | .readItems => []
  | .itemRead item => [item]
  | .itemWrite item v => item :: wordBytes v

/-- The bytes of a module-line frame (R173). -/
def moduleFrame (slot : Fin 8) (function : Byte) (data : List Byte) : List Byte :=
  let body := BitVec.ofNat 8 (slot + 1) :: function :: BitVec.ofNat 8 data.length :: data
  0x5A :: body ++ wordBytes (crc16 body)

/-- The bytes of the request an exchange sends (R173). -/
def Exchange.bytes (x : Exchange) : List Byte := moduleFrame x.slot x.request.function x.request.data

/-- What a good answer carries (R118). -/
inductive ModuleAnswer where
  | probe (type : ModuleType) (state : DriveState) (fault : Byte)
  | drive (data : DriveData)
  | items (v : Vector Word16 4)
  | item (status : ModuleStatus) (value : Word16)
  deriving DecidableEq, Repr

def moduleTypeOf (b : Byte) : Option ModuleType :=
  if b = 0 then some .drive else if b = 1 then some .monitor else if b = 2 then some .other else none

def driveStateOf (b : Byte) : Option DriveState :=
  if b = 0 then some .ready else if b = 1 then some .running else if b = 2 then some .fault else none

def moduleStatusOf (b : Byte) : Option ModuleStatus :=
  if b = 0 then some .accepted else if b = 1 then some .refused else none

/-- The answer data of a function, when the length is the function's and every enumerated field holds a listed code (R173, R174).
DESIGN CHOICE: the drive state of a PROBE answer counts for every kind of slot (log 57). -/
def answerData : ModuleRequest → List Byte → Option ModuleAnswer
  | .probe, [t, d, f] => do return .probe (← moduleTypeOf t) (← driveStateOf d) f
  | .driveCommand .., [d, f, s1, s0, t1, t0] => do return .drive ⟨← driveStateOf d, f, bytesWord s1 s0, bytesWord t1 t0⟩
  | .readItems, [a1, a0, b1, b0, c1, c0, d1, d0] =>
    some (.items #v[bytesWord a1 a0, bytesWord b1 b0, bytesWord c1 c0, bytesWord d1 d0])
  | .itemRead _, [st, v1, v0] => do return .item (← moduleStatusOf st) (bytesWord v1 v0)
  | .itemWrite .., [st, v1, v0] => do return .item (← moduleStatusOf st) (bytesWord v1 v0)
  | _, _ => none

/-- A good answer (R117, R174): the frame's form, its check, its slot, its function, its length and its codes. -/
def goodAnswer (slot : Fin 8) (r : ModuleRequest) (frame : List Byte) : Option ModuleAnswer :=
  match frame with
  | start :: body =>
    let data := (body.drop 3).take (body.length - 5)
    if start = 0x5A ∧ frame = moduleFrame slot r.function data ∧ data.length ≤ 255 then answerData r data else none
  | [] => none

/-! ### Slot states (R119, R120, R121) -/

/-- The type a probe gave matches the slot's kind (R120). -/
def typeMatches : SlotKind → ModuleType → Bool
  | .none, _ => false
  | .compressorDrive _, t => t == .drive
  | .airMonitor, t => t == .monitor
  | .generic, _ => true

/-- The slot becomes LOST (R119). -/
def loseSlot (i : Fin 8) (s : State) : State :=
  let x := s.slot i
  let s1 := s.putSlot i { x with
    state := .lost, readDue := false, readTimer := none,
    probeTimer := if s.ml.line = .on then some (sec 5) else x.probeTimer }
  tellDrives (failSlotPoints i (latch .moduleLost (i + 1) (s.wm.slotKind i).code s1))

/-- An exchange with a PRESENT slot counts (R119): a success sets failed exchanges to 0, the third failure in a row loses it. -/
def countExchange (i : Fin 8) (success : Bool) (s : State) : State :=
  let x := s.slot i
  if x.state ≠ .present then s
  else if success then s.putSlot i { x with failed := 0 }
  else
    let s1 := s.putSlot i { x with failed := x.failed + 1 }
    if 3 ≤ x.failed + 1 then loseSlot i s1 else s1

/-- A drive state received is compared with the one the drive data held before (R123): a new fault latches DRIVE_FAULT. -/
def reportDrive (i : Fin 8) (before : Option DriveData) (now : DriveData) (s : State) : State :=
  let wasFault := match before with
    | some d => d.state == .fault
    | none => false
  tellDrives (if now.state = .fault ∧ !wasFault then latch .driveFault (i + 1) now.fault.toNat s else s)

/-- A probe found the slot (R120). A read timer starts only while the line is ON (R124, log 23).
DESIGN CHOICE: MODULE_FOUND is latched before a DRIVE_FAULT (log 53). -/
def findSlot (i : Fin 8) (type : ModuleType) (state : DriveState) (fault : Byte) (s : State) : State :=
  let x := s.slot i
  let before := x.drive
  let isDrive := match s.wm.slotKind i with
    | .compressorDrive _ => true
    | _ => false
  let data : DriveData := match before with
    | some d => { d with state := state, fault := fault }
    | none => ⟨state, fault, 0, 0⟩
  let s1 := s.putSlot i { x with
    state := .present, failed := 0, lastProbe := .found, moduleType := some type, probeTimer := none, probeDue := false,
    drive := if isDrive then some data else before,
    readTimer := if s.wm.slotKind i = .airMonitor ∧ s.ml.line = .on then some (sec 2) else x.readTimer }
  let s2 := latch .moduleFound (i + 1) type.code s1
  if isDrive then reportDrive i before data s2 else s2

/-- The outcome of a probe (R120); a wrong type is recorded as the module type too (log 42). -/
def probeOutcome (i : Fin 8) (a : Option ModuleAnswer) (s : State) : State :=
  let x := s.slot i
  match a with
  | some (.probe type state fault) =>
    if typeMatches (s.wm.slotKind i) type then findSlot i type state fault s
    else s.putSlot i { x with lastProbe := .wrongType, moduleType := some type }
  | _ => s.putSlot i { x with lastProbe := .noAnswer }

/-- A slot's kind changed in working memory (R121): the record starts afresh, an exchange with it no longer counts. -/
def slotKindChanged (i : Fin 8) (s : State) : State :=
  let probes := s.ml.line = .on ∧ s.wm.slotKind i ≠ .none
  let s1 := s.putSlot i { Slot.reset with
    probeTimer := if probes then some (sec 5) else none, probeDue := decide probes }
  let s2 := s1.setMl { s1.ml with
    exchange := s1.ml.exchange.map fun x => if x.slot = i then { x with detached := true } else x }
  tellDrives (failSlotPoints i s2)

/-! ### The arbiter (R122, R124, R125, R127) -/

/-- Put an exchange on the free line: its first try begins (R117). -/
def beginExchange (cls : ExchangeClass) (i : Fin 8) (r : ModuleRequest) (s : State) : State :=
  s.setMl { s.ml with exchange := some ⟨cls, i, r, false, .sending, false, false⟩, response := none }

/-- The direction of the last compressor mode, HEAT when that is none (R37, R129). -/
def CompMode.direction : CompMode → Direction
  | .cool => .cool
  | .none | .heat => .heat

/-- The drive command of a handler as it stands (R37): run with its mode's direction while Q is above 0, else stop. -/
def Handler.driveCommand (x : Handler) : ModuleRequest :=
  if x.q = 0 then .driveCommand false x.lastMode.direction 0
  else .driveCommand true (match x.mode with
    | .heat => .heat
    | .cool => .cool
    | .defrost => .reverse
    | .idle | .vent => x.lastMode.direction) x.q

/-- The closing stop of a handler's drive (R129). -/
def Handler.closingStop (x : Handler) : ModuleRequest := .driveCommand false x.lastMode.direction 0

/-- Grant a drive exchange (R122): the flag is cleared; a slot that is not PRESENT makes no exchange. -/
def grantDrive (h : Fin 2) (s : State) : State :=
  if s.ml.exchange.isSome ∨ s.ml.drivePending[h] = false then s
  else
    let s1 := s.setMl { s.ml with drivePending := s.ml.drivePending.set h false }
    match (s.handler h).driveSlot with
    | some i => if (s.slot i).state = .present then beginExchange (.drive h) i (s.handler h).driveCommand s1 else s1
    | none => s1

/-- The lock on a pass-through write (R126, R127): the slot is a drive of a handler in HEAT, COOL or DEFROST. -/
def State.writeLocked (s : State) (i : Fin 8) (op : PassOp) : Bool :=
  op == .write && match s.wm.slotKind i with
  | .compressorDrive h => (s.handler h).mode == .heat || (s.handler h).mode == .cool || (s.handler h).mode == .defrost
  | _ => false

/-- The pass-through becomes DONE with an outcome and PASS_DONE is latched (R127, R129). -/
def passDone (i : Fin 8) (o : PassOutcome) (status : Option ModuleStatus) (returned : Option Word16) (s : State) : State :=
  latch .passDone (i + 1) o.code (s.setMl { s.ml with
    pass := { s.ml.pass with state := .done, outcome := some o, status := status, returned := returned } })

/-- The request of a pass-through (R118). -/
def PassRecord.request (p : PassRecord) : ModuleRequest :=
  match p.op with
  | some .write => .itemWrite (p.item.getD 0) (p.value.getD 0)
  | _ => .itemRead (p.item.getD 0)

/-- Grant the pass-through (R127): the lock is checked again. -/
def grantPass (s : State) : State :=
  if s.ml.exchange.isSome ∨ s.ml.pass.state ≠ .queued then s
  else
    match s.ml.pass.slot with
    | none => s
    | some i =>
      if s.writeLocked i (s.ml.pass.op.getD .read) then passDone i .flushed none none s
      else beginExchange .passThrough i s.ml.pass.request (s.setMl { s.ml with pass := { s.ml.pass with state := .inFlight } })

/-- Grant a monitor read to the lowest-numbered slot with read due (R124, R125). -/
def grantRead (s : State) : State :=
  if s.ml.exchange.isSome then s
  else match (List.finRange 8).find? fun i => (s.slot i).readDue with
    | some i => beginExchange .monitorRead i .readItems (s.putSlot i { s.slot i with readDue := false })
    | none => s

/-- Grant a probe to the lowest-numbered slot with probe due (R120, R125). -/
def grantProbe (s : State) : State :=
  if s.ml.exchange.isSome then s
  else match (List.finRange 8).find? fun i => (s.slot i).probeDue with
    | some i => beginExchange .probe i .probe (s.putSlot i { s.slot i with probeDue := false })
    | none => s

/-- The arbiter grants the free line while it is ON (R125): drive exchanges, the pass-through, a monitor read, a probe. -/
def arbitrate (s : State) : State :=
  if s.ml.line ≠ .on then s else grantProbe (grantRead (grantPass (grantDrive 1 (grantDrive 0 s))))

/-! ### Opening and closing the line (R129) -/

/-- One slot at a change to ON (R129). -/
def openSlot (i : Fin 8) (s : State) : State :=
  let x := s.slot i
  if s.wm.slotKind i ≠ .none ∧ x.state ≠ .present then s.putSlot i { x with probeTimer := some (sec 5), probeDue := true }
  else if s.wm.slotKind i = .airMonitor ∧ x.state = .present then s.putSlot i { x with readTimer := some (sec 2), readDue := true }
  else s

/-- The line changes to ON (R129), and the arbiter grants it. -/
def openLine (s : State) : State :=
  arbitrate (tellDrives (forSlots openSlot (s.setMl { s.ml with line := .on, closingLeft := [] })))

/-- The closing traffic ends (R129): ON again if host enable is ON and the state is RUN, else OFF. -/
def endClosing (s : State) : State :=
  if s.ml.hostEnable = .on ∧ s.sc.opState = .run then openLine s else s.setMl { s.ml with line := .off, closingLeft := [] }

/-- The next closing stop, in handler order, to a drive slot that is PRESENT; after the last the closing traffic ends (R129). -/
def nextClosingStop : List (Fin 2) → State → State
  | [], s => endClosing s
  | h :: rest, s =>
    match (s.handler h).driveSlot with
    | some i =>
      if (s.slot i).state = .present then
        beginExchange (.closingStop h) i (s.handler h).closingStop (s.setMl { s.ml with closingLeft := rest })
      else nextClosingStop rest s
    | none => nextClosingStop rest s

/-- What goes on the line when it falls free: the arbiter's grant in ON, the next closing stop in CLOSING (R125, R129). -/
def nextTraffic (s : State) : State :=
  match s.ml.line with
  | .on => arbitrate s
  | .closing => if s.ml.exchange.isSome then s else nextClosingStop s.ml.closingLeft s
  | .off => s

/-- One slot at the change to CLOSING (R129): its dues are dropped and its timers stop. -/
def closeSlot (i : Fin 8) (s : State) : State :=
  s.putSlot i { s.slot i with probeTimer := none, probeDue := false, readTimer := none, readDue := false }

/-- The change from ON to CLOSING (R129). -/
def closeLine (s : State) : State :=
  let s1 := match s.ml.pass.state, s.ml.pass.slot with
    | .queued, some i => passDone i .flushed none none s
    | _, _ => s
  let s2 := forSlots closeSlot (s1.setMl { s1.ml with
    line := .closing, drivePending := Vector.replicate 2 false, closingLeft := [0, 1] })
  nextTraffic (tellDrives s2)

/-! ### The end of an exchange (R117 to R127) -/

/-- A drive's good answer (R122, R123): the drive data, items 0 to 3 to the SU from a PRESENT slot, the speed as a
signed number (log 44), and then the comparison (DESIGN CHOICE on the order of their events: log 45). -/
def driveAnswer (i : Fin 8) (d : DriveData) (s : State) : State :=
  let before := (s.slot i).drive
  let s1 := s.putSlot i { s.slot i with drive := some d }
  let s2 := if (s.slot i).state = .present then
      handItem i 3 d.state.code (handItem i 2 d.fault.toNat (handItem i 1 d.temperature.toInt (handItem i 0 d.speed.toInt s1)))
    else s1
  reportDrive i before d s2

/-- A monitor's good answer (R124). -/
def monitorAnswer (i : Fin 8) (v : Vector Word16 4) (s : State) : State :=
  let s1 := s.putSlot i { s.slot i with monitor := some v }
  if (s.slot i).state = .present then
    handItem i 3 v[3].toInt (handItem i 2 v[2].toInt (handItem i 1 v[1].toInt (handItem i 0 v[0].toInt s1)))
  else s1

/-- An item's good answer (R118): ACCEPTED, from a PRESENT GENERIC slot, item 0 to 3, reaches the SU. -/
def itemAnswer (i : Fin 8) (item : Byte) (status : ModuleStatus) (v : Word16) (s : State) : State :=
  if status = .accepted ∧ s.wm.slotKind i = .generic ∧ (s.slot i).state = .present ∧ item.toNat < 4 then
    handItem i (Fin.ofNat 4 item.toNat) v.toInt s
  else s

/-- The item an exchange's request names. -/
def ModuleRequest.item : ModuleRequest → Byte
  | .itemRead i => i
  | .itemWrite i _ => i
  | _ => 0

/-- The slot's side of an exchange that has ended: it counts toward a PRESENT slot (R119), a probe has its outcome (R120), an answer
writes its data and hands its items. A detached exchange does none of it (R121), nor does a detached probe record its outcome (log 50). -/
def slotOutcome (x : Exchange) (a : Option ModuleAnswer) (s : State) : State :=
  if x.detached then s
  else
    let s1 := countExchange x.slot a.isSome s
    match x.cls, a with
    | .probe, _ => probeOutcome x.slot a s1
    | _, some (.drive d) => driveAnswer x.slot d s1
    | _, some (.items v) => monitorAnswer x.slot v s1
    | _, some (.item status v) => itemAnswer x.slot x.request.item status v s1
    | _, _ => s1

/-- The host's side of a pass-through that has ended (R127); a discarded one leaves no result (R116). -/
def passOutcome (x : Exchange) (a : Option ModuleAnswer) (s : State) : State :=
  if x.cls ≠ .passThrough ∨ x.discard then s
  else match a with
    | some (.item status v) => passDone x.slot .answered (some status) (some v) s
    | _ => passDone x.slot .noAnswer none none s

/-- An exchange ends: the line is free, its outcomes are applied, the next traffic is granted (R117). DESIGN CHOICE: the slot's
outcome and the items its points take come before the pass-through's PASS_DONE, in success as in failure (log 45). -/
def endExchange (x : Exchange) (a : Option ModuleAnswer) (s : State) : State :=
  nextTraffic (passOutcome x a (slotOutcome x a (s.setMl { s.ml with exchange := none, response := none })))

/-! ### The commands of the line -/

/-- MODULE_REQUEST_SENT (R117): the line is released and the try's response timeout of 10 ms begins. -/
def execModuleRequestSent (s : State) : Host.Outcome State Fault Refusal :=
  match s.ml.exchange with
  | some x =>
    if x.phase = .sending then
      .next (s.setMl { s.ml with exchange := some { x with phase := .awaiting }, response := some (ms 10) })
    else .next s
  | none => .next s

/-- MODULE_ANSWER_RECEIVED (R117): a good answer to the try ends the exchange; any other bytes change nothing, and the try waits
out its timeout. DESIGN CHOICE: a good answer within that timeout still counts (log 56). -/
def execModuleAnswerReceived (frame : List Byte) (s : State) : Host.Outcome State Fault Refusal :=
  match s.ml.exchange with
  | some x =>
    if x.phase = .awaiting then
      match goodAnswer x.slot x.request frame with
      | some a => .next (kick (endExchange x (some a) s))
      | none => .next s
    else .next s
  | none => .next s

/-- MODULE_ANSWER_GAP (R117): the partial answer is abandoned and the try waits out its timeout (log 22). -/
def execModuleAnswerGap (s : State) : Host.Outcome State Fault Refusal :=
  match s.ml.exchange with
  | some x =>
    if x.phase = .awaiting then .next (s.setMl { s.ml with exchange := some { x with phase := .abandoned } }) else .next s
  | none => .next s

/-- MODULE_RESPONSE_TIMEOUT (R117): after the first try the second is made at once; after the second the exchange has failed. -/
def execModuleResponseTimeout (s : State) : Host.Outcome State Fault Refusal :=
  match s.ml.exchange with
  | some x =>
    if x.phase = .sending then .next s
    else if x.secondTry then .next (kick (endExchange x none s))
    else .next (s.setMl { s.ml with exchange := some { x with secondTry := true, phase := .sending }, response := none })
  | none => .next s

/-- PROBE_TIMER_EXPIRY (R120): the timer restarts with 5 s and probe due is set; the free line is granted at once. -/
def execProbeTimerExpiry (i : Fin 8) (s : State) : Host.Outcome State Fault Refusal :=
  if (s.slot i).probeTimer.isSome then
    .next (kick (arbitrate (s.putSlot i { s.slot i with probeTimer := some (sec 5), probeDue := true })))
  else .next s

/-- READ_TIMER_EXPIRY (R124): the timer restarts with 2 s and read due is set; the free line is granted at once. -/
def execReadTimerExpiry (i : Fin 8) (s : State) : Host.Outcome State Fault Refusal :=
  if (s.slot i).readTimer.isSome then
    .next (kick (arbitrate (s.putSlot i { s.slot i with readTimer := some (sec 2), readDue := true })))
  else .next s

/-! ### Requests (R126, R128, R130, R131) -/

/-- The slot of a slot number 1 to 8. -/
def slotOfNumber (b : Byte) : Option (Fin 8) := if h : 1 ≤ b.toNat ∧ b.toNat ≤ 8 then some ⟨b.toNat - 1, by omega⟩ else none

/-- PASS at the Module Line Master (R126); a READ leaves the record's value absent (log 43). -/
def passOwner (slot operation item : Byte) (value : Word16) (s : State) : State × List Byte :=
  let op? : Option PassOp := if operation = 0 then some .read else if operation = 1 then some .write else none
  match slotOfNumber slot, op? with
  | some i, some op =>
    let reply (s' : State) (code : Byte) : State × List Byte := (s', [code] ++ num8 s'.ml.pass.state.code)
    if s.wm.slotKind i = .none then (s, [codeBadArg])
    else if s.ml.line ≠ .on then reply s codeLineOff
    else if s.ml.pass.state ≠ .empty then reply s codeBusy
    else if s.writeLocked i op then reply s codeLocked
    else reply (arbitrate (s.setMl { s.ml with pass := { PassRecord.empty with
      state := .queued, slot := some i, op := some op, item := some item,
      value := if op = .write then some value else none } })) codeOk
  | _, _ => (s, [codeBadArg])

/-- The fields PASS_RESULT gives of a DONE record (R128). -/
def PassRecord.resultBytes (p : PassRecord) : List Byte :=
  orAbsent8 (p.slot.map (·.val + 1)) ++ orAbsent8 (p.op.map (·.code)) ++ orAbsent8 (p.item.map (·.toNat))
    ++ orAbsent8 (p.outcome.map (·.code))
    ++ match p.outcome with
      | some .answered => orAbsent8 (p.status.map (·.code)) ++ wordBytes (p.returned.getD 0)
      | _ => []

/-- PASS_RESULT at the Module Line Master (R128). -/
def passResultOwner (s : State) : State × List Byte :=
  match s.ml.pass.state with
  | .empty => (s, [codeWrongState])
  | .queued | .inFlight => (s, [codePending] ++ num8 s.ml.pass.state.code)
  | .done => (s.setMl { s.ml with pass := PassRecord.empty }, [codeOk] ++ s.ml.pass.resultBytes)

/-- LINE_ENABLE at the Module Line Master (R130). -/
def lineEnableOwner (v : Byte) (s : State) : State × List Byte :=
  let reply (s' : State) : State × List Byte := (s', [codeOk] ++ num8 s'.ml.hostEnable.code ++ num8 s'.ml.line.code)
  if v = 0 then
    let s1 := s.setMl { s.ml with hostEnable := .on }
    reply (if s.sc.opState = .run ∧ s.ml.line = .off then openLine s1 else s1)
  else if v = 1 then
    let s1 := s.setMl { s.ml with hostEnable := .off }
    reply (if s.ml.line = .on then closeLine s1 else s1)
  else (s, [codeBadArg])

/-- One slot record as READ_MODULES gives it (R131, log 18). -/
def State.slotBytes (s : State) (i : Fin 8) : List Byte :=
  let x := s.slot i
  num8 (s.wm.slotKind i).code ++ num8 x.state.code ++ num8 x.failed ++ num8 x.lastProbe.code
    ++ orAbsent8 (x.moduleType.map (·.code))
    ++ (match x.drive with
      | some d => num8 d.state.code ++ [d.fault] ++ wordBytes d.speed ++ wordBytes d.temperature
      | none => [0xFF, 0xFF] ++ wordBytes 0x8000 ++ wordBytes 0x8000)
    ++ (match x.monitor with
      | some v => wordBytes v[0] ++ wordBytes v[1] ++ wordBytes v[2] ++ wordBytes v[3]
      | none => wordBytes 0x8000 ++ wordBytes 0x8000 ++ wordBytes 0x8000 ++ wordBytes 0x8000)
    ++ timerBytes x.probeTimer ++ yesNo x.probeDue ++ timerBytes x.readTimer ++ yesNo x.readDue

/-- The pass-through record as READ_MODULES gives it (R131, log 18). -/
def PassRecord.bytes (p : PassRecord) : List Byte :=
  num8 p.state.code ++ orAbsent8 (p.slot.map (·.val + 1)) ++ orAbsent8 (p.op.map (·.code)) ++ orAbsent8 (p.item.map (·.toNat))
    ++ wordBytes (p.value.getD 0x8000) ++ orAbsent8 (p.outcome.map (·.code)) ++ orAbsent8 (p.status.map (·.code))
    ++ wordBytes (p.returned.getD 0x8000)

/-- READ_MODULES at the Module Line Master (R131); the code of the class is a free value (log 16). -/
def readModulesOwner (s : State) : State × List Byte :=
  (s, [codeOk] ++ num8 s.ml.hostEnable.code ++ num8 s.ml.line.code
    ++ (match s.ml.exchange with
      | some x => [Config.exchangeClassCode x.cls.number] ++ num8 (x.slot + 1)
      | none => [0xFF, 0xFF])
    ++ yesNo s.ml.drivePending[0] ++ yesNo s.ml.drivePending[1] ++ s.ml.pass.bytes
    ++ (List.finRange 8).flatMap s.slotBytes)

/-! ### Resets (R116, R144) -/

/-- RESTART (R116): the pass-through record is emptied, one in flight has its result discarded, and each handler whose drive slot is
PRESENT has a drive exchange pending while the line is ON. -/
def linesRestart (s : State) : State :=
  let pendingOf (h : Fin 2) : Bool := s.ml.line == .on && match s.wm.driveSlotOf h with
    | some i => (s.slot i).state == .present
    | none => false
  arbitrate (s.setMl { s.ml with
    pass := PassRecord.empty, drivePending := Vector.ofFn pendingOf,
    exchange := s.ml.exchange.map fun x => if x.cls = .passThrough then { x with discard := true } else x })

/-- Entry to RUN (R129, R134): an OFF line opens if host enable is ON. -/
def linesEnterRun (s : State) : State := if s.ml.line = .off ∧ s.ml.hostEnable = .on then openLine s else s

/-- Leaving RUN (R129, R135): an ON line closes. -/
def linesLeaveRun (s : State) : State := if s.ml.line = .on then closeLine s else s

end Sys2Proof.Machine
end

