-- ==== Sys2Proof/Machine/Renewals.lean ====
section
/-! DEFINITION. Fresh-air renewal (04): starts, completions, aborts, the balance and the air hold. -/

namespace Sys2Proof.Machine

/-- The interval timer stands still (R63): outside RUN, and while the handler's mode is IDLE. -/
def State.intervalPaused (s : State) (h : Fin 2) : Bool := s.sc.opState != .run || (s.handler h).mode == .idle

/-! ### Which renewal to start (R64 to R67) -/

/-- The sum of a list of numbers. -/
def sumInt (l : List Int) : Int := l.foldl (· + ·) 0

/-- The zones that the last demand set marks counted for a handler (R66). -/
def State.countedZones (s : State) (h : Fin 2) : List (Fin 12) :=
  match s.hs.lastDemand with
  | none => []
  | some d => (List.finRange 12).filter fun z => (d.zones[z]).counted && (d.zones[z]).handler == h

/-- The mean setpoint of a handler's counted zones, rounded half away from zero (R66); none without a counted zone. -/
def State.meanSetpoint (s : State) (h : Fin 2) : Option Int :=
  match s.countedZones h with
  | [] => none
  | zs => some (roundHalfAway (sumInt (zs.map fun z => (s.zone z).setpoint)) zs.length)

/-- The handler is favourable for an ECONOMY renewal (R66). DESIGN CHOICE: the point numbers are read from working memory at the
evaluation (log 52). -/
def State.favourable (s : State) (h : Fin 2) : Bool :=
  match s.usable s.wm.outdoorPoint with
  | none => false
  | some out =>
    match (s.handler h).mode with
    | .cool => match s.usable (s.wm.returnPoint h) with
      | some ret => decide (out ≤ ret - 30)
      | none => false
    | .heat => match s.usable (s.wm.returnPoint h) with
      | some ret => decide (ret + 30 ≤ out)
      | none => false
    | .vent => match s.meanSetpoint h with
      | some m => decide ((out - m).natAbs ≤ 20)
      | none => false
    | .idle | .defrost => false

/-- A zone of the handler is over the CO2 limit (R67): ACTIVE in the last demand set, with a VALID CO2 point above the limit.
DESIGN CHOICE: the zone's CO2 point number is read from working memory at the evaluation (log 51). -/
def State.overCo2 (s : State) (h : Fin 2) : Bool :=
  match s.hs.lastDemand with
  | none => false
  | some d => (List.finRange 12).any fun z =>
      (d.zones[z]).handler == h && (d.zones[z]).state == .active &&
      match s.wm.zoneCo2Point z with
      | none => false
      | some p => s.wm.pointKind p == .co2 && (s.point p).state == .valid && decide (s.wm.co2Limit < (s.point p).value)

/-- The kind of renewal to start, by the first row of R65 that holds. -/
def State.renewalChoice (s : State) (h : Fin 2) : Option RenewalKind :=
  let b := (s.renewal h).balance
  if b = -8 ∧ s.rs.airHold ≠ .hard then some .forced
  else if b < 0 ∧ s.rs.airHold = .none then some .due
  else if b < 8 ∧ s.rs.airHold = .none ∧ s.favourable h then some .economy
  else if b < 8 ∧ s.rs.airHold = .none ∧ s.overCo2 h then some .airQuality
  else none

/-! ### Start, completion, abort (R68 to R71) -/

/-- A renewal starts (R68). -/
def startRenewal (h : Fin 2) (k : RenewalKind) (s : State) : State :=
  renewAir h (s.putRenewal h { s.renewal h with
    state := if k = .forced then .forced else .renewing, kind := some k, timer := sec s.wm.renewalDuration })

/-- The start evaluation of a handler (R64). -/
def evaluate (h : Fin 2) (s : State) : State :=
  if s.sc.opState ≠ .run ∨ (s.handler h).mode = .idle ∨ (s.handler h).mode = .defrost ∨ s.renewing h then s
  else match s.renewalChoice h with
    | some k => startRenewal h k s
    | none => s

/-- A credit (R62): one more, to at most +8. -/
def credit (h : Fin 2) (s : State) : State :=
  s.putRenewal h { s.renewal h with balance := min 8 ((s.renewal h).balance + 1) }

/-- A running renewal ends: IDLE, the kind kept, the timer 0, the last end given; the HS is told (R69 to R71). -/
def endRenewal (h : Fin 2) (e : RenewalEnd) (s : State) : State :=
  renewAir h (s.putRenewal h { s.renewal h with state := .idle, timer := 0, lastEnd := e })

/-- A running renewal, if there is one, is aborted without credit (R70, R71). -/
def abortRenewal (h : Fin 2) (e : RenewalEnd) (s : State) : State := if s.renewing h then endRenewal h e s else s

/-- A change of air hold aborts this handler's renewal (R70): NONE to SOFT a RENEWING one, to HARD any. -/
def holdAborts (before now : AirHold) (r : RenewalState) : Bool :=
  match now with
  | .hard => r != .idle
  | .soft => before == .none && r == .renewing
  | .none => false

/-- The interval expiry of a handler (R63): the timer restarts; the balance drops, or at -8 RENEWAL_OVERDUE is latched. -/
def intervalExpired (h : Fin 2) (s : State) : State :=
  let r := s.renewal h
  let s1 := s.putRenewal h { r with
    interval := sec s.wm.renewalInterval, balance := if -8 < r.balance then r.balance - 1 else -8 }
  evaluate h (if -8 < r.balance then s1 else latch .renewalOverdue h (-8) s1)

/-- A door credit of door `d` reaches the RS (R74): outside RUN it is discarded; each handler that serves an enabled zone on the
door gains one credit and is evaluated. DESIGN CHOICE: the zones' doors and handlers are read from working memory at the credit
(log 51). -/
def doorCredit (d : Fin 4) (s : State) : State :=
  if s.sc.opState ≠ .run then s
  else forHandlers (fun h s' =>
    if (List.finRange 12).any (fun z => (s.zone z).enabled && s.wm.zoneDoor z == some d && s.wm.zoneHandler z == h)
    then evaluate h (credit h s') else s') s

/-! ### The commands -/

/-- INTERVAL_EXPIRY (R63): a timer that stands still cannot expire. -/
def execIntervalExpiry (h : Fin 2) (s : State) : Host.Outcome State Fault Refusal :=
  if s.intervalPaused h then .next s else .next (kick (intervalExpired h s))

/-- RENEWAL_COMPLETE (R69): one credit, whatever the kind; without a running renewal there is no completion (R70). -/
def execRenewalComplete (h : Fin 2) (s : State) : Host.Outcome State Fault Refusal :=
  if s.renewing h then .next (endRenewal h .completed (credit h s)) else .next s

/-- AIR_HOLD at the Renewal Scheduler (R72); the evaluation after a change to SOFT may start a FORCED renewal at -8 (log 40). -/
def airHoldOwner (v : Byte) (s : State) : State × List Byte :=
  let hold? : Option AirHold := if v = 0 then some .none else if v = 1 then some .soft else if v = 2 then some .hard else none
  match hold? with
  | none => (s, [codeBadArg])
  | some now =>
    let before := s.rs.airHold
    let s1 := s.setRs { s.rs with airHold := now }
    let s2 :=
      if now = before then s
      else if s.sc.opState ≠ .run then s1
      else
        let aborted := forHandlers (fun h s => if holdAborts before now (s.renewal h).state then endRenewal h .hold s else s) s1
        forHandlers renewFresh (forHandlers evaluate aborted)
    (s2, [codeOk] ++ num8 now.code ++ num8 (s2.renewal 0).state.code ++ int8 (s2.renewal 0).balance
      ++ num8 (s2.renewal 1).state.code ++ int8 (s2.renewal 1).balance)

/-- RENEW_NOW at the Renewal Scheduler (R73). -/
def renewNowOwner (v : Byte) (s : State) : State × List Byte :=
  if v ≠ 0 ∧ v ≠ 1 then (s, [codeBadArg])
  else
    let h : Fin 2 := if v = 0 then 0 else 1
    let reply (s' : State) (code : Byte) (started : Bool) : State × List Byte :=
      (s', [code, v] ++ yesNo started ++ int8 (s'.renewal h).balance ++ num8 (s'.renewal h).state.code)
    if s.sc.opState = .standby then reply s codeWrongState false
    else if s.rs.airHold ≠ .none then reply s codeWrongState false
    else if s.renewing h then reply s codeBusy false
    else if (s.handler h).mode = .defrost then reply s codeBusy false
    else if (s.handler h).mode = .idle then reply s codeWrongState false
    else if (s.renewal h).balance = 8 then reply s codeOk false
    else reply (startRenewal h .host s) codeOk true

/-- One renewal record as READ_RENEWALS gives it (R77); DEDUCED: the balance is one byte in two's complement (log 62). -/
def State.renewalBytes (s : State) (h : Fin 2) : List Byte :=
  let r := s.renewal h
  int8 r.balance ++ num16 (secondsLeft r.interval) ++ yesNo (s.intervalPaused h) ++ num8 r.state.code
    ++ orAbsent8 (r.kind.map (·.code)) ++ num16 (secondsLeft r.timer) ++ num8 r.lastEnd.code

/-- READ_RENEWALS at the Renewal Scheduler (R77).
The settings in force are those of working memory (log 60). -/
def readRenewalsOwner (s : State) : State × List Byte :=
  (s, [codeOk] ++ num8 s.rs.airHold.code ++ s.renewalBytes 0 ++ s.renewalBytes 1
    ++ num16 s.wm.renewalInterval ++ num16 s.wm.renewalDuration)

/-! ### Resets (R61) -/

/-- Leaving RUN (R71): each running renewal is aborted with last end LEFT_RUN. The HS sets its airflow to 0 by its own reset. -/
def renewalsLeaveRun (s : State) : State :=
  forHandlers (fun h s =>
    if s.renewing h then s.putRenewal h { s.renewal h with state := .idle, timer := 0, lastEnd := .leftRun } else s) s

/-- RESTART (R61): the records are reset and the interval timers take the full interval; the air hold is kept. -/
def renewalsRestart (s : State) : State :=
  s.setRs { s.rs with renewals := Vector.replicate 2 { Renewal.reset with interval := sec s.wm.renewalInterval } }

/-- The profile load completes: the interval timers take the full interval of the loaded profile (R61). -/
def renewalsLoaded (s : State) : State :=
  forHandlers (fun h s => s.putRenewal h { s.renewal h with interval := sec s.wm.renewalInterval }) s

end Sys2Proof.Machine
end

