-- ==== Sys2Proof/Machine/Handlers.lean ====
section
/-! DEFINITION. Air handlers (02): stage 2, stage 4, the account, rest and dwell timers, and the handlers' resets. -/

namespace Sys2Proof.Machine

/-! ### Stage 2 (R25 to R31, R33) -/

/-- The counted zones of a handler in a demand set (R26). -/
def DemandSet.counted (d : DemandSet) (h : Fin 2) : List DemandZone :=
  ((List.finRange 12).map fun z => d.zones[z]).filter fun x => x.counted && x.handler == h

/-- The net demand of counted zones (R26); 0 when there is none. -/
def netDemand (zs : List DemandZone) : Int :=
  truncDiv (sumInt (zs.map fun x => x.weight * x.demand)) (sumInt (zs.map fun x => (x.weight : Int)))

/-- A defrost ends and the handler returns to HEAT (R35): Q and the compressor stay as they are. -/
def returnToHeat (h : Fin 2) (r : DefrostEnd) (icing : Nat) (s : State) : State :=
  takeMode h .heat (endDefrost h r (s.putHandler h { s.handler h with icing := icing, defrostDue := false }))

/-- The coil has warmed to +120 or above (R35). -/
def State.coilWarm (s : State) (h : Fin 2) : Bool :=
  match s.usable (s.wm.coilPoint h) with
  | some v => decide (120 ≤ v)
  | none => false

/-- The mode transition of a handler with a counted zone, by the first row of R27 that applies. -/
def transition (h : Fin 2) (s : State) : State :=
  let x := s.handler h
  match x.mode with
  | .idle => takeMode h .vent s
  | .vent =>
    if s.wm.heatOn ≤ x.net ∧ x.driveAvailable ∧ x.restClear ∧ x.dwellClear .heat then takeMode h .heat s
    else if x.net ≤ -s.wm.coolOn ∧ x.driveAvailable ∧ x.restClear ∧ x.dwellClear .cool then takeMode h .cool s
    else s
  | .heat => if !x.driveAvailable ∨ x.net ≤ s.wm.heatOff then leaveTo h .vent .drive s else s
  | .cool => if !x.driveAvailable ∨ -s.wm.coolOff ≤ x.net then leaveTo h .vent .drive s else s
  | .defrost =>
    if !x.driveAvailable then leaveTo h .vent .drive s
    else if s.coilWarm h then returnToHeat h .temperature 0 s
    else if s.wm.defrostMaximum ≤ x.defrostTimer then returnToHeat h .time (s.wm.defrostInterval / 2) s
    else s

/-- Step 2 of stage 2 (R27): without a counted zone the handler goes IDLE, which aborts its renewal (R71). -/
def stepMode (h : Fin 2) (s : State) : State :=
  if (s.handler h).counted = 0 then
    if (s.handler h).mode = .idle then s else abortRenewal h .handlerIdle (leaveTo h .idle .aborted s)
  else transition h s

/-- The compressor is STOPPED and resting (R30, R37). -/
def Handler.resting (x : Handler) : Bool := x.comp == .stopped && x.rest != 0

/-- The compressor request (R30). -/
def requestOf (w : WorkingMemory) (x : Handler) : Nat :=
  match x.mode with
  | .heat => if x.resting then 0 else max w.qMin (min 1000 x.net).toNat
  | .cool => if x.resting then 0 else max w.qMin (min 1000 (-x.net)).toNat
  | .defrost => w.qDef
  | .idle | .vent => 0

/-- Whether the handler's defrost is offered (R33). -/
def State.offersDefrost (s : State) (h : Fin 2) : Bool :=
  let x := s.handler h
  x.mode == .heat && x.defrostDue && x.driveAvailable && x.restClear && !s.renewing h

/-- The four steps of stage 2 for one handler (R25). -/
def stage2Handler (d : DemandSet) (h : Fin 2) (s : State) : State :=
  let zs := d.counted h
  let s1 := stepMode h (s.putHandler h { s.handler h with counted := zs.length, net := netDemand zs })
  let s2 := s1.putHandler h { s1.handler h with qReq := requestOf s1.wm (s1.handler h) }
  s2.putHandler h { s2.handler h with candidate := s2.offersDefrost h }

/-- Cold-weather assist (R31): the outdoor-air point is usable and at or below the assist threshold. -/
def State.assist (s : State) : Bool :=
  match s.usable s.wm.outdoorPoint with
  | some v => decide (v ≤ s.wm.assistThreshold)
  | none => false

/-- The reheat request of a zone (R31), from its handler's mode after step 2. -/
def State.reheatRequest (s : State) (x : DemandZone) : Nat :=
  if !x.hasReheat ∨ x.demand ≤ 0 then 0
  else match (s.handler x.handler).mode with
    | .vent | .cool | .defrost => x.demand.toNat
    | .heat => if s.assist then x.demand.toNat else 0
    | .idle => 0

/-- The request set as the handlers stand (R25). -/
def State.requestSet (s : State) (d : DemandSet) : RequestSet :=
  { cycleNo := d.cycleNo
    handlers := Vector.ofFn fun h => let x := s.handler h
      ⟨x.mode, x.qReq, s.wm.compressorRating h, x.candidate, x.mode == .defrost⟩
    zones := d.zones.map fun x => ⟨s.reheatRequest x, x.rating⟩
    demand := d }

/-- Stage 2 (R25): the HS reads its settings (R22), the request set is handed to the PA with the demand set beside it, and the outstanding flag set. -/
def stage2 (d : DemandSet) (s : State) : State :=
  let s1 := forHandlers (stage2Handler d) (readAir (s.setHs { s.hs with cycleNo := d.cycleNo, lastDemand := some d }))
  let s2 := s1.setBus { s1.bus with requestSets := s1.bus.requestSets ++ [⟨false, s1.requestSet d⟩] }
  s2.setHs { s2.hs with outstanding := true }

/-- DEMAND_SET_RECEIVED (R25, R135): outside RUN, or where its cascade has been dropped, the set is discarded. -/
def execDemandSetReceived (s : State) : Host.Outcome State Fault Refusal :=
  match s.bus.demandSets with
  | [] => .next s
  | d :: rest =>
    let s1 := s.setBus { s.bus with demandSets := rest }
    .next (kick (if s.sc.opState = .run ∧ !d.dropped then stage2 d.set s1 else s1))

/-! ### Stage 4 (R34, R36 to R40) -/

/-- An admitted defrost is entered (R34). -/
def enterDefrost (h : Fin 2) (s : State) : State :=
  let s1 := takeMode h .defrost s
  let x := s1.handler h
  latch .defrostStart h x.icing (s1.putHandler h { x with defrostTimer := 0 })

/-- A running defrost is aborted by the allotment (R36): Q 0, the compressor STOPPED, and the rest and dwell timers restart in any
case. -/
def abortDefrost (h : Fin 2) (s : State) : State :=
  let x := (s.handler h).leaveMode s.wm.reversalDwell
  readAir (endDefrost h .aborted (takeMode h .vent (s.putHandler h { x with
    q := 0, comp := .stopped, rest := sec s.wm.restTime })))

/-- Whether an admitted defrost may be entered (R34): still HEAT, drive available, rest clear, no renewal running. -/
def State.mayEnterDefrost (s : State) (h : Fin 2) : Bool :=
  let x := s.handler h
  x.mode == .heat && x.driveAvailable && x.restClear && !s.renewing h

/-- Step 1 of stage 4 (R37): the entry of R34 or the abort of R36. -/
def stage4Mode (a : AllotHandler) (h : Fin 2) (s : State) : State :=
  if a.outcome = .admitted ∧ s.mayEnterDefrost h then enterDefrost h s
  else if a.outcome = .aborted ∧ (s.handler h).mode = .defrost then abortDefrost h s
  else s

/-- The command of step 2 of stage 4 (R37): the granted command, for a defrost that was not entered at most Q_req (R34). -/
def commandOf (a : AllotHandler) (x : Handler) : Nat :=
  if !x.driveAvailable ∨ x.mode = .idle ∨ x.mode = .vent ∨ x.resting then 0
  else if a.outcome = .admitted ∧ x.mode ≠ .defrost then min a.command x.qReq
  else a.command

/-- Q and the compressor state (R29, R37). -/
def Handler.applyCommand (restTime q : Nat) (x : Handler) : Handler :=
  if q = 0 then x.stop restTime else { x with q := q, comp := .running }

/-- The largest of a list of numbers, or 0. -/
def largest (l : List Nat) : Nat := l.foldl max 0

/-- The base blower (R38) of a mode and the demands of the counted zones. -/
def baseBlowerOf (bMin : Nat) (m : Mode) (demands : List Int) : Nat :=
  let lifted (a : Nat) : Nat := bMin + (1000 - bMin) * a / 1000
  match m with
  | .idle | .defrost => 0
  | .vent => bMin
  | .heat => lifted (largest (demands.map Int.toNat))
  | .cool => lifted (largest (demands.map fun d => (-d).toNat))

/-- The demands of a handler's counted zones in the last demand set. -/
def State.countedDemands (s : State) (h : Fin 2) : List Int :=
  match s.hs.lastDemand with
  | some d => (d.counted h).map (·.demand)
  | none => []

/-- Steps 2 and 3 of stage 4 (R37): Q, and the compressor state, whose stop starts the rest timer. -/
def stage4Command (a : AllotHandler) (h : Fin 2) (s : State) : State :=
  let x := s.handler h
  let q := commandOf a x
  timerStart (q == 0 && x.comp == .running) (s.putHandler h (x.applyCommand s.wm.restTime q))

/-- Step 4 of stage 4 for one handler's own airflow values (R37, R38, R40). -/
def stage4Air (h : Fin 2) (s : State) : State :=
  let x := s.handler h
  let s1 := s.putHandler h { x with baseBlower := baseBlowerOf s.hs.air.bMin x.mode (s.countedDemands h) }
  s1.putHandler h { s1.handler h with blower := s1.blowerValue h, fresh := s1.freshValue h }

/-- The damper value of a zone (R39). -/
def State.damperOf (s : State) (x : DemandZone) : Nat :=
  let m := (s.handler x.handler).mode
  if x.state = .off then 0
  else if (m = .heat ∧ 0 < x.demand) ∨ (m = .cool ∧ x.demand < 0) then
    s.hs.air.dMin + (1000 - s.hs.air.dMin) * x.demand.natAbs / 1000
  else s.hs.air.dMin

/-- The damper values of a handler's zones (R37, R39); those of the other handler's zones stay. -/
def setDampers (h : Fin 2) (s : State) : State :=
  match s.hs.lastDemand with
  | some d => s.setHs { s.hs with
      dampers := Vector.ofFn fun z => if (d.zones[z]).handler = h then s.damperOf d.zones[z] else s.hs.dampers[z] }
  | none => s

/-- Steps 1 to 4 of stage 4 for one handler (R37): both its airflow values and its zones' dampers are computed in its turn. -/
def stage4Handler (a : Allotment) (h : Fin 2) (s : State) : State :=
  setDampers h (stage4Air h (stage4Command a.handlers[h] h (stage4Mode a.handlers[h] h s)))

/-- The values of one handler are handed to the OU (R37, R106), the blower first (DESIGN CHOICE: log 25). -/
def handAir (h : Fin 2) (s : State) : State :=
  handValue (.freshDamper h) (s.handler h).fresh (handValue (.blower h) (s.handler h).blower s)

/-- The damper value of a zone, and its granted duty if it has a reheat element, are handed to the OU (R37, R106).
DESIGN CHOICE: in this order, zone by zone (log 25). -/
def handZone (a : Allotment) (z : Fin 12) (s : State) : State :=
  let s1 := handValue (.zoneDamper z) s.hs.dampers[z] s
  match s.hs.lastDemand with
  | some d => if (d.zones[z]).hasReheat then handValue (.zoneReheat z) (a.zones[z]).duty s1 else s1
  | none => s1

/-- The ML is told that a drive exchange is due: the flag is set for a handler with a drive slot while the line is ON (R122). -/
def driveDue (h : Fin 2) (s : State) : State :=
  if s.ml.line = .on ∧ (s.handler h).driveSlot.isSome then s.setMl { s.ml with drivePending := s.ml.drivePending.set h true } else s

/-- Stage 4 for an accepted allotment (R37), the arbiter's grant (R125) and the start evaluations that follow (R64). -/
def stage4 (a : Allotment) (s : State) : State :=
  let s1 := forHandlers (stage4Handler a) (s.setHs { s.hs with outstanding := false })
  let s2 := (List.finRange 12).foldl (fun s z => handZone a z s) (forHandlers handAir s1)
  forHandlers evaluate (arbitrate (forHandlers driveDue s2))

/-- The HS accepts an allotment (R37). -/
def State.hsAccepts (s : State) (a : Allotment) : Bool :=
  s.sc.opState == .run && s.hs.outstanding && a.cycleNo == s.hs.cycleNo

/-- ALLOTMENT_AT_HS (R37): taken or discarded, the allotment then goes on to the ZR (R55). -/
def execAllotmentAtHs (s : State) : Host.Outcome State Fault Refusal :=
  match s.bus.allotHS with
  | [] => .next s
  | a :: rest =>
    let s1 := s.setBus { s.bus with allotHS := rest, allotZR := s.bus.allotZR ++ [a] }
    .next (kick (if s.hsAccepts a then stage4 a s1 else s1))

/-! ### Timers (R28, R29, R32) -/

/-- The coil condition of the ice account (R32). -/
def State.coilCold (s : State) (h : Fin 2) : Bool :=
  match s.usable (s.wm.coilPoint h) with
  | some v => decide (v ≤ s.wm.coilThreshold)
  | none => match s.usable s.wm.outdoorPoint with
    | some v => decide (v ≤ 70)
    | none => true

/-- One handler at an expiry of the account timer (R32). -/
def account (h : Fin 2) (s : State) : State :=
  let x := s.handler h
  let icing := if x.mode = .heat ∧ 0 < x.q ∧ s.coilCold h then min 7200 (x.icing + 1) else x.icing
  s.putHandler h { x with
    icing := icing, defrostDue := x.defrostDue || decide (s.wm.defrostInterval ≤ icing),
    defrostTimer := if x.mode = .defrost then min 600 (x.defrostTimer + 1) else x.defrostTimer }

/-- ACCOUNT_TIMER_EXPIRY (R22, R32): the settings are read; a stopped timer cannot expire. -/
def execAccountTimerExpiry (s : State) : Host.Outcome State Fault Refusal :=
  if s.hs.accountTimer.isSome then .next (forHandlers account (readAir (s.setHs { s.hs with accountTimer := some (sec 1) }))) else .next s

/-- REST_TIMER_EXPIRY (R29): the rest is clear. -/
def execRestTimerExpiry (h : Fin 2) (s : State) : Host.Outcome State Fault Refusal :=
  .next (s.putHandler h { s.handler h with rest := 0 })

/-- DWELL_TIMER_EXPIRY (R28): the opposite compressor mode is allowed. -/
def execDwellTimerExpiry (h : Fin 2) (s : State) : Host.Outcome State Fault Refusal :=
  .next (s.putHandler h { s.handler h with dwell := 0 })

/-! ### Reading (R41, R172) -/

/-- One handler record with its zones (R41, R172), with the compressor rating as working memory holds it (log 49).
DESIGN CHOICE: a zone is listed under the handler that working memory names at the request (log 58). -/
def State.handlerBytes (s : State) (h : Fin 2) : List Byte :=
  let x := s.handler h
  let zs := (List.finRange 12).filter fun z => s.wm.zoneHandler z == h
  num8 h ++ num8 x.mode.code ++ num8 x.lastMode.code ++ num16 (secondsLeft x.dwell) ++ num16 (secondsLeft x.rest)
    ++ num8 x.comp.code ++ num8 x.counted ++ int16 x.net ++ num16 x.qReq ++ yesNo x.candidate ++ num16 x.q
    ++ num16 (s.wm.compressorRating h) ++ orAbsent8 (x.driveSlot.map (·.val + 1)) ++ yesNo x.driveAvailable ++ num16 x.icing
    ++ yesNo x.defrostDue ++ num16 x.defrostTimer ++ num8 x.lastEnd.code ++ num16 x.baseBlower ++ num16 x.blower
    ++ num16 x.fresh ++ num8 zs.length ++ zs.flatMap fun (z : Fin 12) => num8 z ++ num16 s.hs.dampers[z]

/-- READ_HANDLERS at the Handler Sequencer (R41). -/
def readHandlersOwner (selector : Byte) (s : State) : State × List Byte :=
  let head := [codeOk] ++ wordBytes s.hs.cycleNo ++ yesNo s.hs.outstanding
  if selector = 0 then (s, head ++ s.handlerBytes 0)
  else if selector = 1 then (s, head ++ s.handlerBytes 1)
  else if selector = 2 then (s, head ++ s.handlerBytes 0 ++ s.handlerBytes 1)
  else (s, [codeBadArg])

/-! ### Resets (R23) -/

/-- One handler at the leaving of RUN (R23). -/
def handlerLeavesRun (h : Fin 2) (s : State) : State :=
  let s1 := leaveTo h .idle .aborted s
  s1.putHandler h { s1.handler h with
    counted := 0, net := 0, qReq := 0, candidate := false, baseBlower := 0, blower := 0, fresh := 0 }

/-- The handlers at the leaving of RUN (R23). -/
def handlersLeaveRun (s : State) : State :=
  let s1 := forHandlers handlerLeavesRun s
  s1.setHs { s1.hs with dampers := Vector.replicate 12 0, accountTimer := none, outstanding := false }

/-- The handlers at RESTART (R23): as at a leaving of RUN, and the rest timers restart, the cycle number is 0, the drive slots are
derived anew. -/
def handlersRestart (s : State) : State :=
  let s1 := handlersLeaveRun s
  let s2 := forHandlers (fun h s => s.putHandler h { s.handler h with rest := sec s.wm.restTime }) s1
  tellDrives (readAir (s2.setHs { s2.hs with cycleNo := 0 }))

/-- The handlers take the loaded profile (R23): the rest timers start and the drive slots are derived. -/
def handlersLoaded (s : State) : State :=
  tellDrives (readAir (forHandlers (fun h s => s.putHandler h { s.handler h with rest := sec s.wm.restTime }) s))

/-- The account timer starts at entry to RUN (R23). -/
def handlersEnterRun (s : State) : State := readAir (s.setHs { s.hs with accountTimer := some (sec 1) })

end Sys2Proof.Machine
end

