-- ==== Sys2Proof/Machine/Zones.lean ====
section
/-! DEFINITION. Zone regulation (01): stage 1, the regulation cycle timer, the returning allotment, and the zones' resets. -/

namespace Sys2Proof.Machine

/-! ### Zone states (R8, R10) -/

/-- The state of a zone's temperature point as stage 1 takes it (R8): a point of another kind is treated as ABSENT. -/
def State.zonePointState (s : State) (z : Fin 12) : PointState :=
  match s.wm.zonePoint z with
  | some p => if s.wm.pointKind p = .temp then (s.point p).state else .absent
  | none => .absent

/-- The age of a zone's temperature point, in tenths of a second. -/
def State.zonePointAge (s : State) (z : Fin 12) : Nat :=
  match s.wm.zonePoint z with
  | some p => (s.point p).age
  | none => 0

/-- The filtered value of a zone's temperature point. -/
def State.zonePointValue (s : State) (z : Fin 12) : Int :=
  match s.wm.zonePoint z with
  | some p => (s.point p).value
  | none => 0

/-- The state of a zone at a stage 1 (R8). -/
def State.zoneState (s : State) (z : Fin 12) : ZoneState :=
  if !(s.zone z).enabled then .off
  else match s.zonePointState z with
    | .valid => .active
    | .held | .pending => if s.zonePointAge z ≤ 10 * s.wm.holdLimit then .held else .substitute
    | .failed | .absent => .substitute

/-- The ACTIVE zones of a handler at a stage 1 (R10). -/
def State.activeZones (s : State) (h : Fin 2) : List (Fin 12) :=
  (List.finRange 12).filter fun z => s.wm.zoneHandler z == h && s.zoneState z == .active

/-- The source and the temperature of a SUBSTITUTE zone, by the first of R10 that exists. -/
def State.substituteOf (s : State) (z : Fin 12) : SubstSource × Option Int :=
  let h := s.wm.zoneHandler z
  match s.activeZones h with
  | a :: as => (.zoneMean, some (roundHalfAway (sumInt ((a :: as).map s.zonePointValue)) ((a :: as).length : Nat)))
  | [] => match s.usable (s.wm.returnPoint h) with
    | some v => (.returnAir, some v)
    | none => (.noSource, none)

/-! ### The demand law (R12 to R14) -/

/-- The effective error (R12). -/
def effectiveError (setpoint temp db : Int) : Int :=
  let e := clampInt (-200) 200 (setpoint - temp)
  if db < e then e - db else if e < -db then e + db else 0

/-- The demand (R13). -/
def demandOf (kp eEff integral : Int) : Int := clampInt (-1000) 1000 (kp * eEff + truncDiv integral 16)

/-- Conditions 3 to 5 of R14 for a zone with an effective error; conditions 1 and 2 are its state. -/
def State.frozen (s : State) (z : Fin 12) (eEff : Int) : Bool :=
  let x := s.zone z
  (match s.wm.zoneDoor z with
    | some d => (s.door d).state == .opened
    | none => false) ||
  (x.limited == .heating && decide (0 < eEff)) || (x.limited == .cooling && decide (eEff < 0)) ||
  (x.demand == 1000 && decide (0 < eEff)) || (x.demand == -1000 && decide (eEff < 0))

/-- The cadence factor c (R14). -/
def cadenceFactor : Cadence → Nat
  | .full => 1
  | .half => 2

/-- The integral after the update of R14. -/
def integralAfter (ki eEff c integral : Int) : Int := clampInt (-16000) 16000 (integral + ki * eEff * c)

/-! ### Stage 1 (R7, R9, R11, R15, R16) -/

/-- A zone record after a stage 1, from the state as the stage begins (R7 to R15). -/
def State.regulated (s : State) (z : Fin 12) : Zone :=
  let x := s.zone z
  let integral := if x.state = .off then 0 else x.integral
  let temp := if x.state = .off then none else x.tempUsed
  match s.zoneState z with
  | .off => { x with state := .off, substitute := none, tempUsed := none, integral := 0, demand := 0 }
  | .active =>
    let t := s.zonePointValue z
    let e := effectiveError x.setpoint t s.wm.deadband
    let i := if s.frozen z e then integral else integralAfter s.wm.ki e (cadenceFactor s.sc.cadence) integral
    { x with state := .active, substitute := none, tempUsed := some t, integral := i, demand := demandOf s.wm.kp e i }
  | .held => { x with state := .held, substitute := none, tempUsed := temp, integral := integral }
  | .substitute =>
    let (src, t?) := s.substituteOf z
    { x with state := .substitute, substitute := some src, tempUsed := t?, integral := integral,
             demand := match t? with
               | some t => demandOf s.wm.kp (effectiveError x.setpoint t s.wm.deadband) integral
               | none => 0 }

/-- Whether a zone is counted (R16). -/
def Zone.counted (x : Zone) : Bool :=
  match x.state with
  | .off => false
  | .active => true
  | .held => x.tempUsed.isSome
  | .substitute => match x.substitute with
    | some .zoneMean | some .returnAir => true
    | some .noSource | none => false

/-- The demand set as the zone table stands (R16). -/
def State.demandSet (s : State) : DemandSet :=
  { cycleNo := s.zr.cycleNo
    zones := Vector.ofFn fun z => let x := s.zone z
      ⟨s.wm.zoneHandler z, s.wm.zoneWeight z, x.state, x.counted, x.demand, (s.wm.zoneReheat z).isSome, s.wm.zoneRating z⟩ }

/-- Stage 1 (R5, R7): the cycle number, the records, the demand set handed on, the outstanding flag. -/
def stage1 (s : State) : State :=
  let s1 := s.setZr { s.zr with
    zones := Vector.ofFn s.regulated, cycleNo := s.zr.cycleNo + 1, outstanding := true, deferred := false }
  s1.setBus { s1.bus with demandSets := s1.bus.demandSets ++ [⟨false, s1.demandSet⟩] }

/-- The period of the regulation cycle timer (R4). -/
def cyclePeriod (c : Cadence) : Nat := sec (cadenceFactor c)

/-- REGULATION_TIMER_EXPIRY (R4, R5): a stopped timer cannot expire. -/
def execRegulationTimerExpiry (s : State) : Host.Outcome State Fault Refusal :=
  if s.zr.cycleTimer.isSome then
    let s1 := s.setZr { s.zr with cycleTimer := some (cyclePeriod s.sc.cadence) }
    .next (if s.zr.outstanding then s1.setZr { s1.zr with deferred := true } else stage1 s1)
  else .next s

/-- The ZR accepts an allotment (R17). -/
def State.zrAccepts (s : State) (a : Allotment) : Bool :=
  s.sc.opState == .run && s.zr.outstanding && a.cycleNo == s.zr.cycleNo

/-- An accepted allotment is written into the zone table, and a deferred cycle begins (R5, R17). -/
def takeAllotment (a : Allotment) (s : State) : State :=
  let s1 := s.setZr { s.zr with
    zones := Vector.ofFn fun z => { s.zone z with grantedReheat := (a.zones[z]).duty, limited := (a.zones[z]).limited }
    outstanding := false }
  if s.zr.deferred then stage1 s1 else s1

/-- ALLOTMENT_AT_ZR (R17). -/
def execAllotmentAtZr (s : State) : Host.Outcome State Fault Refusal :=
  match s.bus.allotZR with
  | [] => .next s
  | a :: rest =>
    let s1 := s.setBus { s.bus with allotZR := rest }
    .next (if s.zrAccepts a then takeAllotment a s1 else s1)

/-! ### Requests (R18 to R20) -/

/-- A setpoint as SET_SETPOINTS applies it (R18). -/
def clampedSetpoint (w : Word16) : Int := clampInt 120 300 w.toInt

/-- One pair of SET_SETPOINTS (R18); numbers above 11 have been refused. -/
def applyPair (s : State) (p : Byte × Word16) : State :=
  if h : p.1.toNat < 12 then s.putZone ⟨p.1.toNat, h⟩ { s.zone ⟨p.1.toNat, h⟩ with setpoint := clampedSetpoint p.2 } else s

/-- The pair the answer gives for a pair received (R18). -/
def State.pairBytes (s : State) (p : Byte × Word16) : List Byte :=
  if h : p.1.toNat < 12 then [p.1] ++ int16 (s.zone ⟨p.1.toNat, h⟩).setpoint else []

/-- SET_SETPOINTS at the Zone Regulator (R18). -/
def setSetpointsOwner (pairs : List (Byte × Word16)) (s : State) : State × List Byte :=
  if pairs.any fun p => decide (12 ≤ p.1.toNat) then (s, [codeBadArg])
  else
    let s' := pairs.foldl applyPair s
    let clamped := pairs.any fun p => clampedSetpoint p.2 != p.2.toInt
    (s', [if clamped then codeClamped else codeOk] ++ num8 pairs.length ++ pairs.flatMap s'.pairBytes)

/-- SET_ZONE_ENABLE at the Zone Regulator (R19). -/
def setZoneEnableOwner (zone enable : Byte) (s : State) : State × List Byte :=
  if h : zone.toNat < 12 ∧ enable.toNat < 2 then
    let z : Fin 12 := ⟨zone.toNat, h.1⟩
    (s.putZone z { s.zone z with enabled := enable == 1 }, [codeOk, zone, enable])
  else (s, [codeBadArg])

/-- The zone record of READ_ZONES (R20, R172). -/
def State.zoneBytes (s : State) (z : Fin 12) : List Byte :=
  let x := s.zone z
  let absentOr {n : Nat} (v : Option (Fin n)) : List Byte := orAbsent8 (v.map (·.val))
  num8 z ++ yesNo x.enabled ++ num8 (s.wm.zoneHandler z) ++ num8 (s.wm.zoneWeight z) ++ int16 x.setpoint
    ++ absentOr (s.wm.zonePoint z) ++ absentOr (s.wm.zoneCo2Point z) ++ absentOr (s.wm.zoneDoor z)
    ++ absentOr (s.wm.zoneDamper z) ++ absentOr (s.wm.zoneReheat z) ++ num8 (s.wm.zoneRating z / 100)
    ++ num8 x.state.code ++ orAbsent8 (x.substitute.map (·.code)) ++ orAbsent16 x.tempUsed ++ int16 x.integral
    ++ int16 x.demand ++ num8 x.limited.code ++ [0] ++ num16 x.grantedReheat

/-- READ_ZONES at the Zone Regulator (R20). -/
def readZonesOwner (first count : Byte) (s : State) : State × List Byte :=
  match runOf 12 first count with
  | none => (s, [codeBadArg])
  | some zs =>
    (s, [codeOk] ++ wordBytes s.zr.cycleNo ++ yesNo s.zr.outstanding ++ yesNo s.zr.deferred
      ++ num8 (cadenceFactor s.sc.cadence) ++ zs.flatMap s.zoneBytes)

/-! ### Resets (R2, R4, R6) -/

/-- Leaving RUN (R6). -/
def zonesLeaveRun (s : State) : State :=
  s.setZr { s.zr with
    zones := s.zr.zones.map fun x => { x with grantedReheat := 0, limited := .none }
    cycleTimer := none, outstanding := false, deferred := false }

/-- A zone record with its regulation state as after a hard reset (R2). -/
def Zone.restarted (x : Zone) : Zone :=
  { Zone.reset with enabled := x.enabled, setpoint := x.setpoint, state := if x.enabled then .held else .off }

/-- RESTART (R2): enabled fields and setpoints are kept. -/
def zonesRestart (s : State) : State :=
  s.setZr { s.zr with
    zones := s.zr.zones.map Zone.restarted, cycleTimer := none, cycleNo := 0, outstanding := false, deferred := false }

/-- The zones take the defaults of the loaded profile (R2). -/
def zonesLoaded (s : State) : State :=
  let zone (z : Fin 12) : Zone :=
    Zone.restarted { Zone.reset with enabled := s.wm.zoneDefaultEnabled z, setpoint := s.wm.zoneDefaultSetpoint z }
  s.setZr { s.zr with zones := Vector.ofFn zone }

/-- Entry to RUN (R4): the regulation cycle timer starts with a full period. -/
def zonesEnterRun (s : State) : State := s.setZr { s.zr with cycleTimer := some (cyclePeriod s.sc.cadence) }

end Sys2Proof.Machine
end

