-- ==== Sys2Proof/Machine/Modes.lean ====
section
/-! DEFINITION. Operating states (08): the ways in and out of RUN, parking, waking, RESTART, doors and the wake input. -/

namespace Sys2Proof.Machine

/-! ### The converter at a change of operating state (R81, R86, R89, R91) -/

/-- A pass begins with its supply conversion, with the scan list and the scan gap as they stand (R78, R80, R81). -/
def beginPass (s : State) : State :=
  s.setSu { s.su with
    pass := .supply s.wm.scanList, gapTimer := none, scanGap := s.wm.scanGap, passCut := false, passNext := false }

/-- The state changed to RUN, STANDBY or WAKING: a gap ends at once and the next pass begins, or begins as soon as the pass under way
has ended (R81). DESIGN CHOICE: so too at a RESTART in RUN, which enters RUN without a change of state (log 54). -/
def hurryPass (s : State) : State :=
  if s.su.pass = .none then beginPass s else s.setSu { s.su with passNext := true }

/-- The part entered PARKED: the pass under way ends after the conversion in progress, and no further pass begins (R81, R141). -/
def cutPass (s : State) : State :=
  s.setSu { s.su with gapTimer := none, passNext := false, passCut := s.su.pass != .none }

/-- Short trims queued are dropped (R91). -/
def dropShortTrims (s : State) : State :=
  s.setSu { s.su with banks := s.su.banks.map fun b => if b.trim = .shortQueued then { b with trim := .idle } else b }

/-- Every bank is queued for a full trim at the entry to WAKING (R79, R142). -/
def queueFullTrims (s : State) : State :=
  s.setSu { s.su with banks := s.su.banks.map fun b => { b with trim := .fullQueued } }

/-- The Sensing Unit at an entry to RUN (R89, R134), RESTART's among them (log 54). -/
def sensingEntersRun (s : State) : State :=
  hurryPass (s.setSu { s.su with trimTimer := some (sec s.wm.trimInterval) })

/-- The Sensing Unit at the leaving of RUN (R91, R135). -/
def sensingLeavesRun (s : State) : State :=
  let s1 := dropShortTrims s
  hurryPass (s1.setSu { s1.su with trimTimer := none })

/-! ### Entering and leaving RUN (R134, R135) -/

/-- Entry to RUN (R134): the pending cadence takes force, the state becomes RUN and every block applies its entry rule. -/
def enterRun (s : State) : State :=
  let s1 := s.setSc { s.sc with cadence := s.sc.pendingCadence, opState := .run }
  linesEnterRun (sensingEntersRun (handlersEnterRun (zonesEnterRun s1)))

/-- The cascade under way is dropped: the sets on their way to the HS and the PA are discarded when they reach their block (R25, R47,
R135). An allotment on its way is discarded too, since its cycle is no longer outstanding (R17, R37). -/
def Bus.dropCascade (b : Bus) : Bus :=
  { b with demandSets := b.demandSets.map fun d => { d with dropped := true }
           requestSets := b.requestSets.map fun r => { r with dropped := true } }

/-- Leaving RUN for STANDBY (R135). -/
def leaveRun (s : State) : State :=
  let s1 := (s.setBus s.bus.dropCascade).setSc { s.sc with opState := .standby }
  linesLeaveRun (zeroOutputs (sensingLeavesRun (renewalsLeaveRun (emptyRecord (handlersLeaveRun (zonesLeaveRun s1))))))

/-! ### Parking and waking (R141, R142) -/

/-- Entry to WAKING (R142); the receiver begins in HUNTING (R147). -/
def enterWaking (s : State) : State :=
  let s1 := s.setSc { s.sc with opState := .waking, parkRequest := false, wakeHeld := false }
  let s2 := zeroOutputs (hurryPass (queueFullTrims s1))
  s2.setLu { s2.lu with receiver := .hunting, gap := none }

/-- The Link Unit at the entry to PARKED (R145, R150): the frame being assembled, the frame in hand and every reject due are gone;
the event set and the queue are kept. -/
def LU.park (l : LU) : LU :=
  { l with receiver := .hunting, gap := none, inHand := none, overrun := none, answer := none, overrunReject := none,
           transmitter := .idle, after := .none }

/-- Entry to PARKED (R141), and out again at once to WAKING if wake held is yes. -/
def enterParked (s : State) : State :=
  let s1 := s.setSc { s.sc with opState := .parked }
  let s2 := zeroOutputs (cutPass (s1.setLu s1.lu.park))
  if s2.sc.wakeHeld then enterWaking s2 else s2

/-- PARK_ENTRY (R141): the PARK answer has gone out; without one the command says nothing (log 3). -/
def execParkEntry (s : State) : Host.Outcome State Fault Refusal :=
  if s.lu.after = .park then .next (kick (enterParked s)) else .next s

/-! ### RESTART (R143, R144) -/

/-- The Link Unit when RESTART takes effect (R145, R150): the RESTART answer is over and the queue is emptied. -/
def LU.restart (l : LU) : LU :=
  let l' := if l.inHand.isSome then { l with answer := none, transmitter := .idle }.answerEnded else l
  { l' with after := .none, queue := [] }

/-- RESTART takes effect (R144): each block applies its rule, in the order of the table, and the part enters RUN. -/
def restartEffect (s : State) : State :=
  let s1 := s.setBus s.bus.dropCascade
  let s2 := zeroOutputs (dropShortTrims (renewalsRestart (emptyRecord (handlersRestart (zonesRestart s1)))))
  let s3 := linesRestart s2
  let s4 := s3.setLu s3.lu.restart
  enterRun (s4.setSc { s4.sc with parkRequest := false, wakeHeld := false })

/-- RESTART_EFFECT (R144): the RESTART answer has gone out; without one the command says nothing (log 3). -/
def execRestartEffect (s : State) : Host.Outcome State Fault Refusal :=
  if s.lu.after = .restart then .next (kick (restartEffect s)) else .next s

/-! ### Doors (R100, R101, R138) -/

/-- The debounce of an input (R100, R137): it starts with 20 ms when the level differs and it is stopped, and stops when the level
returns. -/
def debounced (differs : Bool) (timer : Timer) : Timer :=
  if differs then (if timer.isSome then timer else some (ms 20)) else none

/-- DOOR_INPUT_CHANGE (R100). -/
def execDoorInputChange (d : Fin 4) (level : DoorLevel) (s : State) : Host.Outcome State Fault Refusal :=
  let s1 := s.setPins { s.pins with doors := s.pins.doors.set d level }
  let x := s1.door d
  .next (s1.putDoor d { x with debounce := debounced (level != x.state) x.debounce })

/-- A debounced door change (R101): an opening starts, or ends. -/
def Door.change (level : DoorLevel) (x : Door) : Door :=
  match level with
  | .opened => { x with state := .opened, debounce := none, openSeconds := 0, credited := false, timer := some (sec 1) }
  | .closed => { x with state := .closed, debounce := none, openSeconds := 0, credited := false, timer := none }

/-- A debounced door change reaches the State Controller (R138). -/
def doorWake (s : State) : State := if s.sc.opState = .standby ∧ !s.sc.parkRequest then enterRun s else s

/-- DOOR_DEBOUNCE_EXPIRY (R100): a stopped timer cannot expire. -/
def execDoorDebounceExpiry (d : Fin 4) (s : State) : Host.Outcome State Fault Refusal :=
  let x := s.door d
  let level := s.pins.doors[d]
  if x.debounce.isNone then .next s
  else if level = x.state then .next (s.putDoor d { x with debounce := none })
  else .next (kick (doorWake (s.putDoor d (x.change level))))

/-- DOOR_TIMER_EXPIRY (R101): a stopped timer cannot expire. -/
def execDoorTimerExpiry (d : Fin 4) (s : State) : Host.Outcome State Fault Refusal :=
  let x := s.door d
  if x.timer.isNone then .next s
  else
    let n := min 65535 (x.openSeconds + 1)
    let earned := !x.credited && decide (s.wm.doorCreditTime ≤ n)
    let s1 := s.putDoor d { x with timer := some (sec 1), openSeconds := n, credited := x.credited || earned }
    .next (if earned then doorCredit d s1 else s1)

/-! ### The wake input (R137, R138, R141, R142) -/

/-- WAKE_INPUT_CHANGE (R137). -/
def execWakeInputChange (level : WakeLevel) (s : State) : Host.Outcome State Fault Refusal :=
  let s1 := s.setPins { s.pins with wake := level }
  .next (s1.setSc { s1.sc with wakeDebounce := debounced (level != s1.sc.wakeLine) s1.sc.wakeDebounce })

/-- A wake (R137). -/
def wake (s : State) : State :=
  match s.sc.opState with
  | .standby => if s.sc.parkRequest then s.setSc { s.sc with wakeHeld := true } else enterRun s
  | .parked => enterWaking s
  | .loading | .run | .waking => s

/-- WAKE_DEBOUNCE_EXPIRY (R137): a stopped timer cannot expire; a change from INACTIVE to ACTIVE is a wake. -/
def execWakeDebounceExpiry (s : State) : Host.Outcome State Fault Refusal :=
  if s.sc.wakeDebounce.isNone then .next s
  else
    let s1 := s.setSc { s.sc with wakeDebounce := none, wakeLine := s.pins.wake }
    .next (if s.sc.wakeLine = .inactive ∧ s.pins.wake = .active then kick (wake s1) else s1)

/-! ### Requests (R136, R138 to R140, R143) -/

/-- The cadence in force and the pending cadence. -/
def State.cadenceBytes (s : State) : List Byte := num8 s.sc.cadence.code ++ num8 s.sc.pendingCadence.code

/-- STANDBY at the State Controller (R136). -/
def standbyOwner (s : State) : State × List Byte :=
  let s' := if s.sc.opState = .run then leaveRun s else s
  (s', [codeOk] ++ num8 s'.sc.opState.code ++ s'.cadenceBytes)

/-- RESUME at the State Controller (R138). -/
def resumeOwner (s : State) : State × List Byte :=
  let s' := if s.sc.opState = .standby ∧ !s.sc.parkRequest then enterRun s else s
  (s', [codeOk] ++ num8 s'.sc.opState.code ++ s'.cadenceBytes)

/-- PARK at the State Controller (R140). -/
def parkOwner (s : State) : State × List Byte :=
  if s.sc.opState ≠ .standby then (s, [codeWrongState])
  else if s.trimUnderWay ∨ s.pl.saveState = .saving ∨ s.ml.line = .closing then (s, [codeBusy])
  else
    let s1 := s.setSc { s.sc with parkRequest := true, wakeHeld := false }
    let s2 := s1.setLu { s1.lu with after := .park }
    (s2, [codeOk] ++ num8 s2.sc.opState.code ++ yesNo s2.sc.parkRequest ++ s2.cadenceBytes)

/-- CADENCE at the State Controller (R139): FULL is 0, HALF 1. -/
def cadenceOwner (v : Byte) (s : State) : State × List Byte :=
  if 1 < v.toNat then (s, [codeBadArg])
  else if s.sc.opState ≠ .standby then (s, [codeWrongState] ++ s.cadenceBytes)
  else
    let s' := s.setSc { s.sc with pendingCadence := if v = 0 then .full else .half }
    (s', [codeOk] ++ s'.cadenceBytes)

/-- RESTART at the State Controller (R143): the effect waits for the answer. -/
def restartOwner (s : State) : State × List Byte :=
  let fields := num8 s.sc.opState.code ++ s.cadenceBytes
  if s.pl.saveState = .saving then (s, [codeBusy] ++ fields)
  else (s.setLu { s.lu with after := .restart }, [codeOk] ++ fields)

end Sys2Proof.Machine
end

