-- ==== Sys2Proof/Machine/Scan.lean ====
section
/-! DEFINITION. The scan pass (05): supply watch, trims, list, the gap between passes, and the report that the trims are complete. -/

namespace Sys2Proof.Machine

/-- The pause after a pass (R81), in RUN the scan gap with which the pass began (R78); PARKED makes no passes. -/
def State.passGap (s : State) : Timer :=
  match s.sc.opState with
  | .loading | .waking => some (ms 10)
  | .run => some (ms s.su.scanGap)
  | .standby => some (sec 10)
  | .parked => none

/-- A pass ends (R81, R91): in LOADING and WAKING, with every bank IDLE, the SC is told and enters RUN; otherwise the next pass begins
at once where a state change asked for it, or after the gap. -/
def endPass (s : State) : State :=
  let next := s.su.passNext
  let s1 := s.setSu { s.su with pass := .none, passCut := false, passNext := false }
  if (s.sc.opState = .loading ∨ s.sc.opState = .waking) ∧ !s.trimUnderWay then enterRun s1
  else if next then beginPass s1
  else s1.setSu { s1.su with gapTimer := s.passGap }

/-- Go on with the entries left, or end the pass; a pass that PARKED cuts ends here (R81). -/
def listFrom (rest : List (Fin 24)) (s : State) : State :=
  if s.su.passCut ∨ rest = [] then endPass s else s.setSu { s.su with pass := .list rest }

/-- Step 3 of a pass (R81): in RUN and STANDBY alone, without the entries of the bank trimmed in this pass and of failed banks. -/
def beginList (trimmed : Option (Fin 3)) (list : List (Fin 24)) (s : State) : State :=
  if s.sc.opState = .run ∨ s.sc.opState = .standby then
    listFrom (list.filter fun t => !(trimmed == some (bankOfTap t)) && !(s.bank (bankOfTap t)).failed) s
  else endPass s

/-- The lowest-numbered bank with a trim queued (R81). -/
def State.queuedBank (s : State) : Option (Fin 3) :=
  (List.finRange 3).find? fun b => (s.bank b).trim == .fullQueued || (s.bank b).trim == .shortQueued

/-- Step 2 of a pass (R81, R86): the queued trim of the lowest-numbered bank begins, with its quiet. -/
def beginTrim (list : List (Fin 24)) (s : State) : State :=
  match s.queuedBank with
  | some b =>
    let full := (s.bank b).trim == .fullQueued
    let s1 := trimQuiet b (s.putBank b { s.bank b with trim := .running })
    s1.setSu { s1.su with pass := .trim b full list }
  | none => beginList none list s

/-- The supply watch (R83, R84): the code is written, and the state changes with its event at 1075 and at 1112;
the first pass after PARKED decides from the kept state too (log 41). -/
def supplyWatch (code : Nat) (s : State) : State :=
  let s1 := s.setSu { s.su with supplyCode := code }
  match s.su.supply with
  | .normal =>
    if code < 1075 then holdTapPoints (latch .supplyLow 0 code (s1.setSu { s1.su with supply := .low })) else s1
  | .low => if 1112 ≤ code then latch .supplyOk 0 code (s1.setSu { s1.su with supply := .normal }) else s1

/-! ### The commands -/

/-- SCAN_GAP_EXPIRY (R81): without a gap under way no pass begins. -/
def execScanGapExpiry (s : State) : Host.Outcome State Fault Refusal :=
  if s.su.gapTimer.isSome then .next (beginPass s) else .next s

/-- SUPPLY_CONVERSION (R83): the end of step 1; a LOW supply, or a cut, ends the pass. -/
def execSupplyConversion (code : Code) (s : State) : Host.Outcome State Fault Refusal :=
  match s.su.pass with
  | .supply list =>
    let s1 := supplyWatch code.toNat s
    .next (kick (if s1.su.supply = .low ∨ s1.su.passCut then endPass s1 else beginTrim list s1))
  | _ => .next s

/-- The mean of reference conversions, rounded to the nearest (R87, R89): `n` is their number. -/
def codeMean (codes : List Code) (n : Nat) : Nat := (sumCodes codes + n / 2) / n

/-- The list step after a trim of a bank. -/
def afterTrim (b : Fin 3) (list : List (Fin 24)) (s : State) : State :=
  if s.su.passCut then endPass s else beginList (some b) list s

/-- FULL_TRIM (R87): the end of step 2 of a pass that makes a full trim. -/
def execFullTrim (low high : Vector Code 32) (s : State) : Host.Outcome State Fault Refusal :=
  match s.su.pass with
  | .trim b true list =>
    .next (kick (afterTrim b list (endFullTrim b (codeMean low.toList 32) (codeMean high.toList 32) s)))
  | _ => .next s

/-- SHORT_TRIM (R89): the end of step 2 of a pass that makes a short trim. -/
def execShortTrim (low high : Vector Code 4) (s : State) : Host.Outcome State Fault Refusal :=
  match s.su.pass with
  | .trim b false list =>
    .next (kick (afterTrim b list (endShortTrim b (codeMean low.toList 4) (codeMean high.toList 4) s)))
  | _ => .next s

/-- TAP_READING (R82): the next entry of the list is converted, and every enabled point on its tap takes the reading. -/
def execTapReading (raw : Code) (s : State) : Host.Outcome State Fault Refusal :=
  match s.su.pass with
  | .list (t :: rest) => .next (kick (listFrom rest (forPoints (takeRaw t raw.toNat) s)))
  | _ => .next s

/-- TRIM_INTERVAL_EXPIRY (R89): a stopped timer cannot expire. -/
def execTrimIntervalExpiry (s : State) : Host.Outcome State Fault Refusal :=
  if s.su.trimTimer.isSome then
    .next (s.setSu { s.su with
      trimTimer := some (sec s.wm.trimInterval)
      banks := s.su.banks.map fun b => if b.trim = .idle ∧ !b.failed then { b with trim := .shortQueued } else b })
  else .next s

end Sys2Proof.Machine
end

