-- ==== Sys2Proof/Machine/Profile.lean ====
section
/-! DEFINITION. The coach profile (10): the image in the EEPROM, the load, parameter requests, the save, and the hard reset. -/

namespace Sys2Proof.Machine

/-! ### The image (R161, R175) -/

/-- The bytes of an image's fixed part before the lock list. -/
def imageFixed : Nat := 990

/-- The length of an image with a number of locks (R175). -/
def imageLength (locks : Nat) : Nat := imageFixed + 1 + 2 * locks

/-- The number of 64-byte pages an image fills. -/
def imagePages (length : Nat) : Nat := (length + 63) / 64

/-- The parameters of the sections, in the order of the image (R175); 30 and 31 are in the header. -/
def imageParams : List Nat :=
  List.range 29 ++ (List.range 39).map (· + 40) ++ (List.range 418).map (· + 80) ++ [29]

/-- Where parameter `n` stands in an image (R175). -/
def paramAddress (n : Nat) : Nat :=
  if n ≤ 28 then 16 + 2 * n
  else if n = 29 then 988
  else if n = 30 then 8
  else if n = 31 then 10
  else if n ≤ 78 then 74 + 2 * (n - 40)
  else 152 + 2 * (n - 80)

/-- The marker and the layout version (R175), most significant byte first (log 46). -/
def imageMark : List Byte := [0x53, 0x43, 0x31, 0x32]
def imageVersion : List Byte := [0x00, 0x01]

/-- Header bytes 0 to 11 (R175), most significant byte first (log 46). -/
def WorkingMemory.imageHead (w : WorkingMemory) : List Byte :=
  imageMark ++ imageVersion ++ num16 (imageLength w.locks.length) ++ wordBytes (w.word 30) ++ wordBytes (w.word 31)

/-- Bytes 16 to the end (R175), the numbers of the lock list most significant byte first (log 46). -/
def WorkingMemory.imageBody (w : WorkingMemory) : List Byte :=
  imageParams.flatMap (fun n => wordBytes (w.word n)) ++ num8 w.locks.length ++ w.locks.flatMap num16

/-- A CRC-32 as four bytes, most significant first (log 46). -/
def crcBytes (c : Word32) : List Byte := wordBytes (c.extractLsb' 16 16) ++ wordBytes (c.extractLsb' 0 16)

/-- The image of working memory (R161, R175): the CRC leaves its own four bytes out. -/
def WorkingMemory.image (w : WorkingMemory) : List Byte :=
  w.imageHead ++ crcBytes (crc32 (w.imageHead ++ w.imageBody)) ++ w.imageBody

/-! ### The load (R161, R162) -/

/-- A 16-bit number in the EEPROM, most significant byte first (log 46; R175 for a parameter value). -/
def Memory.readWord (m : Memory) (a : Nat) : Word16 := bytesWord (m.read a) (m.read (a + 1))

/-- The lock count an image gives. -/
def Memory.lockCount (m : Memory) : Nat := (m.read imageFixed).toNat

/-- What an image puts into working memory. -/
def Memory.profile (m : Memory) : WorkingMemory :=
  { params := Vector.ofFn fun n => if assigned n then m.readWord (paramAddress n) else 0
    locks := (List.range m.lockCount).map fun i => (m.readWord (imageFixed + 1 + 2 * i)).toNat }

/-- The first check of R161 that fails, as the cause R162 numbers; none when the image passes. -/
def Memory.loadFault (m : Memory) (acknowledged : Bool) : Option Nat :=
  let length := imageLength m.lockCount
  if !acknowledged then some 1
  else if m.readBytes 0 4 ≠ imageMark then some 2
  else if m.readBytes 4 2 ≠ imageVersion then some 3
  else if 64 < m.lockCount ∨ (m.readWord 6).toNat ≠ length then some 4
  else if crcBytes (crc32 (m.readBytes 0 12 ++ m.readBytes 16 (length - 16))) ≠ m.readBytes 12 4 then some 5
  else if !m.profile.valid then some 6
  else none

/-- Working memory after the load, and PROFILE_FAULT where a check failed (R162). -/
def loadProfile (acknowledged : Bool) (s : State) : State :=
  match s.eeprom.loadFault acknowledged with
  | none => s.setPl { s.pl with wm := s.eeprom.profile, defaultFlag := false, loadState := .loaded }
  | some cause => latch .profileFault 0 cause
      (s.setPl { s.pl with wm := builtinProfile, defaultFlag := true, loadState := .loaded })

/-- Every block takes the loaded profile (R162). -/
def blocksLoaded (s : State) : State :=
  let s1 := channelsLoaded (pointsLoaded (renewalsLoaded (handlersLoaded (zonesLoaded s))))
  hurryPass (s1.setLu (s1.lu.takeReportDefaults s1.wm.reportDefaults))

/-- PROFILE_LOAD_COMPLETE (R162): whether the EEPROM acknowledged every transfer; after the load there is no other. -/
def execProfileLoadComplete (acknowledged : Bool) (s : State) : Host.Outcome State Fault Refusal :=
  if s.pl.loadState = .loading then .next (kick (blocksLoaded (loadProfile acknowledged s))) else .next s

/-! ### Parameter requests (R165, R166) -/

/-- GET_PARAM at the Profile Loader (R165). -/
def getParamOwner (number : Word16) (s : State) : State × List Byte :=
  let n := number.toNat
  if !assigned n then (s, [codeBadArg])
  else (s, [codeOk] ++ wordBytes number ++ wordBytes (s.wm.word n) ++ int16 (paramRange n).1 ++ int16 (paramRange n).2
    ++ yesNo (structural n) ++ yesNo (s.wm.locks.contains n))

/-- What the blocks do at once with a parameter just written (R166): `before` is working memory before the write. -/
def paramWritten (before : WorkingMemory) (n : Nat) (s : State) : State :=
  if 80 ≤ n ∧ n ≤ 199 then
    if (n - 80) % 10 = 7 ∨ (n - 80) % 10 = 8 then zoneChannelChanged s else s
  else if 200 ≤ n ∧ n ≤ 359 then applyPointChange before (Fin.ofNat 32 ((n - 200) / 5)) s
  else if 360 ≤ n ∧ n ≤ 423 then
    let c := Fin.ofNat 16 ((n - 360) / 4)
    match (n - 360) % 4 with
    | 0 => roleChanged c s
    | 1 => modulusChanged c s
    | 2 => stepChanged c s
    | _ => polarityChanged c s
  else if 424 ≤ n ∧ n ≤ 431 then slotKindChanged (Fin.ofNat 8 (n - 424)) s
  else s

/-- SET_PARAM at the Profile Loader (R166). DESIGN CHOICE: LOCKED and WRONG_STATE are answered also for the value already in force
(log 61). -/
def setParamOwner (number value : Word16) (s : State) : State × List Byte :=
  let n := number.toNat
  let reply (s' : State) (code : Byte) : State × List Byte := (s', [code] ++ wordBytes number ++ wordBytes (s'.wm.word n))
  if !inRange n value then (s, [codeBadArg])
  else if s.wm.locks.contains n then reply s codeLocked
  else if structural n ∧ s.sc.opState ≠ .standby then reply s codeWrongState
  else if s.wm.word n = value then reply s codeOk
  else reply (paramWritten s.wm n (s.setPl { s.pl with wm := s.wm.put n value })) codeOk

/-! ### The save (R168, R169) -/

/-- SAVE_PROFILE at the Profile Loader (R168). -/
def saveProfileOwner (s : State) : State × List Byte :=
  if s.pl.saveState = .saving then (s, [codeBusy])
  else
    let length := imageLength s.wm.locks.length
    (s.setPl { s.pl with snapshot := some s.wm, savePage := 0, saveState := .saving },
      [codeOk] ++ num16 length ++ num8 (imagePages length))

/-- The save ends: IDLE, no snapshot, and its event (R169). -/
def endSave (k : EventKind) (subject : Nat) (value : Int) (s : State) : State :=
  latch k subject value (s.setPl { s.pl with saveState := .idle, snapshot := none })

/-- The bytes of a page of the snapshot image that lie within the image (R169). -/
def WorkingMemory.imagePage (w : WorkingMemory) (page : Nat) : List Byte := (w.image.drop (64 * page)).take 64

/-- What the page being written holds when its write is cut off or not acknowledged (R169): each byte the old one or the new one, by
a free value (log 13). -/
def mixedPage (w : WorkingMemory) (page n : Nat) (m : Memory) : List Byte :=
  (List.range 64).map fun i =>
    let a := 64 * page + i
    if Config.mixTakesNew n a then (w.imagePage page)[i]?.getD (Config.mixPadding n a) else m.read a

/-- The page being written becomes a mix, and the free values' counter advances. -/
def mixPage (w : WorkingMemory) (s : State) : State :=
  (s.setEeprom (s.eeprom.writeBytes (64 * s.pl.savePage) (mixedPage w s.pl.savePage s.free s.eeprom))).setFree (s.free + 1)

/-- The EEPROM did not acknowledge (R169). -/
def saveUnanswered (w : WorkingMemory) (s : State) : State := endSave .profileFault 1 1 (mixPage w s)

/-- A page has been read back (R169): the EEPROM holds what was read, and only the image's own bytes are compared (log 28). -/
def savePageRead (w : WorkingMemory) (bytes : Vector Byte 64) (s : State) : State :=
  let s1 := s.setEeprom (s.eeprom.writeBytes (64 * s.pl.savePage) bytes.toList)
  let want := w.imagePage s.pl.savePage
  let pages := imagePages (imageLength w.locks.length)
  if bytes.toList.take want.length ≠ want then endSave .profileFault 1 7 s1
  else if pages ≤ s.pl.savePage + 1 then endSave .profileSaved 0 pages s1
  else s1.setPl { s1.pl with savePage := s.pl.savePage + 1 }

/-- SAVE_PAGE_COMPLETE (R169): without a save nothing is written. -/
def execSavePageComplete (page : PageResult) (s : State) : Host.Outcome State Fault Refusal :=
  match s.pl.saveState, s.pl.snapshot with
  | .saving, some w =>
    match page with
    | .readBack bytes => .next (kick (savePageRead w bytes s))
    | .noAnswer => .next (kick (saveUnanswered w s))
  | _, _ => .next s

/-- SAVE_POLL_TIMEOUT (R169). -/
def execSavePollTimeout (s : State) : Host.Outcome State Fault Refusal :=
  match s.pl.saveState, s.pl.snapshot with
  | .saving, some w => .next (kick (saveUnanswered w s))
  | _, _ => .next s

/-! ### Hard reset (R133) -/

/-- The EEPROM and the free counter as a hard reset leaves them: a save under way ends where it stands (R169). -/
def cutSave (s : State) : State :=
  match s.pl.saveState, s.pl.snapshot with
  | .saving, some w => mixPage w s
  | _, _ => s

/-- The part after a hard reset with the strap as given (R133): the levels at the inputs, the EEPROM's bytes and the waiting commands
are outside the reset; each debounce begins from its input's level (R100, R132). -/
def afterHardReset (strap : LinkRate) (s : State) : State :=
  let s1 := cutSave s
  { State.reset with
    lu := { State.reset.lu with rate := strap }
    pins := s.pins
    eeprom := s1.eeprom
    free := s1.free
    pending := s.pending
    sc := { State.reset.sc with wakeDebounce := debounced (s.pins.wake != .inactive) none }
    su := { State.reset.su with
      doors := Vector.ofFn fun d => { Door.reset with debounce := debounced (s.pins.doors[d] != .closed) none } } }

/-- HARD_RESET (R133). -/
def execHardReset (strap : LinkRate) (s : State) : Host.Outcome State Fault Refusal := .next (afterHardReset strap s)

end Sys2Proof.Machine
end

