-- ==== Sys2Proof/Machine/Link.lean ====
section
/-! DEFINITION. The control link (09): reception, dispatch and transmission, the Link Unit's own requests, and the meaning of every
request command: a whole frame with a good check that reaches the Link Unit (log 1). -/

namespace Sys2Proof.Machine

/-! ### A frame reaches the buffer (R148, R149) -/

/-- A complete frame (R148): with a frame in hand it is dropped and marked; otherwise it becomes the frame in hand and `act` is what
the Link Unit makes of it. -/
def takeFrame (kind : Byte) (payload : List Byte) (act : State → State) (s : State) : State :=
  if s.lu.inHand.isSome then s.setLu { s.lu with overrun := some (s.lu.overrun.getD kind) }
  else kick (act (s.setLu { s.lu with inHand := some ⟨kind, payload⟩ }))

/-- A reject of the frame in hand falls due (R149). -/
def rejectDue (reason kind : Byte) (s : State) : State :=
  s.setLu { s.lu with answer := some (rejectFrame reason kind, []) }

/-- Checks 4 and 5 of R149: NOT_READY in LOADING and WAKING, but for a request served `always`; otherwise the owner takes it. -/
def dispatch (kind : Byte) (always : Bool) (owner : State → State × List Byte) (s : State) : State :=
  if (s.sc.opState = .loading ∨ s.sc.opState = .waking) ∧ !always then answerDue kind [codeNotReady] s
  else answerDue kind (owner s).2 (owner s).1

/-- A request command: in PARKED the link ignores it (R147); otherwise its frame reaches the buffer. -/
def request (kind : Byte) (payload : List Byte) (act : State → State) (s : State) : Host.Outcome State Fault Refusal :=
  if s.sc.opState = .parked then .next s else .next (takeFrame kind payload act s)

/-! ### The Link Unit's own requests (R156 to R159) -/

/-- IDENTIFY (R156). -/
def identifyOwner (s : State) : State × List Byte :=
  (s, [codeOk] ++ wordBytes 0x5C12 ++ [2] ++ num8 (linkRateCode s.lu.rate) ++ crcBytes s.wm.profileId ++ yesNo s.pl.defaultFlag)

/-- One listed event of STATUS (R157). -/
def LU.eventBytes (l : LU) (k : EventKind) : List Byte :=
  num8 k.index ++ num8 (l.event k).subject ++ int16 (l.event k).value

/-- STATUS (R157). -/
def statusOwner (s : State) : State × List Byte :=
  let loaded := s.pl.loadState == .loaded
  (s, [codeOk] ++ num8 s.sc.opState.code ++ s.cadenceBytes
    ++ num8 (s.handler 0).mode.code ++ num8 (s.handler 1).mode.code
    ++ int8 (s.renewal 0).balance ++ int8 (s.renewal 1).balance ++ num8 s.rs.airHold.code
    ++ num16 (if loaded then s.effectiveGrant else 0) ++ num8 (liveCode (loaded && s.pa.live))
    ++ num8 s.lu.queue.length ++ num8 s.lu.listed.length ++ s.lu.listed.flatMap s.lu.eventBytes)

/-- SET_REPORTS (R158). -/
def setReportsOwner (mask : Word16) (s : State) : State × List Byte :=
  let s' := s.setLu (s.lu.setReports mask)
  (s', [codeOk] ++ wordBytes s'.lu.enableMask ++ wordBytes s'.lu.latchedMask ++ num8 s'.lu.queue.length)

/-- CLEAR_EVENTS (R159). -/
def clearEventsOwner (mask : Word16) (s : State) : State × List Byte :=
  let s' := s.setLu (s.lu.clearEvents mask)
  (s', [codeOk] ++ wordBytes s'.lu.latchedMask)

/-! ### The request commands: each a frame of its kind, taken by its owner (R149, R171) -/

def execIdentify (s : State) : Host.Outcome State Fault Refusal := request 0x01 [] (dispatch 0x01 true identifyOwner) s

def execStatus (s : State) : Host.Outcome State Fault Refusal := request 0x02 [] (dispatch 0x02 true statusOwner) s

def execSetReports (mask : Word16) (s : State) : Host.Outcome State Fault Refusal :=
  request 0x03 (wordBytes mask) (dispatch 0x03 false (setReportsOwner mask)) s

def execClearEvents (mask : Word16) (s : State) : Host.Outcome State Fault Refusal :=
  request 0x04 (wordBytes mask) (dispatch 0x04 false (clearEventsOwner mask)) s

/-- SET_SETPOINTS with one to twelve pairs; any other number of pairs is a payload of a wrong length (R18, R149). -/
def setSetpointsAct (pairs : List (Byte × Word16)) (s : State) : State :=
  if 1 ≤ pairs.length ∧ pairs.length ≤ 12 then dispatch 0x10 false (setSetpointsOwner pairs) s
  else answerDue 0x10 [codeBadLength] s

def execSetSetpoints (pairs : List (Byte × Word16)) (s : State) : Host.Outcome State Fault Refusal :=
  request 0x10 (pairPayload pairs) (setSetpointsAct pairs) s

def execSetZoneEnable (zone enable : Byte) (s : State) : Host.Outcome State Fault Refusal :=
  request 0x11 [zone, enable] (dispatch 0x11 false (setZoneEnableOwner zone enable)) s

def execReadZones (first count : Byte) (s : State) : Host.Outcome State Fault Refusal :=
  request 0x12 [first, count] (dispatch 0x12 false (readZonesOwner first count)) s

def execReadHandlers (selector : Byte) (s : State) : Host.Outcome State Fault Refusal :=
  request 0x18 [selector] (dispatch 0x18 false (readHandlersOwner selector)) s

def execGrant (watts : Word16) (lifetime : Byte) (s : State) : Host.Outcome State Fault Refusal :=
  request 0x20 (wordBytes watts ++ [lifetime]) (dispatch 0x20 false (grantOwner watts lifetime)) s

def execReadAllotment (s : State) : Host.Outcome State Fault Refusal :=
  request 0x21 [] (dispatch 0x21 false readAllotmentOwner) s

def execAirHold (hold : Byte) (s : State) : Host.Outcome State Fault Refusal :=
  request 0x28 [hold] (dispatch 0x28 false (airHoldOwner hold)) s

def execRenewNow (handler : Byte) (s : State) : Host.Outcome State Fault Refusal :=
  request 0x29 [handler] (dispatch 0x29 false (renewNowOwner handler)) s

def execReadRenewals (s : State) : Host.Outcome State Fault Refusal :=
  request 0x2A [] (dispatch 0x2A false readRenewalsOwner) s

def execTrim (bank : Byte) (s : State) : Host.Outcome State Fault Refusal :=
  request 0x30 [bank] (dispatch 0x30 false (trimOwner bank)) s

def execMapPoint (point enabled source kind curve shift : Byte) (s : State) : Host.Outcome State Fault Refusal :=
  request 0x31 [point, enabled, source, kind, curve, shift]
    (dispatch 0x31 false (mapPointOwner point enabled source kind curve shift)) s

def execReadPoints (first count : Byte) (s : State) : Host.Outcome State Fault Refusal :=
  request 0x32 [first, count] (dispatch 0x32 false (readPointsOwner first count)) s

def execOverride (channel action : Byte) (value : Word16) (s : State) : Host.Outcome State Fault Refusal :=
  request 0x38 ([channel, action] ++ wordBytes value) (dispatch 0x38 false (overrideOwner channel action value)) s

def execReadOutputs (first count : Byte) (s : State) : Host.Outcome State Fault Refusal :=
  request 0x39 [first, count] (dispatch 0x39 false (readOutputsOwner first count)) s

def execPass (slot operation item : Byte) (value : Word16) (s : State) : Host.Outcome State Fault Refusal :=
  request 0x40 ([slot, operation, item] ++ wordBytes value) (dispatch 0x40 false (passOwner slot operation item value)) s

def execPassResult (s : State) : Host.Outcome State Fault Refusal :=
  request 0x41 [] (dispatch 0x41 false passResultOwner) s

def execLineEnable (value : Byte) (s : State) : Host.Outcome State Fault Refusal :=
  request 0x42 [value] (dispatch 0x42 false (lineEnableOwner value)) s

def execReadModules (s : State) : Host.Outcome State Fault Refusal :=
  request 0x43 [] (dispatch 0x43 false readModulesOwner) s

def execStandby (s : State) : Host.Outcome State Fault Refusal := request 0x48 [] (dispatch 0x48 false standbyOwner) s

def execResume (s : State) : Host.Outcome State Fault Refusal := request 0x49 [] (dispatch 0x49 false resumeOwner) s

def execPark (s : State) : Host.Outcome State Fault Refusal := request 0x4A [] (dispatch 0x4A false parkOwner) s

def execCadence (value : Byte) (s : State) : Host.Outcome State Fault Refusal :=
  request 0x4B [value] (dispatch 0x4B false (cadenceOwner value)) s

def execRestart (s : State) : Host.Outcome State Fault Refusal := request 0x4C [] (dispatch 0x4C false restartOwner) s

def execGetParam (number : Word16) (s : State) : Host.Outcome State Fault Refusal :=
  request 0x50 (wordBytes number) (dispatch 0x50 false (getParamOwner number)) s

def execSetParam (number value : Word16) (s : State) : Host.Outcome State Fault Refusal :=
  request 0x51 (wordBytes number ++ wordBytes value) (dispatch 0x51 false (setParamOwner number value)) s

def execSaveProfile (s : State) : Host.Outcome State Fault Refusal :=
  request 0x52 [] (dispatch 0x52 false saveProfileOwner) s

/-! ### Reception (R147 to R149) -/

/-- What the Link Unit makes of a request it has read in a frame: the same as of the request's command. -/
def requestAct (kind : Byte) : Instr → State → State
  | .identify => dispatch kind true identifyOwner
  | .status => dispatch kind true statusOwner
  | .setReports m => dispatch kind false (setReportsOwner m)
  | .clearEvents m => dispatch kind false (clearEventsOwner m)
  | .setSetpoints pairs => setSetpointsAct pairs
  | .setZoneEnable z e => dispatch kind false (setZoneEnableOwner z e)
  | .readZones f c => dispatch kind false (readZonesOwner f c)
  | .readHandlers x => dispatch kind false (readHandlersOwner x)
  | .grant w l => dispatch kind false (grantOwner w l)
  | .readAllotment => dispatch kind false readAllotmentOwner
  | .airHold v => dispatch kind false (airHoldOwner v)
  | .renewNow h => dispatch kind false (renewNowOwner h)
  | .readRenewals => dispatch kind false readRenewalsOwner
  | .trim b => dispatch kind false (trimOwner b)
  | .mapPoint p e so k c f => dispatch kind false (mapPointOwner p e so k c f)
  | .readPoints f c => dispatch kind false (readPointsOwner f c)
  | .override c a v => dispatch kind false (overrideOwner c a v)
  | .readOutputs f c => dispatch kind false (readOutputsOwner f c)
  | .pass i o it v => dispatch kind false (passOwner i o it v)
  | .passResult => dispatch kind false passResultOwner
  | .lineEnable v => dispatch kind false (lineEnableOwner v)
  | .readModules => dispatch kind false readModulesOwner
  | .standby => dispatch kind false standbyOwner
  | .resume => dispatch kind false resumeOwner
  | .park => dispatch kind false parkOwner
  | .cadence v => dispatch kind false (cadenceOwner v)
  | .restart => dispatch kind false restartOwner
  | .getParam n => dispatch kind false (getParamOwner n)
  | .setParam n v => dispatch kind false (setParamOwner n v)
  | .saveProfile => dispatch kind false saveProfileOwner
  | .hardReset _ | .profileLoadComplete _ | .rxByte _ | .gapTimeout | .txFrameEnd | .parkEntry | .restartEffect
  | .savePageComplete _ | .savePollTimeout | .regulationTimerExpiry | .demandSetReceived | .requestSetReceived
  | .allotmentAtHs | .allotmentAtZr | .ouValueReceived | .accountTimerExpiry | .restTimerExpiry _ | .dwellTimerExpiry _
  | .lifetimeExpiry | .intervalExpiry _ | .renewalComplete _ | .doorInputChange _ _ | .doorDebounceExpiry _
  | .doorTimerExpiry _ | .wakeInputChange _ | .wakeDebounceExpiry | .scanGapExpiry | .supplyConversion _
  | .fullTrim _ _ | .shortTrim _ _ | .tapReading _ | .trimIntervalExpiry | .pointStale _ | .periodEnd _ | .compareReached _
  | .moduleAnswerReceived _ | .moduleResponseTimeout | .moduleAnswerGap | .probeTimerExpiry _ | .readTimerExpiry _
  | .moduleRequestSent => id

/-- The checks of R149 on the frame in hand, in their order: check, kind, length, state, dispatch. -/
def readFrame (kind : Byte) (payload : List Byte) (checkGood : Bool) (s : State) : State :=
  if !checkGood then rejectDue rejectCheck kind s
  else match decodeRequest kind payload with
    | .badKind => rejectDue rejectBadKind kind s
    | .badLength => answerDue kind [codeBadLength] s
    | .request i => requestAct kind i s

/-- The receiver goes on RECEIVING with the bytes so far; the gap timer restarts with 3 ms (R147). -/
def keepReceiving (bytes : List Byte) (s : State) : State :=
  s.setLu { s.lu with receiver := .receiving bytes, gap := some (ms 3) }

/-- The receiver returns to HUNTING (R147). -/
def stopReceiving (s : State) : State := s.setLu { s.lu with receiver := .hunting, gap := none }

/-- A complete frame: LEN, kind, payload and two check bytes (R146, R147). -/
def completeFrame (bytes : List Byte) (s : State) : State :=
  let body := bytes.take (bytes.length - 2)
  match body with
  | _ :: kind :: payload =>
    takeFrame kind payload (readFrame kind payload (decide (bytes.drop body.length = wordBytes (crc16 body)))) (stopReceiving s)
  | _ => stopReceiving s

/-- A further byte of a frame (R147): the first is LEN, and a LEN out of range abandons the frame. -/
def receiveByte (bytes : List Byte) (s : State) : State :=
  match bytes with
  | [] => keepReceiving bytes s
  | [len] => if len = 0 ∨ 128 < len.toNat then stopReceiving s else keepReceiving bytes s
  | len :: _ :: _ => if bytes.length = len.toNat + 3 then completeFrame bytes s else keepReceiving bytes s

/-- RX_BYTE (R147): in PARKED every byte is discarded. -/
def execRxByte (b : Byte) (s : State) : Host.Outcome State Fault Refusal :=
  if s.sc.opState = .parked then .next s
  else match s.lu.receiver with
    | .hunting => if b = 0xC3 then .next (keepReceiving [] s) else .next s
    | .receiving bytes => .next (receiveByte (bytes ++ [b]) s)

/-- GAP_TIMEOUT (R147): the frame being assembled is abandoned. -/
def execGapTimeout (s : State) : Host.Outcome State Fault Refusal :=
  match s.lu.receiver with
  | .hunting => .next s
  | .receiving _ => .next (stopReceiving s)

/-! ### Transmission (R148, R150) -/

/-- The last byte of the frame being sent: the answer's next piece follows, or the transmitter is IDLE. At the end of an answer the
buffer is free, but for a PARK or RESTART answer, whose effect comes first (log 9). -/
def LU.frameEnded (l : LU) : LU :=
  match l.transmitter with
  | .idle => l
  | .sending what _ (f :: rest) => { l with transmitter := .sending what f rest }
  | .sending .answer _ [] =>
    let l' := { l with transmitter := .idle }
    if l.after = .none then l'.answerEnded else l'
  | .sending _ _ [] => { l with transmitter := .idle }

/-- TX_FRAME_END (R150): an idle transmitter has no frame to end. -/
def execTxFrameEnd (s : State) : Host.Outcome State Fault Refusal :=
  if s.lu.transmitter = .idle then .next s else .next (kick (s.setLu s.lu.frameEnded))

end Sys2Proof.Machine
end

