-- ==== Sys2Proof/Machine/Clock.lean ====
section
/-! DEFINITION. What the part does of itself while no command waits (log 4): it hands on what one block has for another, and else its
clock runs on by one tick of 10 µs and every expiry it brings becomes a command. -/

namespace Sys2Proof.Machine

/-! ### Hand-offs (logs 2, 9) -/

/-- The command of the next hand-off, if one waits: the effect of a PARK or RESTART whose answer has gone out, then what is on its
way between the blocks. -/
def State.handOff (s : State) : Option Instr :=
  if s.lu.transmitter = .idle ∧ s.lu.answer = none ∧ s.lu.after = .park then some .parkEntry
  else if s.lu.transmitter = .idle ∧ s.lu.answer = none ∧ s.lu.after = .restart then some .restartEffect
  else if s.bus.demandSets ≠ [] then some .demandSetReceived
  else if s.bus.requestSets ≠ [] then some .requestSetReceived
  else if s.bus.allotHS ≠ [] then some .allotmentAtHs
  else if s.bus.allotZR ≠ [] then some .allotmentAtZr
  else if s.bus.ouValues ≠ [] then some .ouValueReceived
  else none

/-! ### One tick of the timers (log 5) -/

/-- A timer after one tick. -/
def tickTimer (t : Timer) : Timer := t.map (· - 1)

/-- A timer runs out at this tick. -/
def runsOut (t : Timer) : Bool :=
  match t with
  | some n => decide (n ≤ 1)
  | none => false

/-- A command where a timer runs out. -/
def expiry (out : Bool) (i : Instr) : List Instr := if out then [i] else []

/-- The ticks between two advances of a channel's counter (R102). -/
def ChannelStep.ticks : ChannelStep → Nat
  | .us10 => 1 | .us100 => 10 | .ms1 => 100 | .ms10 => 1000

/-- A channel's step is over at this tick. -/
def Channel.advances (x : Channel) : Bool := decide (x.step.ticks ≤ x.prescale + 1)

/-- A channel's period ends at this tick (R105): its counter would pass M - 1. -/
def Channel.wraps (x : Channel) : Bool := x.advances && decide (x.modulus ≤ x.counter + 1)

/-- A channel after one tick (R104); at a period end the counter waits for the PERIOD_END command of the same tick. -/
def Channel.tick (x : Channel) : Channel :=
  if x.wraps then x
  else if x.advances then { x with counter := x.counter + 1, prescale := 0 }
  else { x with prescale := x.prescale + 1 }

/-- A point a tenth of a second later (R96). -/
def Point.older (x : Point) : Point := { x with age := min 6000 (x.age + 1) }

/-- A point is stale (R96): VALID, and older than its limit. -/
def State.stale (s : State) (p : Fin 32) : Bool :=
  (s.point p).state == .valid && decide (s.wm.staleLimit p < (s.point p).age)

/-- This tick ends a tenth of a second (log 6). -/
def State.tenthEnds (s : State) : Bool := decide (10000 ≤ s.tenth + 1)

/-- The points after one tick, with the prescaler they share (R96, log 6). -/
def tickPoints (s : State) : State :=
  if s.tenthEnds then (s.setSu { s.su with points := s.su.points.map Point.older }).setTenth 0
  else s.setTenth (s.tenth + 1)

/-- Every timer and counter one tick on. -/
def tickTimers (s : State) : State :=
  let s1 := s.setLu { s.lu with gap := tickTimer s.lu.gap }
  let s2 := s1.setSc { s1.sc with wakeDebounce := tickTimer s1.sc.wakeDebounce }
  let s3 := s2.setZr { s2.zr with cycleTimer := tickTimer s2.zr.cycleTimer }
  let s4 := s3.setHs { s3.hs with
    accountTimer := tickTimer s3.hs.accountTimer
    handlers := s3.hs.handlers.map fun x => { x with rest := x.rest - 1, dwell := x.dwell - 1 } }
  let s5 := s4.setPa { s4.pa with timer := tickTimer s4.pa.timer }
  let s6 := s5.setRs { s5.rs with renewals := Vector.ofFn fun h =>
    { s.renewal h with
      interval := if s.intervalPaused h then (s.renewal h).interval else (s.renewal h).interval - 1
      timer := (s.renewal h).timer - 1 } }
  let s7 := s6.setSu { s6.su with
    doors := s6.su.doors.map fun x => { x with debounce := tickTimer x.debounce, timer := tickTimer x.timer }
    gapTimer := tickTimer s6.su.gapTimer
    trimTimer := tickTimer s6.su.trimTimer }
  let s8 := s7.setMl { s7.ml with
    response := tickTimer s7.ml.response
    slots := s7.ml.slots.map fun x => { x with probeTimer := tickTimer x.probeTimer, readTimer := tickTimer x.readTimer } }
  let s9 := if s.pl.loadState = .loaded then s8.setOu { s8.ou with channels := s8.ou.channels.map Channel.tick } else s8
  tickPoints s9

/-- The expiries a tick brings, in the order they become commands (log 7); `s` is the state before it, `s'` after. -/
def expiries (s s' : State) : List Instr :=
  expiry (runsOut s.lu.gap) .gapTimeout
  ++ expiry (runsOut s.ml.response) .moduleResponseTimeout
  ++ expiry (runsOut s.sc.wakeDebounce) .wakeDebounceExpiry
  ++ (List.finRange 4).flatMap (fun d => expiry (runsOut (s.door d).debounce) (.doorDebounceExpiry d))
  ++ (List.finRange 4).flatMap (fun d => expiry (runsOut (s.door d).timer) (.doorTimerExpiry d))
  ++ (List.finRange 2).flatMap (fun h => expiry ((s.handler h).rest == 1) (.restTimerExpiry h))
  ++ (List.finRange 2).flatMap (fun h => expiry ((s.handler h).dwell == 1) (.dwellTimerExpiry h))
  ++ expiry (runsOut s.pa.timer) .lifetimeExpiry
  ++ (List.finRange 2).flatMap (fun h => expiry (s.renewing h && decide ((s.renewal h).timer ≤ 1)) (.renewalComplete h))
  ++ (List.finRange 2).flatMap (fun h =>
      expiry (!s.intervalPaused h && decide ((s.renewal h).interval ≤ 1)) (.intervalExpiry h))
  ++ expiry (runsOut s.hs.accountTimer) .accountTimerExpiry
  ++ expiry (runsOut s.su.gapTimer) .scanGapExpiry
  ++ expiry (runsOut s.su.trimTimer) .trimIntervalExpiry
  ++ (List.finRange 32).flatMap (fun p => expiry (s.tenthEnds && s'.stale p) (.pointStale p))
  ++ (List.finRange 8).flatMap (fun i => expiry (runsOut (s.slot i).probeTimer) (.probeTimerExpiry i))
  ++ (List.finRange 8).flatMap (fun i => expiry (runsOut (s.slot i).readTimer) (.readTimerExpiry i))
  ++ (List.finRange 16).flatMap (fun c =>
      expiry (s.pl.loadState == .loaded && (s.channel c).wraps) (.periodEnd c))
  ++ expiry (runsOut s.zr.cycleTimer) .regulationTimerExpiry

/-- The part by itself (log 4): a hand-off if one waits, else one tick. -/
def idle (s : State) : State :=
  match s.handOff with
  | some i => s.setPending [i]
  | none =>
    let s' := tickTimers s
    s'.setPending (expiries s s')

end Sys2Proof.Machine
end

