-- ==== Sys2Proof/Machine/Dispatch.lean ====
section
/-! DEFINITION. One arm for each command: the meaning it has. -/

namespace Sys2Proof.Machine

def exec (i : Instr) (s : State) : Host.Outcome State Fault Refusal :=
  match i with
  | .hardReset strap => Sys2Proof.Machine.execHardReset strap s
  | .profileLoadComplete acknowledged => Sys2Proof.Machine.execProfileLoadComplete acknowledged s
  | .rxByte b => Sys2Proof.Machine.execRxByte b s
  | .gapTimeout => Sys2Proof.Machine.execGapTimeout s
  | .txFrameEnd => Sys2Proof.Machine.execTxFrameEnd s
  | .parkEntry => Sys2Proof.Machine.execParkEntry s
  | .restartEffect => Sys2Proof.Machine.execRestartEffect s
  | .identify => Sys2Proof.Machine.execIdentify s
  | .status => Sys2Proof.Machine.execStatus s
  | .setReports mask => Sys2Proof.Machine.execSetReports mask s
  | .clearEvents mask => Sys2Proof.Machine.execClearEvents mask s
  | .setSetpoints pairs => Sys2Proof.Machine.execSetSetpoints pairs s
  | .setZoneEnable zone enable => Sys2Proof.Machine.execSetZoneEnable zone enable s
  | .readZones first count => Sys2Proof.Machine.execReadZones first count s
  | .readHandlers selector => Sys2Proof.Machine.execReadHandlers selector s
  | .grant watts lifetime => Sys2Proof.Machine.execGrant watts lifetime s
  | .readAllotment => Sys2Proof.Machine.execReadAllotment s
  | .airHold hold => Sys2Proof.Machine.execAirHold hold s
  | .renewNow handler => Sys2Proof.Machine.execRenewNow handler s
  | .readRenewals => Sys2Proof.Machine.execReadRenewals s
  | .trim bank => Sys2Proof.Machine.execTrim bank s
  | .mapPoint point enabled source kind curve shift => Sys2Proof.Machine.execMapPoint point enabled source kind curve shift s
  | .readPoints first count => Sys2Proof.Machine.execReadPoints first count s
  | .override channel action value => Sys2Proof.Machine.execOverride channel action value s
  | .readOutputs first count => Sys2Proof.Machine.execReadOutputs first count s
  | .pass slot operation item value => Sys2Proof.Machine.execPass slot operation item value s
  | .passResult => Sys2Proof.Machine.execPassResult s
  | .lineEnable value => Sys2Proof.Machine.execLineEnable value s
  | .readModules => Sys2Proof.Machine.execReadModules s
  | .standby => Sys2Proof.Machine.execStandby s
  | .resume => Sys2Proof.Machine.execResume s
  | .park => Sys2Proof.Machine.execPark s
  | .cadence value => Sys2Proof.Machine.execCadence value s
  | .restart => Sys2Proof.Machine.execRestart s
  | .getParam number => Sys2Proof.Machine.execGetParam number s
  | .setParam number value => Sys2Proof.Machine.execSetParam number value s
  | .saveProfile => Sys2Proof.Machine.execSaveProfile s
  | .savePageComplete page => Sys2Proof.Machine.execSavePageComplete page s
  | .savePollTimeout => Sys2Proof.Machine.execSavePollTimeout s
  | .regulationTimerExpiry => Sys2Proof.Machine.execRegulationTimerExpiry s
  | .demandSetReceived => Sys2Proof.Machine.execDemandSetReceived s
  | .requestSetReceived => Sys2Proof.Machine.execRequestSetReceived s
  | .allotmentAtHs => Sys2Proof.Machine.execAllotmentAtHs s
  | .allotmentAtZr => Sys2Proof.Machine.execAllotmentAtZr s
  | .ouValueReceived => Sys2Proof.Machine.execOuValueReceived s
  | .accountTimerExpiry => Sys2Proof.Machine.execAccountTimerExpiry s
  | .restTimerExpiry h => Sys2Proof.Machine.execRestTimerExpiry h s
  | .dwellTimerExpiry h => Sys2Proof.Machine.execDwellTimerExpiry h s
  | .lifetimeExpiry => Sys2Proof.Machine.execLifetimeExpiry s
  | .intervalExpiry h => Sys2Proof.Machine.execIntervalExpiry h s
  | .renewalComplete h => Sys2Proof.Machine.execRenewalComplete h s
  | .doorInputChange d level => Sys2Proof.Machine.execDoorInputChange d level s
  | .doorDebounceExpiry d => Sys2Proof.Machine.execDoorDebounceExpiry d s
  | .doorTimerExpiry d => Sys2Proof.Machine.execDoorTimerExpiry d s
  | .wakeInputChange level => Sys2Proof.Machine.execWakeInputChange level s
  | .wakeDebounceExpiry => Sys2Proof.Machine.execWakeDebounceExpiry s
  | .scanGapExpiry => Sys2Proof.Machine.execScanGapExpiry s
  | .supplyConversion code => Sys2Proof.Machine.execSupplyConversion code s
  | .fullTrim low high => Sys2Proof.Machine.execFullTrim low high s
  | .shortTrim low high => Sys2Proof.Machine.execShortTrim low high s
  | .tapReading raw => Sys2Proof.Machine.execTapReading raw s
  | .trimIntervalExpiry => Sys2Proof.Machine.execTrimIntervalExpiry s
  | .pointStale p => Sys2Proof.Machine.execPointStale p s
  | .periodEnd c => Sys2Proof.Machine.execPeriodEnd c s
  | .compareReached c => Sys2Proof.Machine.execCompareReached c s
  | .moduleAnswerReceived frame => Sys2Proof.Machine.execModuleAnswerReceived frame s
  | .moduleResponseTimeout => Sys2Proof.Machine.execModuleResponseTimeout s
  | .moduleAnswerGap => Sys2Proof.Machine.execModuleAnswerGap s
  | .probeTimerExpiry slot => Sys2Proof.Machine.execProbeTimerExpiry slot s
  | .readTimerExpiry slot => Sys2Proof.Machine.execReadTimerExpiry slot s
  | .moduleRequestSent => Sys2Proof.Machine.execModuleRequestSent s

end Sys2Proof.Machine
end

