-- ==== Sys2Proof/Machine/Step.lean ====
section
/-! DEFINITION. One step: the command at the front of the queue, or the part by itself where none waits. -/

namespace Sys2Proof.Machine

/-- One step of the part: the first waiting command takes effect on the state with the queue's rest; without one the part works on by
itself (log 4). -/
def step (s : State) : Host.Outcome State Fault Refusal :=
  match s.pending with
  | [] => .next (idle s)
  | i :: rest => exec i (s.setPending rest)

/-- The command that a table word spells at the front of the queue; no word spells one, so the state stays as it is. -/
def State.withFetchWord (s : State) (nbits w : Nat) : State :=
  match Sys2Proof.decodeTableWord nbits w with
  | some i => s.setPending (i :: s.pending)
  | none => s

end Sys2Proof.Machine
end

