-- ==== Sys2Proof/Safety.lean ====
section
/-! DEFINITION. What counts as a safe run of the part, in the terms the claims use: when a request is served and what its answer is,
and the properties that every step is to keep. -/

namespace Sys2Proof.Machine

/-! ### Requests served and answered -/

/-- A request reaches its owner (R148, R149): the part is in RUN or STANDBY, and no frame is in hand. -/
def State.Served (s : State) : Prop := (s.sc.opState = .run ∨ s.sc.opState = .standby) ∧ s.lu.inHand = none

/-- The Link Unit once a request of a kind and payload has the given content as its answer (R148, R150): the request is in hand; an
idle transmitter sends the answer's first frame, a busy one leaves it due. -/
def LU.replied (l : LU) (kind : Byte) (payload content : List Byte) : LU :=
  let due := answerFrames kind content
  match l.transmitter with
  | .idle => { l with inHand := some ⟨kind, payload⟩, answer := none, transmitter := .sending .answer due.1 due.2 }
  | .sending .. => { l with inHand := some ⟨kind, payload⟩, answer := some due }

/-- The Link Unit once a frame of a kind and payload is refused with a reject (R149, R150, R171). -/
def LU.rejected (l : LU) (reason kind : Byte) (payload : List Byte) : LU :=
  match l.transmitter with
  | .idle => { l with inHand := some ⟨kind, payload⟩, answer := none, transmitter := .sending .answer (rejectFrame reason kind) [] }
  | .sending .. => { l with inHand := some ⟨kind, payload⟩, answer := some (rejectFrame reason kind, []) }

/-- The transmitter has nothing it could take: it is busy, or idle with nothing due (R150). -/
def LU.Settled (l : LU) : Prop := l.takeNext = l

/-- Bytes that come in on the control link one after another, as RX_BYTE commands. -/
def receiveAll : List Byte → State → State
  | [], s => s
  | b :: bs, s =>
    match exec (.rxByte b) s with
    | .next t => receiveAll bs t
    | _ => s

/-! ### Properties every step is to keep -/

/-- Both renewal balances lie within -8 to +8 (R62). -/
def State.BalancesBounded (s : State) : Prop := ∀ h : Fin 2, -8 ≤ (s.renewal h).balance ∧ (s.renewal h).balance ≤ 8

/-- The lifetime timer runs exactly while the live flag is live (R42). -/
def State.GrantConsistent (s : State) : Prop := s.pa.timer.isSome = s.pa.live

/-- The notice queue holds at most eight entries, no two of one kind (R154). -/
def State.QueueBounded (s : State) : Prop := s.lu.queue.length ≤ 8 ∧ s.lu.queue.Nodup

/-- The EEPROM's contents are in canonical form. -/
def State.MemoryCanonical (s : State) : Prop := s.eeprom.wf = true

/-- Outside RUN every compare, received value and effective value is 0 and no override is set (R111). -/
def State.OutputsGated (s : State) : Prop :=
  s.sc.opState ≠ .run → ∀ c : Fin 16, (s.channel c).compare = 0 ∧ (s.channel c).pendingCompare = 0 ∧
    (s.channel c).received = 0 ∧ (s.channel c).effective = 0 ∧ (s.channel c).override = none

/-- The allotment record never shows more power than its grant (R53, R56). -/
def State.RecordWithinGrant (s : State) : Prop := s.pa.record.total ≤ s.pa.record.grant

end Sys2Proof.Machine
end

