-- ==== Sys2Proof/Certificates/Slice0/Obligations.lean ====
section
/-! DEFINITION. The statements for the provers: what the commands do by the rules of the spec, what every step keeps, and how requests
are read from frames. Where a clause rests on the model's own choice, the statement names its entry of notes/assumptions: times in ticks
of 10 µs (log 5), events that report a moment (log 3), requests as whole frames (log 1), sets on their way between blocks (log 2). -/

open Sys2Proof Sys2Proof.Machine

/-! ### Steps and commands in general -/

/-- A step with a command at the front of the queue is that command on the state with the queue's rest (the model's choice, log 31). -/
def Obligations.StepTakesTheFrontCommand : Prop :=
  ∀ (c : Instr) (rest : List Instr) (s : State), s.pending = c :: rest → step s = exec c { s with pending := rest }

/-- With no command waiting, the effect of a PARK or RESTART whose answer has gone out is taken up as the next command, else the oldest
thing handed on, block by block; else the clock runs on by one tick of 10 µs: every timer, point age and channel counter advances, and
those that run out become commands (the model's choice, logs 2, 4, 5, 6, 9). -/
def Obligations.IdleStepHandsOnOrTicks : Prop :=
  ∀ s : State, s.pending = [] →
    let sent := s.lu.transmitter = .idle ∧ s.lu.answer = none
    let quiet := s.lu.after = .none ∨ ¬ sent
    let next (c : Instr) := step s = .next { s with pending := [c] }
    let ending (t : Timer) := ∃ n, t = some n ∧ n ≤ 1
    (sent → s.lu.after = .park → next .parkEntry) ∧
    (sent → s.lu.after = .restart → next .restartEffect) ∧
    (quiet → s.bus.demandSets ≠ [] → next .demandSetReceived) ∧
    (quiet → s.bus.demandSets = [] → s.bus.requestSets ≠ [] → next .requestSetReceived) ∧
    (quiet → s.bus.demandSets = [] → s.bus.requestSets = [] → s.bus.allotHS ≠ [] → next .allotmentAtHs) ∧
    (quiet → s.bus.demandSets = [] → s.bus.requestSets = [] → s.bus.allotHS = [] → s.bus.allotZR ≠ [] → next .allotmentAtZr) ∧
    (quiet → s.bus.demandSets = [] → s.bus.requestSets = [] → s.bus.allotHS = [] → s.bus.allotZR = [] → s.bus.ouValues ≠ [] →
      next .ouValueReceived) ∧
    (quiet → s.bus = ⟨[], [], [], [], []⟩ → ∃ t, step s = .next t ∧
      t = { s with
        zr := { s.zr with cycleTimer := s.zr.cycleTimer.map (· - 1) }
        hs := { s.hs with accountTimer := s.hs.accountTimer.map (· - 1), handlers := t.hs.handlers }
        pa := { s.pa with timer := s.pa.timer.map (· - 1) }
        rs := { s.rs with renewals := t.rs.renewals }
        su := { s.su with
          trimTimer := s.su.trimTimer.map (· - 1), gapTimer := s.su.gapTimer.map (· - 1), doors := t.su.doors, points := t.su.points }
        ou := { s.ou with channels := t.ou.channels }
        ml := { s.ml with response := s.ml.response.map (· - 1), slots := t.ml.slots }
        sc := { s.sc with wakeDebounce := s.sc.wakeDebounce.map (· - 1) }
        lu := { s.lu with gap := s.lu.gap.map (· - 1) }
        tenth := if s.tenth + 1 < 10000 then s.tenth + 1 else 0, pending := t.pending } ∧
      (∀ h, t.handler h = { s.handler h with rest := (s.handler h).rest - 1, dwell := (s.handler h).dwell - 1 }) ∧
      (∀ h, t.renewal h = { s.renewal h with
        timer := (s.renewal h).timer - 1
        interval := if s.sc.opState ≠ .run ∨ (s.handler h).mode = .idle then (s.renewal h).interval else (s.renewal h).interval - 1 }) ∧
      (∀ d, t.door d = { s.door d with debounce := (s.door d).debounce.map (· - 1), timer := (s.door d).timer.map (· - 1) }) ∧
      (∀ p, t.point p = { s.point p with
        age := if s.tenth + 1 < 10000 then (s.point p).age else min 6000 ((s.point p).age + 1) }) ∧
      (∀ i, t.slot i = { s.slot i with
        probeTimer := (s.slot i).probeTimer.map (· - 1), readTimer := (s.slot i).readTimer.map (· - 1) }) ∧
      (∀ c, let x := s.channel c
        let whole := (match x.step with
          | .us10 => 1
          | .us100 => 10
          | .ms1 => 100
          | .ms10 => 1000) ≤ x.prescale + 1
        t.channel c = (if s.pl.loadState ≠ .loaded ∨ (whole ∧ x.modulus ≤ x.counter + 1) then x
          else if whole then { x with counter := x.counter + 1, prescale := 0 } else { x with prescale := x.prescale + 1 }) ∧
        (.periodEnd c ∈ t.pending ↔ s.pl.loadState = .loaded ∧ whole ∧ x.modulus ≤ x.counter + 1)) ∧
      (.regulationTimerExpiry ∈ t.pending ↔ ending s.zr.cycleTimer) ∧
      (.accountTimerExpiry ∈ t.pending ↔ ending s.hs.accountTimer) ∧
      (.lifetimeExpiry ∈ t.pending ↔ ending s.pa.timer) ∧
      (.trimIntervalExpiry ∈ t.pending ↔ ending s.su.trimTimer) ∧
      (.scanGapExpiry ∈ t.pending ↔ ending s.su.gapTimer) ∧
      (.moduleResponseTimeout ∈ t.pending ↔ ending s.ml.response) ∧
      (.wakeDebounceExpiry ∈ t.pending ↔ ending s.sc.wakeDebounce) ∧
      (.gapTimeout ∈ t.pending ↔ ending s.lu.gap) ∧
      (∀ h, (.restTimerExpiry h ∈ t.pending ↔ (s.handler h).rest = 1) ∧
        (.dwellTimerExpiry h ∈ t.pending ↔ (s.handler h).dwell = 1) ∧
        (.renewalComplete h ∈ t.pending ↔ (s.renewal h).state ≠ .idle ∧ (s.renewal h).timer ≤ 1) ∧
        (.intervalExpiry h ∈ t.pending ↔
          s.sc.opState = .run ∧ (s.handler h).mode ≠ .idle ∧ (s.renewal h).interval ≤ 1)) ∧
      (∀ d, (.doorDebounceExpiry d ∈ t.pending ↔ ending (s.door d).debounce) ∧
        (.doorTimerExpiry d ∈ t.pending ↔ ending (s.door d).timer)) ∧
      (∀ i, (.probeTimerExpiry i ∈ t.pending ↔ ending (s.slot i).probeTimer) ∧
        (.readTimerExpiry i ∈ t.pending ↔ ending (s.slot i).readTimer)) ∧
      (∀ p, .pointStale p ∈ t.pending ↔ 10000 ≤ s.tenth + 1 ∧ (s.point p).state = .valid ∧
        (match s.wm.pointSource p with
          | .tap _ => 50
          | .slot _ _ => 150) < (t.point p).age) ∧
      ∀ c ∈ t.pending, (∃ i, c = .periodEnd i) ∨ (∃ h, c = .restTimerExpiry h ∨ c = .dwellTimerExpiry h ∨ c = .renewalComplete h ∨
        c = .intervalExpiry h) ∨ (∃ d, c = .doorDebounceExpiry d ∨ c = .doorTimerExpiry d) ∨
        (∃ i, c = .probeTimerExpiry i ∨ c = .readTimerExpiry i) ∨ (∃ p, c = .pointStale p) ∨
        c ∈ [.regulationTimerExpiry, .accountTimerExpiry, .lifetimeExpiry, .trimIntervalExpiry, .scanGapExpiry,
          .moduleResponseTimeout, .wakeDebounceExpiry, .gapTimeout])

/-- No command changes the queue of the commands that wait behind it. The model's choices here: log 31. -/
def Obligations.ExecKeepsTheQueue : Prop :=
  ∀ (c : Instr) (s t : State), exec c s = .next t → t.pending = s.pending

/-- Every command answers a next state, in every state: no command of the part faults or is refused. The model's choices here: log 3. -/
def Obligations.EveryCommandCompletes : Prop :=
  ∀ (c : Instr) (s : State), ∃ t, exec c s = .next t

/-! ### The control link: frames, requests, answers (09, 11) -/

/-- A request outside service: in PARKED it is ignored (R147); behind a frame in hand it is dropped and marked (R148); in LOADING and
WAKING every request but IDENTIFY and STATUS is answered NOT_READY (R149). Nothing else changes. The model's choices here: log 1. -/
def Obligations.RequestsOutsideServiceHaveNoEffect : Prop :=
  ∀ (c : Instr) (s : State) (k : Byte) (p : List Byte),
    encodeRequest c = some (k, p) → decodeRequest k p = .request c →
    (s.sc.opState = .parked → exec c s = .next s) ∧
    (s.sc.opState ≠ .parked → s.lu.inHand.isSome →
      exec c s = .next { s with lu := { s.lu with overrun := some (s.lu.overrun.getD k) } }) ∧
    ((s.sc.opState = .loading ∨ s.sc.opState = .waking) → s.lu.inHand = none → c ≠ .identify → c ≠ .status →
      exec c s = .next { s with lu := s.lu.replied k p [5] })

/-- Decoding a request's frame gives the request back, for every request and every value of its operands; SET_SETPOINTS has one to
twelve pairs (R18, R171). A request's payload fits a frame. -/
def Obligations.RequestDecodesFromItsEncoding : Prop :=
  ∀ (c : Instr) (k : Byte) (p : List Byte), encodeRequest c = some (k, p) →
    (∀ pairs, c = .setSetpoints pairs → 1 ≤ pairs.length ∧ pairs.length ≤ 12) →
    decodeRequest k p = .request c ∧ p.length ≤ 127

/-- A kind and payload that decode to a request are that request's encoding, and the kinds that decode at all are the thirty of
R171. -/
def Obligations.DecodedRequestEncodesBack : Prop :=
  ∀ (k : Byte) (p : List Byte),
    (∀ c, decodeRequest k p = .request c → encodeRequest c = some (k, p)) ∧
    (decodeRequest k p = .badKind ↔ k.toNat ∉ [0x01, 0x02, 0x03, 0x04, 0x10, 0x11, 0x12, 0x18, 0x20, 0x21, 0x28, 0x29, 0x2A, 0x30, 0x31,
      0x32, 0x38, 0x39, 0x40, 0x41, 0x42, 0x43, 0x48, 0x49, 0x4A, 0x4B, 0x4C, 0x50, 0x51, 0x52])

/-- A request is its frame: the bytes of the frame, received one after another by a hunting receiver, do what the request's command
does (R146 to R149, R171). The model's choices here: log 1. -/
def Obligations.FrameOnTheLineIsItsRequest : Prop :=
  ∀ (c : Instr) (s : State) (k : Byte) (p : List Byte),
    encodeRequest c = some (k, p) → decodeRequest k p = .request c →
    s.sc.opState ≠ .parked → s.lu.receiver = .hunting → s.lu.gap = none →
    exec c s = .next (receiveAll (Frame.bytes ⟨k, p⟩) s)

/-- A complete frame that the checks of R149 refuse: a bad check is rejected CHECK whatever the kind, an unknown kind is rejected
BAD_KIND, a payload of a wrong length is answered BAD_LENGTH. -/
def Obligations.FramesRefusedByTheChecks : Prop :=
  ∀ (s : State) (k x y : Byte) (p : List Byte),
    s.sc.opState ≠ .parked → s.lu.receiver = .hunting → s.lu.gap = none → s.lu.inHand = none → p.length ≤ 127 →
    let body := BitVec.ofNat 8 (p.length + 1) :: k :: p
    ([x, y] ≠ wordBytes (crc16 body) →
      receiveAll (0xC3 :: body ++ [x, y]) s = { s with lu := s.lu.rejected 1 k p }) ∧
    ([x, y] = wordBytes (crc16 body) → decodeRequest k p = .badKind →
      receiveAll (0xC3 :: body ++ [x, y]) s = { s with lu := s.lu.rejected 2 k p }) ∧
    ([x, y] = wordBytes (crc16 body) → decodeRequest k p = .badLength →
      receiveAll (0xC3 :: body ++ [x, y]) s = { s with lu := s.lu.replied k p [8] })

/-- RX_BYTE and GAP_TIMEOUT (R147): a start byte begins a frame, each further byte joins it and restarts the gap timer with 3 ms, a
LEN outside 1 to 128 and a gap abandon it; in PARKED every byte is discarded. The model's choices here: logs 3, 5. -/
def Obligations.ReceiverAssemblesFrames : Prop :=
  ∀ (b : Byte) (s : State),
    (s.sc.opState = .parked → exec (.rxByte b) s = .next s) ∧
    (s.sc.opState ≠ .parked → s.lu.receiver = .hunting →
      exec (.rxByte b) s = .next (if b = 0xC3 then { s with lu := { s.lu with receiver := .receiving [], gap := some 300 } } else s)) ∧
    (s.sc.opState ≠ .parked → s.lu.receiver = .receiving [] →
      exec (.rxByte b) s = .next (if 1 ≤ b.toNat ∧ b.toNat ≤ 128
        then { s with lu := { s.lu with receiver := .receiving [b], gap := some 300 } }
        else { s with lu := { s.lu with receiver := .hunting, gap := none } })) ∧
    (∀ len rest, s.sc.opState ≠ .parked → s.lu.receiver = .receiving (len :: rest) → rest.length + 2 < len.toNat + 3 →
      exec (.rxByte b) s =
        .next { s with lu := { s.lu with receiver := .receiving (len :: rest ++ [b]), gap := some 300 } }) ∧
    (∀ bytes, s.lu.receiver = .receiving bytes →
      exec .gapTimeout s = .next { s with lu := { s.lu with receiver := .hunting, gap := none } }) ∧
    (s.lu.receiver = .hunting → exec .gapTimeout s = .next s)

/-- TX_FRAME_END (R150, R170): the further pieces of an answer follow at once; after the last byte of an answer the buffer is free, and
an overrun mark makes a reject OVERRUN; an answer due goes before a reject, and this before a notice; the oldest notice carries its record's
subject and value; with nothing due the transmitter is IDLE.
The model's choices here: logs 8, 9. -/
def Obligations.TransmitterSendsInOrder : Prop :=
  ∀ (s : State) (w : Sending) (f : Frame) (pieces : List Frame), s.sc.opState ≠ .parked → s.lu.transmitter = .sending w f pieces →
    (∀ g gs, pieces = g :: gs → exec .txFrameEnd s = .next { s with lu := { s.lu with transmitter := .sending w g gs } }) ∧
    (pieces = [] → w = .answer → s.lu.after = .none → s.lu.answer = none → s.lu.overrun = none → s.lu.overrunReject = none →
      s.lu.queue = [] → exec .txFrameEnd s = .next { s with lu := { s.lu with inHand := none, transmitter := .idle } }) ∧
    (∀ k q, pieces = [] → w = .answer → s.lu.after = .none → s.lu.answer = none → s.lu.overrun = none → s.lu.overrunReject = none →
      s.lu.queue = k :: q → exec .txFrameEnd s = .next { s with lu := { s.lu with
        inHand := none, queue := q
        transmitter := .sending .notice ⟨0xF1, num8 k.index ++ num8 (s.lu.event k).subject ++ int16 (s.lu.event k).value⟩ [] } }) ∧
    (∀ k, pieces = [] → w = .answer → s.lu.after = .none → s.lu.answer = none → s.lu.overrun = some k →
      exec .txFrameEnd s = .next { s with lu := { s.lu with
        inHand := none, overrun := none, overrunReject := none, transmitter := .sending .overrunReject ⟨0xF0, [3, k]⟩ [] } }) ∧
    (pieces = [] → w = .answer → s.lu.after ≠ .none → s.lu.answer = none →
      exec .txFrameEnd s = .next { s with lu := { s.lu with transmitter := .idle } }) ∧
    (∀ g gs, pieces = [] → w ≠ .answer → s.lu.answer = some (g, gs) →
      exec .txFrameEnd s = .next { s with lu := { s.lu with answer := none, transmitter := .sending .answer g gs } }) ∧
    (pieces = [] → w ≠ .answer → s.lu.after = .none → s.lu.answer = none → s.lu.overrunReject = none → s.lu.queue = [] →
      exec .txFrameEnd s = .next { s with lu := { s.lu with transmitter := .idle } }) ∧
    (∀ k, pieces = [] → w ≠ .answer → s.lu.after = .none → s.lu.answer = none → s.lu.overrunReject = some k →
      exec .txFrameEnd s = .next { s with lu := { s.lu with
        overrunReject := none, transmitter := .sending .overrunReject ⟨0xF0, [3, k]⟩ [] } }) ∧
    (∀ k q, pieces = [] → w ≠ .answer → s.lu.after = .none → s.lu.answer = none → s.lu.overrunReject = none → s.lu.queue = k :: q →
      exec .txFrameEnd s = .next { s with lu := { s.lu with
        queue := q
        transmitter := .sending .notice ⟨0xF1, num8 k.index ++ num8 (s.lu.event k).subject ++ int16 (s.lu.event k).value⟩ [] } })

/-- IDENTIFY and STATUS are answered in every state but PARKED (R149, R156, R157); before the load the grant reads 0 from fallback.
The model's choices here: logs 1, 62. -/
def Obligations.IdentifyAndStatusAnswer : Prop :=
  ∀ s : State, s.sc.opState ≠ .parked → s.lu.inHand = none →
    exec .identify s = .next { s with lu := s.lu.replied 0x01 [] ([0, 0x5C, 0x12, 2, if s.lu.rate = .baud115200 then 0 else 1]
      ++ wordBytes (s.wm.word 30) ++ wordBytes (s.wm.word 31) ++ [if s.pl.defaultFlag then 1 else 0]) } ∧
    exec .status s = .next { s with lu := s.lu.replied 0x02 [] ([0] ++ num8 s.sc.opState.code ++ num8 s.sc.cadence.code
      ++ num8 s.sc.pendingCadence.code ++ num8 (s.handler 0).mode.code ++ num8 (s.handler 1).mode.code
      ++ int8 (s.renewal 0).balance ++ int8 (s.renewal 1).balance ++ num8 s.rs.airHold.code
      ++ (if s.pl.loadState = .loaded
          then num16 (if s.pa.live then s.pa.liveGrant else s.wm.fallbackGrant) ++ [if s.pa.live then 0 else 1]
          else [0, 0, 1])
      ++ num8 s.lu.queue.length
      ++ num8 (EventKind.all.filter fun k => (s.lu.event k).latched && (s.lu.event k).enable).length
      ++ (EventKind.all.filter fun k => (s.lu.event k).latched && (s.lu.event k).enable).flatMap fun k =>
          num8 k.index ++ num8 (s.lu.event k).subject ++ int16 (s.lu.event k).value) }

/-- SET_REPORTS (R158): every enable is the mask's; the entries of kinds switched off leave the queue; each kind switched on that is
latched is queued, in kind order, while there is room. Nothing else of the event set changes. The model's choices here: log 8. -/
def Obligations.SetReportsEnablesAndQueues : Prop :=
  ∀ (mask : Word16) (s : State), s.Served → s.lu.queue.length ≤ 8 →
    let kept := s.lu.queue.filter fun k => !((s.lu.event k).enable && !mask.getLsbD k.index)
    let added := EventKind.all.filter fun k =>
      !(s.lu.event k).enable && mask.getLsbD k.index && (s.lu.event k).latched && !kept.contains k
    ∃ t, exec (.setReports mask) s = .next t ∧ t = { s with lu := t.lu } ∧
      (∀ k, t.lu.event k = { s.lu.event k with enable := mask.getLsbD k.index }) ∧
      t.lu.queue = (kept ++ added).take 8 ∧
      t.lu = { s.lu with events := t.lu.events, queue := t.lu.queue }.replied 0x03 (wordBytes mask)
        ([0] ++ wordBytes mask ++ wordBytes s.lu.latchedMask ++ num8 t.lu.queue.length)

/-- CLEAR_EVENTS (R159): each kind of the mask is no longer latched, with subject and value 0, and leaves the queue; the others and
every enable stay. -/
def Obligations.ClearEventsClears : Prop :=
  ∀ (mask : Word16) (s : State), s.Served →
    ∃ t, exec (.clearEvents mask) s = .next t ∧ t = { s with lu := t.lu } ∧
      (∀ k, t.lu.event k = if mask.getLsbD k.index then { s.lu.event k with latched := false, subject := 0, value := 0 } else s.lu.event k) ∧
      t.lu = { s.lu with events := t.lu.events, queue := s.lu.queue.filter fun k => !mask.getLsbD k.index }.replied 0x04
        (wordBytes mask) ([0] ++ wordBytes (s.lu.latchedMask &&& ~~~mask))

/-! ### Zone regulation (01) -/

/-- SET_SETPOINTS (R18) and SET_ZONE_ENABLE (R19): a list of a wrong length or with a zone above 11 changes nothing; otherwise each
zone named takes its last setpoint, brought into 120 to 300, and the answer gives them back. The model's choices here: log 1. -/
def Obligations.ZoneRequestsWriteZones : Prop :=
  ∀ s : State, s.Served →
    (∀ pairs, ¬ (1 ≤ pairs.length ∧ pairs.length ≤ 12) →
      exec (.setSetpoints pairs) s = .next { s with lu := s.lu.replied 0x10 (pairPayload pairs) [8] }) ∧
    (∀ pairs, 1 ≤ pairs.length ∧ pairs.length ≤ 12 → (∃ p ∈ pairs, 12 ≤ p.1.toNat) →
      exec (.setSetpoints pairs) s = .next { s with lu := s.lu.replied 0x10 (pairPayload pairs) [7] }) ∧
    (∀ pairs, 1 ≤ pairs.length ∧ pairs.length ≤ 12 → (∀ p ∈ pairs, p.1.toNat < 12) →
      ∃ t, exec (.setSetpoints pairs) s = .next t ∧
        t = { s with
          zr := { s.zr with zones := t.zr.zones }
          lu := s.lu.replied 0x10 (pairPayload pairs)
            ([if ∀ p ∈ pairs, 120 ≤ p.2.toInt ∧ p.2.toInt ≤ 300 then 0 else 1] ++ num8 pairs.length
              ++ pairs.flatMap fun p => p.1 :: int16 (t.zone (Fin.ofNat 12 p.1.toNat)).setpoint) } ∧
        ∀ z, t.zone z = { s.zone z with setpoint :=
          (((pairs.filter fun p => p.1.toNat == z.val).getLast?).map fun p => max 120 (min 300 p.2.toInt)).getD (s.zone z).setpoint }) ∧
    (∀ (z : Fin 12) (on : Bool),
      exec (.setZoneEnable (BitVec.ofNat 8 z) (if on then 1 else 0)) s = .next { s with
        zr := { s.zr with zones := s.zr.zones.set z { s.zone z with enabled := on } }
        lu := s.lu.replied 0x11 [BitVec.ofNat 8 z, if on then 1 else 0] [0, BitVec.ofNat 8 z, if on then 1 else 0] }) ∧
    (∀ z e : Byte, 12 ≤ z.toNat ∨ 2 ≤ e.toNat →
      exec (.setZoneEnable z e) s = .next { s with lu := s.lu.replied 0x11 [z, e] [7] })

/-- REGULATION_TIMER_EXPIRY (R4, R5, R7, R16): the timer restarts with the cadence's period; with a cycle outstanding the deferred flag
is set; otherwise the cycle number grows and the demand set is handed on as the zone table then stands.
The model's choices here: logs 2, 3, 5. -/
def Obligations.RegulationTimerBeginsACycle : Prop :=
  ∀ s : State,
    let period := match s.sc.cadence with
      | .full => 100000
      | .half => 200000
    (s.zr.cycleTimer = none → exec .regulationTimerExpiry s = .next s) ∧
    (s.zr.cycleTimer.isSome → s.zr.outstanding = true →
      exec .regulationTimerExpiry s = .next { s with zr := { s.zr with cycleTimer := some period, deferred := true } }) ∧
    (s.zr.cycleTimer.isSome → s.zr.outstanding = false → ∃ t d, exec .regulationTimerExpiry s = .next t ∧
      t = { s with
        zr := ⟨t.zr.zones, some period, s.zr.cycleNo + 1, true, false⟩
        bus := { s.bus with demandSets := s.bus.demandSets ++ [⟨false, d⟩] } } ∧
      d.cycleNo = s.zr.cycleNo + 1 ∧
      ∀ z, (t.zone z).enabled = (s.zone z).enabled ∧ (t.zone z).setpoint = (s.zone z).setpoint ∧
        (t.zone z).limited = (s.zone z).limited ∧ (t.zone z).grantedReheat = (s.zone z).grantedReheat ∧
        d.zones[z] = {
          handler := s.wm.zoneHandler z, weight := s.wm.zoneWeight z, state := (t.zone z).state
          counted := decide ((t.zone z).state = .active ∨ ((t.zone z).state = .held ∧ (t.zone z).tempUsed.isSome) ∨
            ((t.zone z).state = .substitute ∧
              ((t.zone z).substitute = some .zoneMean ∨ (t.zone z).substitute = some .returnAir)))
          demand := (t.zone z).demand, hasReheat := (s.wm.zoneReheat z).isSome, rating := s.wm.zoneRating z })

/-- The demand law on an ACTIVE zone (R8, R12 to R15): error beyond the deadband, the integral with its freezes, and the demand.
The model's choices here: log 3. -/
def Obligations.ActiveZoneFollowsTheDemandLaw : Prop :=
  ∀ (s : State) (z : Fin 12) (p : Fin 32), s.zr.cycleTimer.isSome → s.zr.outstanding = false → (s.zone z).enabled = true →
    s.wm.zonePoint z = some p → s.wm.pointKind p = .temp → (s.point p).state = .valid →
    let e := max (-200) (min 200 ((s.zone z).setpoint - (s.point p).value))
    let eff := if (e.natAbs : Int) ≤ s.wm.deadband then 0 else if s.wm.deadband < e then e - s.wm.deadband else e + s.wm.deadband
    let before := if (s.zone z).state = .off then 0 else (s.zone z).integral
    let frozen := (∃ d, s.wm.zoneDoor z = some d ∧ (s.door d).state = .opened) ∨
      ((s.zone z).limited = .heating ∧ 0 < eff) ∨ ((s.zone z).limited = .cooling ∧ eff < 0) ∨
      ((s.zone z).demand = 1000 ∧ 0 < eff) ∨ ((s.zone z).demand = -1000 ∧ eff < 0)
    let c := match s.sc.cadence with
      | .full => 1
      | .half => 2
    ∃ t i, exec .regulationTimerExpiry s = .next t ∧
      (frozen → i = before) ∧
      (¬ frozen → i = max (-16000) (min 16000 (before + s.wm.ki * eff * c))) ∧
      t.zone z = { s.zone z with
        state := .active, substitute := none, tempUsed := some (s.point p).value, integral := i
        demand := max (-1000) (min 1000 (s.wm.kp * eff + Int.tdiv i 16)) }

/-- The zones that are not ACTIVE (R8 to R11, R13 to R15): a disabled zone is OFF; a HELD zone keeps what it has; a SUBSTITUTE zone takes
the mean of its handler's ACTIVE zones, else the return air, else nothing and demand 0, and its integral stays.
The model's choices here: log 3. -/
def Obligations.OtherZonesByTheirState : Prop :=
  ∀ (s : State) (z : Fin 12), s.zr.cycleTimer.isSome → s.zr.outstanding = false →
    let before := if (s.zone z).state = .off then 0 else (s.zone z).integral
    let h := s.wm.zoneHandler z
    let active (y : Fin 12) : Option Int := match s.wm.zonePoint y with
      | some p => if (s.zone y).enabled = true ∧ s.wm.zoneHandler y = h ∧ s.wm.pointKind p = .temp ∧ (s.point p).state = .valid
          then some (s.point p).value else none
      | none => none
    let temps := (List.finRange 12).filterMap active
    let waiting (limit : Nat → Prop) := ∃ p, s.wm.zonePoint z = some p ∧ s.wm.pointKind p = .temp ∧
      ((s.point p).state = .held ∨ (s.point p).state = .pending) ∧ limit (s.point p).age
    let lost := ∀ p, s.wm.zonePoint z = some p → s.wm.pointKind p = .temp → (s.point p).state = .failed ∨ (s.point p).state = .absent
    let substituting := (s.zone z).enabled = true ∧ (lost ∨ waiting (10 * s.wm.holdLimit < ·))
    ∃ t, exec .regulationTimerExpiry s = .next t ∧
      ((s.zone z).enabled = false → t.zone z =
        { s.zone z with state := .off, substitute := none, tempUsed := none, integral := 0, demand := 0 }) ∧
      ((s.zone z).enabled = true → waiting (· ≤ 10 * s.wm.holdLimit) → t.zone z =
        { s.zone z with
          state := .held, substitute := none, integral := before
          tempUsed := if (s.zone z).state = .off then none else (s.zone z).tempUsed }) ∧
      (substituting → temps ≠ [] → ∀ v, v = roundHalfAway temps.sum temps.length →
        t.zone z = { s.zone z with
          state := .substitute, substitute := some .zoneMean, tempUsed := some v, integral := before
          demand := demandOf s.wm.kp (effectiveError (s.zone z).setpoint v s.wm.deadband) before }) ∧
      (substituting → temps = [] → ∀ v, s.usable (s.wm.returnPoint h) = some v →
        t.zone z = { s.zone z with
          state := .substitute, substitute := some .returnAir, tempUsed := some v, integral := before
          demand := demandOf s.wm.kp (effectiveError (s.zone z).setpoint v s.wm.deadband) before }) ∧
      (substituting → temps = [] → s.usable (s.wm.returnPoint h) = none →
        t.zone z = { s.zone z with
          state := .substitute, substitute := some .noSource, tempUsed := none, integral := before, demand := 0 })

/-- ALLOTMENT_AT_ZR (R5, R7, R12 to R17): in RUN the allotment of the outstanding cycle writes the granted reheat and limited fields and ends
the wait; any other allotment is discarded. A deferred cycle begins at once: its stage 1 is that of REGULATION_TIMER_EXPIRY on the zones as
the allotment leaves them, but for the timer, which runs on. The model's choices here: log 2. -/
def Obligations.AllotmentReturnsToTheZones : Prop :=
  ∀ (s : State) (a : Allotment) (rest : List Allotment), s.bus.allotZR = a :: rest →
    let accepted := s.sc.opState = .run ∧ s.zr.outstanding = true ∧ a.cycleNo = s.zr.cycleNo
    let written : Vector Zone 12 := Vector.ofFn fun z =>
      { s.zone z with grantedReheat := (a.zones[z]).duty, limited := (a.zones[z]).limited }
    (¬ accepted → exec .allotmentAtZr s = .next { s with bus := { s.bus with allotZR := rest } }) ∧
    (accepted → s.zr.deferred = false → ∃ t, exec .allotmentAtZr s = .next t ∧
      t = { s with
        bus := { s.bus with allotZR := rest }
        zr := { s.zr with zones := t.zr.zones, outstanding := false } } ∧
      ∀ z, t.zone z = { s.zone z with grantedReheat := (a.zones[z]).duty, limited := (a.zones[z]).limited }) ∧
    (accepted → s.zr.deferred = true → ∃ t d, exec .allotmentAtZr s = .next t ∧
      t = { s with
        bus := { s.bus with allotZR := rest, demandSets := s.bus.demandSets ++ [⟨false, d⟩] }
        zr := ⟨t.zr.zones, s.zr.cycleTimer, s.zr.cycleNo + 1, true, false⟩ } ∧
      d.cycleNo = s.zr.cycleNo + 1 ∧
      (∃ u, exec .regulationTimerExpiry { s with zr := ⟨written, some 1, s.zr.cycleNo, false, false⟩ } = .next u ∧
        t.zr.zones = u.zr.zones ∧ t.bus.demandSets = u.bus.demandSets) ∧
      (∀ z, (t.zone z).enabled = (s.zone z).enabled ∧ (t.zone z).setpoint = (s.zone z).setpoint ∧
        (t.zone z).grantedReheat = (a.zones[z]).duty ∧ (t.zone z).limited = (a.zones[z]).limited ∧
        d.zones[z] = {
          handler := s.wm.zoneHandler z, weight := s.wm.zoneWeight z, state := (t.zone z).state
          counted := decide ((t.zone z).state = .active ∨ ((t.zone z).state = .held ∧ (t.zone z).tempUsed.isSome) ∨
            ((t.zone z).state = .substitute ∧
              ((t.zone z).substitute = some .zoneMean ∨ (t.zone z).substitute = some .returnAir)))
          demand := (t.zone z).demand, hasReheat := (s.wm.zoneReheat z).isSome, rating := s.wm.zoneRating z }) ∧
      ∀ z p, (s.zone z).enabled = true → s.wm.zonePoint z = some p → s.wm.pointKind p = .temp → (s.point p).state = .valid →
        let e := max (-200) (min 200 ((s.zone z).setpoint - (s.point p).value))
        let eff := if (e.natAbs : Int) ≤ s.wm.deadband then 0 else if s.wm.deadband < e then e - s.wm.deadband else e + s.wm.deadband
        let before := if (s.zone z).state = .off then 0 else (s.zone z).integral
        let frozen := (∃ o, s.wm.zoneDoor z = some o ∧ (s.door o).state = .opened) ∨
          ((a.zones[z]).limited = .heating ∧ 0 < eff) ∨ ((a.zones[z]).limited = .cooling ∧ eff < 0) ∨
          ((s.zone z).demand = 1000 ∧ 0 < eff) ∨ ((s.zone z).demand = -1000 ∧ eff < 0)
        let c := match s.sc.cadence with
          | .full => 1
          | .half => 2
        (t.zone z).state = .active ∧ (t.zone z).substitute = none ∧ (t.zone z).tempUsed = some (s.point p).value ∧
        (frozen → (t.zone z).integral = before) ∧
        (¬ frozen → (t.zone z).integral = max (-16000) (min 16000 (before + s.wm.ki * eff * c))) ∧
        (t.zone z).demand = max (-1000) (min 1000 (s.wm.kp * eff + Int.tdiv (t.zone z).integral 16)))

/-! ### Air handlers (02) -/

/-- ACCOUNT_TIMER_EXPIRY, REST_TIMER_EXPIRY and DWELL_TIMER_EXPIRY (R22, R28, R29, R32): the account timer's expiry reads the settings; the
ice account grows in HEAT with Q above 0 while the coil is cold, a full account makes the defrost due, a running defrost's timer grows;
rest and dwell end. The model's choices here: logs 3, 5, 48. -/
def Obligations.HandlerTimersExpire : Prop :=
  ∀ s : State,
    (s.hs.accountTimer = none → exec .accountTimerExpiry s = .next s) ∧
    (s.hs.accountTimer.isSome → ∃ t, exec .accountTimerExpiry s = .next t ∧
      t = { s with hs := { s.hs with
        accountTimer := some 100000, handlers := t.hs.handlers, air := ⟨s.wm.bMin, s.wm.renewalBlower, s.wm.dMin, s.wm.fMin⟩ } } ∧
      ∀ h : Fin 2, let x := s.handler h
        let cold := match s.usable (s.wm.coilPoint h), s.usable s.wm.outdoorPoint with
          | some coil, _ => coil ≤ s.wm.coilThreshold
          | none, some outdoor => outdoor ≤ 70
          | none, none => True
        ∃ ice, (x.mode = .heat ∧ 0 < x.q ∧ cold → ice = min 7200 (x.icing + 1)) ∧
          (¬ (x.mode = .heat ∧ 0 < x.q ∧ cold) → ice = x.icing) ∧
          t.handler h = { x with
            icing := ice, defrostDue := x.defrostDue || decide (s.wm.defrostInterval ≤ ice)
            defrostTimer := if x.mode = .defrost then min 600 (x.defrostTimer + 1) else x.defrostTimer }) ∧
    (∀ h, exec (.restTimerExpiry h) s =
      .next { s with hs := { s.hs with handlers := s.hs.handlers.set h { s.handler h with rest := 0 } } }) ∧
    (∀ h, exec (.dwellTimerExpiry h) s =
      .next { s with hs := { s.hs with handlers := s.hs.handlers.set h { s.handler h with dwell := 0 } } })

/-- DEMAND_SET_RECEIVED discards a set outside RUN, or one whose cascade a RESTART or a leaving of RUN has dropped (R25, R135). Otherwise
its cycle number and flags are taken and the settings read (R22), the net demand formed (R26), and one request set handed on with each
handler's mode, request and marks (R25) and each zone's reheat request and rating (R31). The model's choices here: logs 2, 48. -/
def Obligations.DemandSetMakesARequestSet : Prop :=
  ∀ (s : State) (d : Handed DemandSet) (rest : List (Handed DemandSet)), s.bus.demandSets = d :: rest →
    (s.sc.opState ≠ .run ∨ d.dropped = true → s.lu.Settled →
      exec .demandSetReceived s = .next { s with bus := { s.bus with demandSets := rest } }) ∧
    (s.sc.opState = .run → d.dropped = false → ∃ t r, exec .demandSetReceived s = .next t ∧
      t = { s with
        hs := { s.hs with
          handlers := t.hs.handlers, air := ⟨s.wm.bMin, s.wm.renewalBlower, s.wm.dMin, s.wm.fMin⟩, cycleNo := d.set.cycleNo
          outstanding := true, lastDemand := some d.set }
        rs := t.rs, lu := t.lu
        bus := { s.bus with
          demandSets := rest, requestSets := s.bus.requestSets ++ [⟨false, r⟩], ouValues := t.bus.ouValues } } ∧
      r.cycleNo = d.set.cycleNo ∧ r.demand = d.set ∧
      (∀ h : Fin 2, r.handlers[h] = {
        mode := (t.handler h).mode, qReq := (t.handler h).qReq, rating := s.wm.compressorRating h
        candidate := (t.handler h).candidate, runningDefrost := decide ((t.handler h).mode = .defrost) }) ∧
      (∀ z : Fin 12, let x := d.set.zones[z]
        let m := (t.handler x.handler).mode
        let assist := ∃ v, s.usable s.wm.outdoorPoint = some v ∧ v ≤ s.wm.assistThreshold
        let asks := x.hasReheat = true ∧ 0 < x.demand ∧ (m = .vent ∨ m = .cool ∨ m = .defrost ∨ (m = .heat ∧ assist))
        (asks → r.zones[z] = ⟨x.demand.toNat, x.rating⟩) ∧ (¬ asks → r.zones[z] = ⟨0, x.rating⟩)) ∧
      ∀ h : Fin 2, let zs := (List.finRange 12).filter fun z => (d.set.zones[z]).counted && (d.set.zones[z]).handler == h
        (t.handler h).counted = zs.length ∧
        (t.handler h).net = Int.tdiv ((zs.map fun z => ((d.set.zones[z]).weight : Int) * (d.set.zones[z]).demand).sum)
          ((zs.map fun z => ((d.set.zones[z]).weight : Int)).sum))

/-- The mode transitions of stage 2 and the requests that follow them (R27, R28, R30, R33, R35), row by row, for a handler with counted
zones; and a handler without one, which goes IDLE, ends its defrost ABORTED and loses its renewal (R71).
The model's choices here: logs 2, 5. -/
def Obligations.HandlerModesAtStageTwo : Prop :=
  ∀ (s : State) (d : Handed DemandSet) (rest : List (Handed DemandSet)) (h : Fin 2), s.bus.demandSets = d :: rest →
    s.sc.opState = .run → d.dropped = false →
    let zs := (List.finRange 12).filter fun z => (d.set.zones[z]).counted && (d.set.zones[z]).handler == h
    let n := Int.tdiv ((zs.map fun z => ((d.set.zones[z]).weight : Int) * (d.set.zones[z]).demand).sum)
      ((zs.map fun z => ((d.set.zones[z]).weight : Int)).sum)
    let x := s.handler h
    let resting := x.comp = .stopped ∧ x.rest ≠ 0
    let heating := if resting then 0 else max s.wm.qMin (min 1000 n).toNat
    let cooling := if resting then 0 else max s.wm.qMin (min 1000 (-n)).toNat
    let warm := ∃ v, s.usable (s.wm.coilPoint h) = some v ∧ 120 ≤ v
    ∃ t, exec .demandSetReceived s = .next t ∧
      (let y := t.handler h
      let stoppedIn (m : Mode) (last : CompMode) := y.mode = m ∧ y.qReq = 0 ∧ y.candidate = false ∧ y.q = 0 ∧ y.comp = .stopped ∧
        y.lastMode = last ∧ y.dwell = 100000 * s.wm.reversalDwell ∧
        y.rest = if x.comp = .running then 100000 * s.wm.restTime else x.rest
      let event (k : EventKind) := (t.lu.event k).latched = true
      (zs = [] → x.mode = .idle → y.mode = .idle ∧ y.qReq = 0 ∧ y.candidate = false) ∧
      (zs = [] → x.mode ≠ .idle → y.mode = .idle ∧ y.qReq = 0 ∧ y.candidate = false ∧ y.q = 0 ∧ y.comp = .stopped ∧ event .modeChange ∧
        (x.mode = .defrost → y.lastEnd = .aborted ∧ y.icing = x.icing ∧ y.defrostDue = x.defrostDue ∧ event .defrostEnd) ∧
        ((s.renewal h).state ≠ .idle →
          t.renewal h = { s.renewal h with state := .idle, timer := 0, lastEnd := .handlerIdle })) ∧
      (zs ≠ [] → x.mode = .idle → y.mode = .vent ∧ y.qReq = 0 ∧ event .modeChange) ∧
      (zs ≠ [] → x.mode = .vent → s.wm.heatOn ≤ n → x.driveAvailable = true → ¬ resting → (x.dwell = 0 ∨ x.lastMode ≠ .cool) →
        y.mode = .heat ∧ y.qReq = heating ∧ y.q = x.q ∧ event .modeChange) ∧
      (zs ≠ [] → x.mode = .vent → n < s.wm.heatOn → n ≤ -s.wm.coolOn → x.driveAvailable = true → ¬ resting →
        (x.dwell = 0 ∨ x.lastMode ≠ .heat) →
        y.mode = .cool ∧ y.qReq = cooling ∧ y.q = x.q ∧ event .modeChange) ∧
      (zs ≠ [] → x.mode = .vent → (x.driveAvailable = false ∨ resting ∨ (-s.wm.coolOn < n ∧ n < s.wm.heatOn) ∨
          (x.dwell ≠ 0 ∧ x.lastMode = .cool ∧ -s.wm.coolOn < n) ∨ (x.dwell ≠ 0 ∧ x.lastMode = .heat ∧ n < s.wm.heatOn)) →
        y.mode = .vent ∧ y.qReq = 0 ∧ y.candidate = false) ∧
      (zs ≠ [] → x.mode = .heat → x.driveAvailable = true → s.wm.heatOff < n →
        y.mode = .heat ∧ y.qReq = heating ∧ y.q = x.q ∧
        y.candidate = (x.defrostDue && decide (¬ resting) && decide ((s.renewal h).state = .idle))) ∧
      (zs ≠ [] → x.mode = .heat → (x.driveAvailable = false ∨ n ≤ s.wm.heatOff) → stoppedIn .vent .heat ∧ event .modeChange) ∧
      (zs ≠ [] → x.mode = .cool → x.driveAvailable = true → n < -s.wm.coolOff →
        y.mode = .cool ∧ y.qReq = cooling ∧ y.q = x.q ∧ y.candidate = false) ∧
      (zs ≠ [] → x.mode = .cool → (x.driveAvailable = false ∨ -s.wm.coolOff ≤ n) → stoppedIn .vent .cool ∧ event .modeChange) ∧
      (zs ≠ [] → x.mode = .defrost → x.driveAvailable = false →
        stoppedIn .vent .heat ∧ y.lastEnd = .drive ∧ y.icing = x.icing ∧ y.defrostDue = x.defrostDue ∧ event .defrostEnd) ∧
      (zs ≠ [] → x.mode = .defrost → x.driveAvailable = true → warm →
        y.mode = .heat ∧ y.qReq = heating ∧ y.lastEnd = .temperature ∧ y.icing = 0 ∧ y.defrostDue = false ∧ y.candidate = false ∧
        y.q = x.q ∧ y.comp = x.comp ∧ y.dwell = x.dwell ∧ event .defrostEnd) ∧
      (zs ≠ [] → x.mode = .defrost → x.driveAvailable = true → ¬ warm → s.wm.defrostMaximum ≤ x.defrostTimer →
        y.mode = .heat ∧ y.qReq = heating ∧ y.lastEnd = .time ∧ y.icing = s.wm.defrostInterval / 2 ∧ y.defrostDue = false ∧
        y.candidate = false ∧ y.q = x.q ∧ y.comp = x.comp ∧ y.dwell = x.dwell ∧ event .defrostEnd) ∧
      (zs ≠ [] → x.mode = .defrost → x.driveAvailable = true → ¬ warm → x.defrostTimer < s.wm.defrostMaximum →
        y.mode = .defrost ∧ y.qReq = s.wm.qDef ∧ y.q = x.q ∧ y.candidate = false))

/-- ALLOTMENT_AT_HS (R22, R34, R36 to R40, R55, R106, R122): in RUN the allotment of the outstanding cycle sets each handler's command,
enters an admitted defrost and ends an aborted one, computes blower, fresh damper and zone dampers and hands them with the duties to the
OU, and makes a drive exchange due for each handler with a drive slot; renewals that then start hand their own air. Any other allotment is
discarded. Either way it goes on to the Zone Regulator. The order in which the values are handed, handler by handler and then zone by zone,
damper before duty, is the model's (log 25), and so is the reading of zones and reheat elements from the demand set (log 32). The model's
choices here: logs 2, 5, 25, 32, 48. -/
def Obligations.AllotmentCommandsTheHandlers : Prop :=
  ∀ (s : State) (a : Allotment) (rest : List Allotment), s.bus.allotHS = a :: rest →
    let accepted := s.sc.opState = .run ∧ s.hs.outstanding = true ∧ a.cycleNo = s.hs.cycleNo
    (¬ accepted → s.lu.Settled → exec .allotmentAtHs s =
      .next { s with bus := { s.bus with allotHS := rest, allotZR := s.bus.allotZR ++ [a] } }) ∧
    (accepted → ∃ t, exec .allotmentAtHs s = .next t ∧
      t = { s with
        hs := { s.hs with handlers := t.hs.handlers, dampers := t.hs.dampers, air := t.hs.air, outstanding := false }
        rs := { s.rs with renewals := t.rs.renewals }, ml := t.ml, lu := t.lu
        bus := { s.bus with allotHS := rest, allotZR := s.bus.allotZR ++ [a], ouValues := t.bus.ouValues } } ∧
      (∀ h : Fin 2, let x := s.handler h
        let resting := x.comp = .stopped ∧ x.rest ≠ 0
        let o := (a.handlers[h]).outcome
        let q := (a.handlers[h]).command
        (o ≠ .admitted → o ≠ .aborted → (x.mode = .heat ∨ x.mode = .cool ∨ x.mode = .defrost) → x.driveAvailable = true → ¬ resting →
          (t.handler h).mode = x.mode ∧ (t.handler h).q = q ∧
          (0 < q → (t.handler h).comp = .running) ∧ (q = 0 → (t.handler h).comp = .stopped)) ∧
        (o ≠ .aborted → (x.driveAvailable = false ∨ x.mode = .idle ∨ x.mode = .vent ∨ resting) →
          (t.handler h).mode = x.mode ∧ (t.handler h).q = 0 ∧ (t.handler h).comp = .stopped ∧
          (t.handler h).rest = if x.comp = .running then 100000 * s.wm.restTime else x.rest) ∧
        (o = .admitted → x.mode = .heat → x.driveAvailable = true → ¬ resting → (s.renewal h).state = .idle →
          (t.handler h).mode = .defrost ∧ (t.handler h).q = q ∧ (t.handler h).defrostTimer = 0 ∧
          (0 < q → (t.handler h).comp = .running) ∧ (t.lu.event .defrostStart).latched = true) ∧
        (o = .admitted → x.mode = .heat → x.driveAvailable = true → ¬ resting → (s.renewal h).state ≠ .idle →
          (t.handler h).mode = .heat ∧ (t.handler h).q = min q x.qReq) ∧
        (o = .aborted → x.mode = .defrost →
          (t.handler h).mode = .vent ∧ (t.handler h).q = 0 ∧ (t.handler h).comp = .stopped ∧ (t.handler h).lastEnd = .aborted ∧
          (t.handler h).lastMode = .heat ∧ (t.handler h).dwell = 100000 * s.wm.reversalDwell ∧
          (t.handler h).rest = 100000 * s.wm.restTime ∧ (t.handler h).icing = x.icing ∧ (t.handler h).defrostDue = x.defrostDue ∧
          (t.lu.event .defrostEnd).latched = true)) ∧
      let starts (h : Fin 2) := ((a.handlers[h]).outcome = .aborted ∧ (s.handler h).mode = .defrost) ∨
        ((s.handler h).comp = .running ∧ (t.handler h).q = 0)
      let air (h : Fin 2) : AirSettings := if starts 0 ∨ (h = 1 ∧ starts 1)
        then ⟨s.wm.bMin, s.wm.renewalBlower, s.wm.dMin, s.wm.fMin⟩ else s.hs.air
      let wants (h : Fin 2) : List Int := match s.hs.lastDemand with
        | some d => ((List.finRange 12).filter fun z => (d.zones[z]).counted && (d.zones[z]).handler == h).map fun z => (d.zones[z]).demand
        | none => []
      let lifted (h : Fin 2) (n : Nat) := (air h).bMin + (1000 - (air h).bMin) * n / 1000
      let base (h : Fin 2) := match (t.handler h).mode with
        | .idle | .defrost => 0
        | .vent => (air h).bMin
        | .heat => lifted h (((wants h).map Int.toNat).foldl max 0)
        | .cool => lifted h (((wants h).map fun n => (-n).toNat).foldl max 0)
      let blower (h : Fin 2) := if (s.renewal h).state = .idle then base h else max (base h) (air h).renewalBlower
      let fresh (h : Fin 2) := if (t.handler h).mode = .idle then 0 else if (s.renewal h).state ≠ .idle then 1000
        else if s.rs.airHold ≠ .none then 0 else (air h).fMin
      let renews (h : Fin 2) := t.renewal h ≠ s.renewal h
      t.hs.air = air 1 ∧
      (∀ h, (t.handler h).baseBlower = base h ∧
        (t.handler h).blower = (if renews h then max (base h) (air 1).renewalBlower else blower h) ∧
        (t.handler h).fresh = (if renews h then 1000 else fresh h) ∧
        (renews h → (s.renewal h).state = .idle ∧ (t.renewal h).state ≠ .idle ∧ (t.renewal h).balance = (s.renewal h).balance)) ∧
      (s.hs.lastDemand = none → t.hs.dampers = s.hs.dampers) ∧
      (∀ d, s.hs.lastDemand = some d → ∀ z : Fin 12, let x := d.zones[z]
        let m := (t.handler x.handler).mode
        t.hs.dampers[z] = if x.state = .off then 0
          else if (m = .heat ∧ 0 < x.demand) ∨ (m = .cool ∧ x.demand < 0)
            then (air x.handler).dMin + (1000 - (air x.handler).dMin) * x.demand.natAbs / 1000 else (air x.handler).dMin) ∧
      t.bus.ouValues = s.bus.ouValues
        ++ [(.blower 0, blower 0), (.freshDamper 0, fresh 0), (.blower 1, blower 1), (.freshDamper 1, fresh 1)]
        ++ (List.finRange 12).flatMap (fun z => (.zoneDamper z, t.hs.dampers[z]) :: match s.hs.lastDemand with
          | some d => if (d.zones[z]).hasReheat then [(.zoneReheat z, (a.zones[z]).duty)] else []
          | none => [])
        ++ (if renews 0 then [(.blower 0, (t.handler 0).blower), (.freshDamper 0, 1000)] else [])
        ++ (if renews 1 then [(.blower 1, (t.handler 1).blower), (.freshDamper 1, 1000)] else []) ∧
      (s.ml.line ≠ .on → t.ml = s.ml) ∧
      (s.ml.line = .on → s.ml.exchange.isSome → t.ml = { s.ml with drivePending := t.ml.drivePending } ∧
        ∀ h : Fin 2, t.ml.drivePending[h] = (s.ml.drivePending[h] || (s.handler h).driveSlot.isSome)) ∧
      (s.ml.line = .on → s.ml.exchange = none → ∀ i, (s.handler 0).driveSlot = some i → (s.slot i).state = .present →
        let y := t.handler 0
        t.ml.drivePending[(0 : Fin 2)] = false ∧
        t.ml.exchange = some ⟨.drive 0, i, .driveCommand (decide (0 < y.q)) (if 0 < y.q
            then (if y.mode = .heat then .heat else if y.mode = .cool then .cool else .reverse)
            else if y.lastMode = .cool then .cool else .heat) y.q, false, .sending, false, false⟩))

/-! ### Power allotment (03) -/

/-- GRANT and LIFETIME_EXPIRY (R42, R44, R45): a grant takes force clamped, with its timer; its expiry puts the fallback grant in force,
keeps the value and latches GRANT_EXPIRED. The model's choices here: logs 3, 5. -/
def Obligations.GrantTakesForceAndExpires : Prop :=
  ∀ s : State,
    (∀ (w : Word16) (l : Byte), s.Served →
      let g := min w.toNat 60000
      let life := max 1 (min l.toNat 120)
      exec (.grant w l) s = .next { s with
        pa := { s.pa with liveGrant := g, live := true, timer := some (100000 * life), lifetime := life }
        lu := s.lu.replied 0x20 (wordBytes w ++ [l])
          ([if w.toNat ≤ 60000 ∧ 1 ≤ l.toNat ∧ l.toNat ≤ 120 then 0 else 1] ++ num16 g ++ num8 life) }) ∧
    (s.pa.timer = none → exec .lifetimeExpiry s = .next s) ∧
    (s.pa.timer.isSome → ∃ t, exec .lifetimeExpiry s = .next t ∧
      t = { s with pa := { s.pa with live := false, timer := none }, lu := t.lu } ∧
      t.effectiveGrant = s.wm.fallbackGrant ∧
      t.lu.event .grantExpired = { s.lu.event .grantExpired with
        latched := true, subject := 0, value := min 32767 ((s.pa.liveGrant / 10 : Nat) : Int) } ∧
      ∀ k, k ≠ .grantExpired → t.lu.event k = s.lu.event k)

/-- REQUEST_SET_RECEIVED (R46, R47, R55, R56): outside RUN, or where its cascade has been dropped, the set is discarded; otherwise the
allotment at the effective grant is recorded and handed to the Handler Sequencer, and nothing else changes. The model's choices here:
log 2. -/
def Obligations.RequestSetMakesAnAllotment : Prop :=
  ∀ (s : State) (r : Handed RequestSet) (rest : List (Handed RequestSet)), s.bus.requestSets = r :: rest →
    (s.sc.opState ≠ .run ∨ r.dropped = true →
      exec .requestSetReceived s = .next { s with bus := { s.bus with requestSets := rest } }) ∧
    (s.sc.opState = .run → r.dropped = false →
      let m := allot s.effectiveGrant s.wm.qMin s.wm.qDef r.set
      let a := m.allotment r.set
      let compressors := ((List.finRange 2).map fun h => (r.set.handlers[h]).rating * (a.handlers[h]).command).sum
      let elements := ((List.finRange 12).map fun z => (r.set.zones[z]).rating * (a.zones[z]).duty).sum
      ∃ t, exec .requestSetReceived s = .next t ∧
        t = { s with
          pa := { s.pa with record := t.pa.record }
          bus := { s.bus with requestSets := rest, allotHS := s.bus.allotHS ++ [a] } } ∧
        a.cycleNo = r.set.cycleNo ∧ t.pa.record.made = true ∧ t.pa.record.cycleNo = r.set.cycleNo ∧
        t.pa.record.grant = s.effectiveGrant ∧ t.pa.record.live = s.pa.live ∧
        t.pa.record.scale = m.scale ∧ t.pa.record.scale2 = m.scale2 ∧ t.pa.record.fixedPower = m.fixed.power / 1000 ∧
        t.pa.record.total = (compressors + elements) / 1000 ∧
        t.pa.record.unallotted = (1000 * s.effectiveGrant - (compressors + elements)) / 1000 ∧
        (∀ h : Fin 2, (a.handlers[h]).outcome = m.fixed.outcome[h] ∧ (a.handlers[h]).command = m.command[h] ∧
          t.pa.record.handlers[h] = {
            mode := (r.set.handlers[h]).mode, qReq := (r.set.handlers[h]).qReq, outcome := (a.handlers[h]).outcome
            command := (a.handlers[h]).command, power := (r.set.handlers[h]).rating * (a.handlers[h]).command / 1000 }) ∧
        ∀ z : Fin 12, (a.zones[z]).duty = m.duty[z] ∧ (a.zones[z]).limited = m.limited[z] ∧
          t.pa.record.zones[z] = {
            request := (r.set.zones[z]).request, duty := (a.zones[z]).duty
            power := (r.set.zones[z]).rating * (a.zones[z]).duty / 1000, limited := (a.zones[z]).limited })

/-- The power bound (R53): an allotment never hands out more power than its grant, and the total its record reports in watts, rounded
down, is at most the grant. -/
def Obligations.AllotmentKeepsWithinTheGrant : Prop :=
  ∀ (g qMin qDef : Nat) (r : RequestSet),
    let m := allot g qMin qDef r
    let a := m.allotment r
    let power := ((List.finRange 2).map fun h => (r.handlers[h]).rating * (a.handlers[h]).command).sum
      + ((List.finRange 12).map fun z => (r.zones[z]).rating * (a.zones[z]).duty).sum
    power ≤ 1000 * g ∧ ∀ live : Bool, (m.record g live r).total = power / 1000 ∧ (m.record g live r).total ≤ g

/-- The five steps of an allotment, and what they come to at its limits (R48 to R52, R54, R59): running defrosts and then candidates are
granted their fixed power whole or not at all, in handler order; the variable requests are scaled together and swept up to the minimum or
down to 0; the duties are scaled together; a zone is limited in the direction in which it fell short. So what fits is granted whole, and
a grant of 0 grants nothing. The model's choices here: log 37. -/
def Obligations.AllotmentAtItsLimits : Prop :=
  ∀ (g qMin qDef : Nat) (r : RequestSet),
    let m := allot g qMin qDef r
    let a := m.allotment r
    let cap := 1000 * g
    let x (h : Fin 2) := r.handlers[h]
    let need (h : Fin 2) := (x h).rating * qDef
    let after (p : Nat) (asked : Bool) (h : Fin 2) := if asked = true ∧ p + need h ≤ cap then p + need h else p
    let p1 := after 0 (x 0).runningDefrost 0
    let p2 := after p1 (x 1).runningDefrost 1
    let p3 := after p2 (x 0).candidate 0
    let p4 := after p3 (x 1).candidate 1
    let outcome (h : Fin 2) (runs offers : Nat) : FixedOutcome :=
      if (x h).candidate = true then (if offers + need h ≤ cap then .admitted else .refused)
      else if (x h).runningDefrost = true then (if runs + need h ≤ cap then .kept else .aborted) else .none
    let o (h : Fin 2) := if h = 0 then outcome 0 0 p2 else outcome 1 p1 p3
    let fixed (h : Fin 2) := if o h = .kept ∨ o h = .admitted then qDef else 0
    let varies (h : Fin 2) := ((x h).mode = .heat ∨ (x h).mode = .cool) ∧ 0 < (x h).qReq ∧ o h ≠ .admitted
    let draws (h : Fin 2) (q : Nat) := if varies h then (x h).rating * q else 0
    let want := draws 0 (x 0).qReq + draws 1 (x 1).qReq
    let scale := if want ≤ cap - p4 then 1000 else 1000 * (cap - p4) / want
    let scaled (h : Fin 2) := if varies h then (x h).qReq * scale / 1000 else fixed h
    let sweep (h : Fin 2) (q other : Nat) := if varies h ∧ 0 < q ∧ q < qMin
      then (if p4 + (x h).rating * qMin + other ≤ cap then qMin else 0) else q
    let c0 := sweep 0 (scaled 0) (draws 1 (scaled 1))
    let c1 := sweep 1 (scaled 1) (draws 0 c0)
    let c (h : Fin 2) := if h = 0 then c0 else c1
    let heat := ((List.finRange 12).map fun z => (r.zones[z]).rating * (r.zones[z]).request).sum
    let left := cap - ((x 0).rating * c0 + (x 1).rating * c1)
    let scale2 := if heat ≤ left then 1000 else 1000 * left / heat
    let short (h : Fin 2) := ((x h).mode = .heat ∨ (x h).mode = .cool) ∧ o h ≠ .admitted ∧ c h < (x h).qReq
    m.fixed.power = p4 ∧ m.scale = scale ∧ m.scale2 = scale2 ∧
    (∀ h : Fin 2, a.handlers[h] = ⟨o h, c h⟩) ∧
    (∀ z : Fin 12, let y := r.demand.zones[z]
      let duty := (r.zones[z]).request * scale2 / 1000
      a.zones[z] = ⟨duty, if 0 < y.demand ∧ (((x y.handler).mode = .heat ∧ short y.handler) ∨ duty < (r.zones[z]).request) then .heating
        else if y.demand < 0 ∧ (x y.handler).mode = .cool ∧ short y.handler then .cooling else .none⟩) ∧
    ((∀ h : Fin 2, (x h).candidate = false ∧ (x h).runningDefrost = false ∧
        ((x h).mode = .heat ∨ (x h).mode = .cool ∨ (x h).qReq = 0) ∧ ((x h).qReq = 0 ∨ qMin ≤ (x h).qReq)) →
      ((List.finRange 2).map fun h => (x h).rating * (x h).qReq).sum + heat ≤ 1000 * g →
      (∀ h : Fin 2, (a.handlers[h]).command = (x h).qReq ∧ (a.handlers[h]).outcome = .none) ∧
      (∀ z : Fin 12, (a.zones[z]).duty = (r.zones[z]).request)) ∧
    (∀ h : Fin 2, (x h).runningDefrost = true → (x h).candidate = false → ((x h).mode ≠ .heat ∧ (x h).mode ≠ .cool) →
      ((a.handlers[h]).outcome = .kept ∧ (a.handlers[h]).command = qDef) ∨
        ((a.handlers[h]).outcome = .aborted ∧ (a.handlers[h]).command = 0)) ∧
    (g = 0 → 0 < qDef → (∀ h : Fin 2, 0 < (x h).rating) → (∀ z : Fin 12, 0 < (r.zones[z]).rating) →
      (∀ h : Fin 2, (a.handlers[h]).command = 0) ∧ (∀ z : Fin 12, (a.zones[z]).duty = 0))

/-! ### Fresh-air renewal (04) -/

/-- AIR_HOLD (R70, R72): in STANDBY the hold is written; in RUN a HARD hold ends every running renewal and a SOFT one the RENEWING ones,
with last end HOLD and no credit; a handler at -8 then starts a FORCED renewal unless the hold is HARD, and under NONE a handler starts the
renewal that R65 gives it (DUE, ECONOMY, AIR_QUALITY or none); the hold already in force changes nothing; any other value is refused. The
model's choices here: logs 2, 5, 17, 40, 51, 52, 62. -/
def Obligations.AirHoldStopsRenewals : Prop :=
  ∀ s : State, s.Served →
    (∀ v : Byte, 3 ≤ v.toNat → exec (.airHold v) s = .next { s with lu := s.lu.replied 0x28 [v] [7] }) ∧
    (∀ hold : AirHold,
      let reply (t : State) := [0] ++ num8 hold.code ++ num8 (t.renewal 0).state.code ++ int8 (t.renewal 0).balance
        ++ num8 (t.renewal 1).state.code ++ int8 (t.renewal 1).balance
      let v : Byte := BitVec.ofNat 8 hold.code
      (s.rs.airHold = hold ∨ s.sc.opState = .standby →
        exec (.airHold v) s = .next { s with
          rs := { s.rs with airHold := hold }, lu := s.lu.replied 0x28 [v] (reply s) }) ∧
      (s.rs.airHold ≠ hold → s.sc.opState = .run → ∃ t, exec (.airHold v) s = .next t ∧
        t = { s with
          rs := { s.rs with airHold := hold, renewals := t.rs.renewals }, hs := { s.hs with handlers := t.hs.handlers }
          bus := { s.bus with ouValues := t.bus.ouValues }, lu := s.lu.replied 0x28 [v] (reply t) } ∧
        ∀ h, (t.renewal h).balance = (s.renewal h).balance ∧
          (t.handler h).fresh = t.freshValue h ∧
          (hold = .hard → (s.renewal h).state ≠ .idle →
            t.renewal h = { s.renewal h with state := .idle, timer := 0, lastEnd := .hold }) ∧
          (hold = .soft → s.rs.airHold = .none → (s.renewal h).state = .renewing → (s.renewal h).balance ≠ -8 →
            t.renewal h = { s.renewal h with state := .idle, timer := 0, lastEnd := .hold }) ∧
          (hold = .soft → (s.renewal h).state = .forced → t.renewal h = s.renewal h) ∧
          (hold ≠ .hard → (s.renewal h).balance = -8 →
            (s.renewal h).state = .idle ∨ (hold = .soft ∧ s.rs.airHold = .none ∧ (s.renewal h).state = .renewing) →
            (s.handler h).mode = .vent ∨ (s.handler h).mode = .heat ∨ (s.handler h).mode = .cool →
            t.renewal h = { s.renewal h with
              state := .forced, kind := some .forced, timer := 100000 * s.wm.renewalDuration
              lastEnd := if (s.renewal h).state = .renewing then .hold else (s.renewal h).lastEnd }) ∧
          (hold = .none → (s.renewal h).state ≠ .idle → t.renewal h = s.renewal h) ∧
          (hold ≠ .none → (s.renewal h).state = .idle → hold = .hard ∨ (s.renewal h).balance ≠ -8 → t.renewal h = s.renewal h) ∧
          ((s.renewal h).state = .idle → (s.handler h).mode = .idle ∨ (s.handler h).mode = .defrost → t.renewal h = s.renewal h) ∧
          (hold = .none → (s.renewal h).state = .idle → -8 < (s.renewal h).balance →
            (s.handler h).mode = .vent ∨ (s.handler h).mode = .heat ∨ (s.handler h).mode = .cool →
            let x := s.renewal h
            let m := (s.handler h).mode
            let setpoints : List Int := match s.hs.lastDemand with
              | some d => ((List.finRange 12).filter fun z => (d.zones[z]).counted && (d.zones[z]).handler == h).map
                  fun z => (s.zone z).setpoint
              | none => []
            let helps := ∃ out, s.usable s.wm.outdoorPoint = some out ∧
              ((m = .cool ∧ ∃ ret, s.usable (s.wm.returnPoint h) = some ret ∧ out ≤ ret - 30) ∨
                (m = .heat ∧ ∃ ret, s.usable (s.wm.returnPoint h) = some ret ∧ ret + 30 ≤ out) ∨
                (m = .vent ∧ setpoints ≠ [] ∧ (out - roundHalfAway setpoints.sum setpoints.length).natAbs ≤ 20))
            let stale := ∃ d, s.hs.lastDemand = some d ∧ ∃ z, (d.zones[z]).handler = h ∧ (d.zones[z]).state = .active ∧
              ∃ p, s.wm.zoneCo2Point z = some p ∧ s.wm.pointKind p = .co2 ∧ (s.point p).state = .valid ∧
                s.wm.co2Limit < (s.point p).value
            let started (k : RenewalKind) : Renewal :=
              { x with state := .renewing, kind := some k, timer := 100000 * s.wm.renewalDuration }
            (x.balance < 0 → t.renewal h = started .due) ∧
            (0 ≤ x.balance → x.balance < 8 → helps → t.renewal h = started .economy) ∧
            (0 ≤ x.balance → x.balance < 8 → ¬ helps → stale → t.renewal h = started .airQuality) ∧
            (0 ≤ x.balance → x.balance < 8 → ¬ helps → ¬ stale → t.renewal h = x) ∧
            (8 ≤ x.balance → t.renewal h = x))))

/-- RENEW_NOW (R68, R73): the checks in their order; where none applies a HOST renewal starts, with its timer, the fresh damper at 1000
and the blower at least the renewal blower as it was last read (R22, R38). The model's choices here: logs 2, 5, 14, 25, 48, 62. -/
def Obligations.RenewNowStartsAHostRenewal : Prop :=
  ∀ s : State, s.Served →
    (∀ v : Byte, 2 ≤ v.toNat → exec (.renewNow v) s = .next { s with lu := s.lu.replied 0x29 [v] [7] }) ∧
    (∀ h : Fin 2,
      let v : Byte := BitVec.ofNat 8 h
      let answer (code : Byte) := s.lu.replied 0x29 [v] ([code, v, 0] ++ int8 (s.renewal h).balance ++ num8 (s.renewal h).state.code)
      (s.sc.opState = .standby ∨ s.rs.airHold ≠ .none → exec (.renewNow v) s = .next { s with lu := answer 4 }) ∧
      (s.sc.opState = .run → s.rs.airHold = .none → (s.renewal h).state ≠ .idle ∨ (s.handler h).mode = .defrost →
        exec (.renewNow v) s = .next { s with lu := answer 3 }) ∧
      (s.sc.opState = .run → s.rs.airHold = .none → (s.renewal h).state = .idle → (s.handler h).mode = .idle →
        exec (.renewNow v) s = .next { s with lu := answer 4 }) ∧
      (s.sc.opState = .run → s.rs.airHold = .none → (s.renewal h).state = .idle →
        (s.handler h).mode ≠ .idle → (s.handler h).mode ≠ .defrost → (s.renewal h).balance = 8 →
        exec (.renewNow v) s = .next { s with lu := answer 0 }) ∧
      (s.sc.opState = .run → s.rs.airHold = .none → (s.renewal h).state = .idle →
        (s.handler h).mode ≠ .idle → (s.handler h).mode ≠ .defrost → (s.renewal h).balance ≠ 8 →
        let blower := max (s.handler h).baseBlower s.hs.air.renewalBlower
        exec (.renewNow v) s = .next { s with
          rs := { s.rs with renewals := s.rs.renewals.set h { s.renewal h with
            state := .renewing, kind := some .host, timer := 100000 * s.wm.renewalDuration } }
          hs := { s.hs with handlers := s.hs.handlers.set h { s.handler h with blower := blower, fresh := 1000 } }
          bus := { s.bus with ouValues := s.bus.ouValues ++ [(.blower h, blower), (.freshDamper h, 1000)] }
          lu := s.lu.replied 0x29 [v] ([0, v, 1] ++ int8 (s.renewal h).balance ++ [1]) }))

/-- RENEWAL_COMPLETE and INTERVAL_EXPIRY (R63 to R69): a completion gives one credit to at most +8; an interval expiry takes one, or at -8
latches RENEWAL_OVERDUE; a handler in debt then starts a DUE renewal, at -8 a FORCED one, and one not in debt an ECONOMY renewal where the
outside air helps it, else an AIR_QUALITY renewal where a zone is over the CO2 limit, else none; a HARD hold starts none.
The model's choices here: logs 2, 3, 5, 25, 48, 51, 52. -/
def Obligations.RenewalsCountTheBalance : Prop :=
  ∀ (s : State) (h : Fin 2),
    let x := s.renewal h
    let paused := s.sc.opState ≠ .run ∨ (s.handler h).mode = .idle
    (x.state = .idle → exec (.renewalComplete h) s = .next s) ∧
    (x.state ≠ .idle → ∃ t, exec (.renewalComplete h) s = .next t ∧
      t = { s with
        rs := { s.rs with renewals := s.rs.renewals.set h { x with
          balance := min 8 (x.balance + 1), state := .idle, timer := 0, lastEnd := .completed } }
        hs := { s.hs with handlers := s.hs.handlers.set h { s.handler h with
          blower := (s.handler h).baseBlower, fresh := t.freshValue h } }
        bus := { s.bus with ouValues :=
          s.bus.ouValues ++ [(.blower h, (s.handler h).baseBlower), (.freshDamper h, t.freshValue h)] } }) ∧
    (paused → exec (.intervalExpiry h) s = .next s) ∧
    (¬ paused → s.lu.Settled → s.rs.airHold = .hard → -8 < x.balance →
      exec (.intervalExpiry h) s = .next { s with rs := { s.rs with renewals := s.rs.renewals.set h { x with
        interval := 100000 * s.wm.renewalInterval, balance := x.balance - 1 } } }) ∧
    (¬ paused → x.balance = -8 → ∃ t, exec (.intervalExpiry h) s = .next t ∧
      t = { s with rs := t.rs, hs := t.hs, bus := t.bus, lu := t.lu } ∧ (t.renewal h).balance = -8 ∧
      (t.renewal h).interval = 100000 * s.wm.renewalInterval ∧
      t.lu.event .renewalOverdue = { s.lu.event .renewalOverdue with latched := true, subject := h, value := -8 }) ∧
    (¬ paused → -8 < x.balance → x.balance ≤ 0 → s.rs.airHold = .none → x.state = .idle → (s.handler h).mode ≠ .defrost →
      ∃ t, exec (.intervalExpiry h) s = .next t ∧ t = { s with rs := t.rs, hs := t.hs, bus := t.bus, lu := t.lu } ∧
        t.renewal h = { x with
          balance := x.balance - 1, interval := 100000 * s.wm.renewalInterval
          state := if x.balance - 1 = -8 then .forced else .renewing
          kind := some (if x.balance - 1 = -8 then .forced else .due), timer := 100000 * s.wm.renewalDuration } ∧
        (t.handler h).fresh = 1000 ∧ (t.handler h).blower = max (s.handler h).baseBlower s.hs.air.renewalBlower) ∧
    (¬ paused → 0 < x.balance → x.balance ≤ 8 → s.rs.airHold = .none → x.state = .idle → (s.handler h).mode ≠ .defrost →
      let m := (s.handler h).mode
      let setpoints : List Int := match s.hs.lastDemand with
        | some d => ((List.finRange 12).filter fun z => (d.zones[z]).counted && (d.zones[z]).handler == h).map fun z => (s.zone z).setpoint
        | none => []
      let helps := ∃ out, s.usable s.wm.outdoorPoint = some out ∧
        ((m = .cool ∧ ∃ ret, s.usable (s.wm.returnPoint h) = some ret ∧ out ≤ ret - 30) ∨
          (m = .heat ∧ ∃ ret, s.usable (s.wm.returnPoint h) = some ret ∧ ret + 30 ≤ out) ∨
          (m = .vent ∧ setpoints ≠ [] ∧ (out - roundHalfAway setpoints.sum setpoints.length).natAbs ≤ 20))
      let stale := ∃ d, s.hs.lastDemand = some d ∧ ∃ z, (d.zones[z]).handler = h ∧ (d.zones[z]).state = .active ∧
        ∃ p, s.wm.zoneCo2Point z = some p ∧ s.wm.pointKind p = .co2 ∧ (s.point p).state = .valid ∧ s.wm.co2Limit < (s.point p).value
      let counted : Renewal := { x with balance := x.balance - 1, interval := 100000 * s.wm.renewalInterval }
      ∃ t, exec (.intervalExpiry h) s = .next t ∧ t = { s with rs := t.rs, hs := t.hs, bus := t.bus, lu := t.lu } ∧
        (helps → t.renewal h = { counted with state := .renewing, kind := some .economy, timer := 100000 * s.wm.renewalDuration }) ∧
        (¬ helps → stale →
          t.renewal h = { counted with state := .renewing, kind := some .airQuality, timer := 100000 * s.wm.renewalDuration }) ∧
        (helps ∨ stale → (t.handler h).fresh = 1000 ∧ (t.handler h).blower = max (s.handler h).baseBlower s.hs.air.renewalBlower) ∧
        (¬ helps → ¬ stale → t.renewal h = counted ∧ t.hs = s.hs ∧ t.bus = s.bus))

/-! ### Sensing (05) -/

/-- TRIM, TRIM_INTERVAL_EXPIRY, SCAN_GAP_EXPIRY and POINT_STALE (R78, R80, R81, R86, R89, R90, R96): the named banks are queued for a full
trim unless a trim is under way; at the interval every idle bank that is not failed is queued for a short trim; a pass begins with its
supply conversion, its list and its gap; a stale VALID point becomes HELD with its value kept. The model's choices here: logs 3, 5. -/
def Obligations.SensingMomentsAndTrimRequests : Prop :=
  ∀ s : State,
    (∀ v : Byte, s.Served → 4 ≤ v.toNat → exec (.trim v) s = .next { s with lu := s.lu.replied 0x30 [v] [7] }) ∧
    (∀ v : Byte, s.Served → v.toNat ≤ 3 → (∃ b, (s.bank b).trim ≠ .idle) →
      exec (.trim v) s = .next { s with lu := s.lu.replied 0x30 [v] [3] }) ∧
    (∀ v : Byte, s.Served → v.toNat ≤ 3 → (∀ b, (s.bank b).trim = .idle) → ∃ t, exec (.trim v) s = .next t ∧
      t = { s with
        su := { s.su with banks := t.su.banks }
        lu := s.lu.replied 0x30 [v] ([0] ++ num8 (t.bank 0).trim.code ++ num8 (t.bank 1).trim.code ++ num8 (t.bank 2).trim.code) } ∧
      ∀ b : Fin 3, t.bank b = { s.bank b with trim := if v.toNat = 3 ∨ v.toNat = b then .fullQueued else .idle }) ∧
    (s.su.trimTimer = none → exec .trimIntervalExpiry s = .next s) ∧
    (s.su.trimTimer.isSome → ∃ t, exec .trimIntervalExpiry s = .next t ∧
      t = { s with su := { s.su with trimTimer := some (100000 * s.wm.trimInterval), banks := t.su.banks } } ∧
      ∀ b, t.bank b = { s.bank b with
        trim := if (s.bank b).trim = .idle ∧ (s.bank b).failed = false then .shortQueued else (s.bank b).trim }) ∧
    (s.su.gapTimer = none → exec .scanGapExpiry s = .next s) ∧
    (s.su.gapTimer.isSome → exec .scanGapExpiry s = .next { s with su := { s.su with
      pass := .supply s.wm.scanList, gapTimer := none, scanGap := s.wm.scanGap, passCut := false, passNext := false } }) ∧
    (∀ p, (s.point p).state ≠ .valid → exec (.pointStale p) s = .next s) ∧
    (∀ p, (s.point p).state = .valid → exec (.pointStale p) s = .next { s with su := { s.su with
      points := s.su.points.set p { s.point p with
        state := .held
        age := max (s.point p).age (match s.wm.pointSource p with
          | .tap _ => 51
          | .slot _ _ => 151) } } })

/-- SUPPLY_CONVERSION (R78, R80, R81, R83, R84, R86, R91): below 1075 a NORMAL supply goes LOW with its event and the VALID tap points are held;
from 1112 a LOW supply is NORMAL again with its event. A LOW supply ends the pass; otherwise the queued trim of the lowest-numbered bank
begins with its quiet; without one the pass goes on to its list in RUN and STANDBY. A pass that ends is followed by the gap of the state, or
by the next pass at once where a state change asked for it. The model's choices here: logs 5, 41. -/
def Obligations.SupplyWatch : Prop :=
  ∀ (s : State) (code : Code) (list : List (Fin 24)), s.su.pass = .supply list →
    let low := (s.su.supply = .normal ∧ code.toNat < 1075) ∨ (s.su.supply = .low ∧ code.toNat < 1112)
    let trimming := s.sc.opState = .loading ∨ s.sc.opState = .waking
    let stays := ¬ trimming ∨ ∃ b, (s.bank b).trim ≠ .idle
    let queued (b : Fin 3) := (s.bank b).trim = .fullQueued ∨ (s.bank b).trim = .shortQueued
    let holds (held : Fin 32 → Prop) (t : State) := ∀ p,
      (held p → (s.point p).state = .valid → t.point p = { s.point p with state := .held }) ∧
      (¬ held p ∨ (s.point p).state ≠ .valid → t.point p = s.point p)
    let onTap (banks : Fin 24 → Prop) (p : Fin 32) := s.wm.pointEnabled p = true ∧ ∃ i, s.wm.pointSource p = .tap i ∧ banks i
    let ends (t : State) :=
      (s.su.passNext = false → t.su.pass = .none ∧ t.su.gapTimer = match s.sc.opState with
        | .loading | .waking => some 1000
        | .run => some (100 * s.su.scanGap)
        | .standby => some 1000000
        | .parked => none) ∧
      (s.su.passNext = true → t.su.pass = .supply s.wm.scanList ∧ t.su.gapTimer = none ∧ t.su.scanGap = s.wm.scanGap)
    let left := list.filter fun i => !(s.bank ⟨i.val / 8, by omega⟩).failed
    ∃ t, exec (.supplyConversion code) s = .next t ∧ t.su.supplyCode = code.toNat ∧
      (stays → t = { s with su := t.su, lu := t.lu }) ∧
      (low → t.su.supply = .low) ∧ (¬ low → t.su.supply = .normal) ∧
      (s.su.supply = .normal → low → holds (onTap fun _ => True) t ∧
        t.lu.event .supplyLow = { s.lu.event .supplyLow with latched := true, subject := 0, value := code.toNat } ∧
        (stays → ∀ k, k ≠ .supplyLow → t.lu.event k = s.lu.event k)) ∧
      (s.su.supply = .low → ¬ low →
        t.lu.event .supplyOk = { s.lu.event .supplyOk with latched := true, subject := 0, value := code.toNat } ∧
        (stays → ∀ k, k ≠ .supplyOk → t.lu.event k = s.lu.event k)) ∧
      ((s.su.supply = .normal ∧ ¬ low) ∨ (s.su.supply = .low ∧ low) → stays → ∀ k, t.lu.event k = s.lu.event k) ∧
      (s.su.supply = .low → low → t.su.points = s.su.points) ∧
      (low → ∀ b, t.bank b = s.bank b) ∧
      (low ∨ s.su.passCut = true → stays → ends t) ∧
      (trimming → (∀ b, (s.bank b).trim = .idle) → t.sc = { s.sc with opState := .run, cadence := s.sc.pendingCadence }) ∧
      (¬ low → s.su.passCut = false → ∀ b, queued b → (∀ b', b' < b → ¬ queued b') →
        t.su.pass = .trim b (decide ((s.bank b).trim = .fullQueued)) list ∧ t.bank b = { s.bank b with trim := .running } ∧
        (∀ b', b' ≠ b → t.bank b' = s.bank b') ∧ holds (onTap fun i => i.val / 8 = b.val) t) ∧
      (¬ low → s.su.passCut = false → (∀ b, ¬ queued b) → t.su.banks = s.su.banks ∧ t.su.points = s.su.points ∧
        (s.sc.opState = .run ∨ s.sc.opState = .standby → (left ≠ [] → t.su.pass = .list left) ∧ (left = [] → ends t)))

/-- FULL_TRIM and SHORT_TRIM (R81, R86 to R89, R91, R134): a full trim installs its correction when it is in range, else the bank fails with
TRIM_LIMIT and its points are FAILED with run count 0; a short trim moves each correction one step. In RUN and STANDBY the pass goes on to its
list without the bank; in LOADING and WAKING it ends, and with every bank IDLE the part enters RUN with the pending cadence. The model's
choices here: logs 5, 48. -/
def Obligations.TrimsEnd : Prop :=
  ∀ (s : State) (b : Fin 3) (list : List (Fin 24)),
    let trimming := s.sc.opState = .loading ∨ s.sc.opState = .waking
    let complete := trimming ∧ ∀ b', b' ≠ b → (s.bank b').trim = .idle
    let left := list.filter fun i => decide (i.val / 8 ≠ b.val) && !(s.bank ⟨i.val / 8, by omega⟩).failed
    let after (t : State) :=
      (¬ complete → t = { s with su := t.su, lu := t.lu }) ∧
      (s.sc.opState = .run ∨ s.sc.opState = .standby → s.su.passCut = false → left ≠ [] → t.su.pass = .list left) ∧
      (¬ complete → trimming ∨ s.sc.opState = .parked ∨ s.su.passCut = true ∨ left = [] →
        (s.su.passNext = false → t.su.pass = .none ∧ t.su.gapTimer = match s.sc.opState with
          | .loading | .waking => some 1000
          | .run => some (100 * s.su.scanGap)
          | .standby => some 1000000
          | .parked => none) ∧
        (s.su.passNext = true → t.su.pass = .supply s.wm.scanList ∧ t.su.gapTimer = none ∧ t.su.scanGap = s.wm.scanGap)) ∧
      (complete →
        t = { s with
          zr := { s.zr with cycleTimer := t.zr.cycleTimer }, su := t.su, ml := t.ml, lu := t.lu
          hs := { s.hs with
            handlers := t.hs.handlers, accountTimer := some 100000, air := ⟨s.wm.bMin, s.wm.renewalBlower, s.wm.dMin, s.wm.fMin⟩ }
          sc := { s.sc with opState := .run, cadence := s.sc.pendingCadence } } ∧
        t.zr.cycleTimer = some (match s.sc.pendingCadence with
          | .full => 100000
          | .half => 200000) ∧
        (∀ h, (t.handler h).mode = (s.handler h).mode) ∧
        t.su.trimTimer = some (100000 * s.wm.trimInterval) ∧ t.su.pass = .supply s.wm.scanList ∧ t.su.gapTimer = none ∧
        t.su.scanGap = s.wm.scanGap ∧ (s.ml.line = .off → s.ml.hostEnable = .on → t.ml.line = .on) ∧
        (s.ml.line ≠ .off ∨ s.ml.hostEnable = .off → t.ml = s.ml))
    (∀ low high : Vector Code 32, s.su.pass = .trim b true list →
      let lo := ((low.toList.map BitVec.toNat).sum + 16) / 32
      let hi := ((high.toList.map BitVec.toNat).sum + 16) / 32
      let span : Int := (hi : Int) - lo
      let g := roundHalfAway (4096 * (3072 - span)) span
      let o := 512 - (lo : Int) - Int.fdiv (lo * g + 2048) 4096
      let inRange := 0 < span ∧ -128 ≤ g ∧ g ≤ 127 ∧ -64 ≤ o ∧ o ≤ 63
      ∃ t, exec (.fullTrim low high) s = .next t ∧ after t ∧
        (inRange → t.bank b = ⟨o, g, false, .idle, .full, .installed, lo, hi⟩ ∧ t.su.points = s.su.points) ∧
        (¬ inRange →
          t.bank b = { s.bank b with failed := true, trim := .idle, lastTrim := .full, lastOutcome := .limit, mLo := lo, mHi := hi } ∧
          t.lu.event .trimLimit = { s.lu.event .trimLimit with
            latched := true, subject := b
            value := if span ≤ 0 then 0 else if g < -128 ∨ 127 < g then max (-32768) (min 32767 g) else o } ∧
          ∀ p i, s.wm.pointEnabled p = true → s.wm.pointSource p = .tap i → i.val / 8 = b.val →
            (t.point p).state = .failed ∧ (t.point p).run = 0) ∧
        ∀ b', b' ≠ b → t.bank b' = s.bank b') ∧
    (∀ low high : Vector Code 4, s.su.pass = .trim b false list →
      let lo := ((low.toList.map BitVec.toNat).sum + 2) / 4
      let hi := ((high.toList.map BitVec.toNat).sum + 2) / 4
      let span : Int := (hi : Int) - lo
      let g := roundHalfAway (4096 * (3072 - span)) span
      let o := 512 - (lo : Int) - Int.fdiv (lo * g + 2048) 4096
      let step (x target : Int) := if x < target then x + 1 else if target < x then x - 1 else x
      ∃ t, exec (.shortTrim low high) s = .next t ∧ after t ∧
        t.bank b = { s.bank b with
          offset := if 0 < span then max (-64) (min 63 (step (s.bank b).offset o)) else (s.bank b).offset
          gain := if 0 < span then max (-128) (min 127 (step (s.bank b).gain g)) else (s.bank b).gain
          trim := .idle, lastTrim := .short, lastOutcome := .stepped, mLo := lo, mHi := hi } ∧
        t.su.points = s.su.points ∧ ∀ b', b' ≠ b → t.bank b' = s.bank b')

/-- TAP_READING (R81, R82, R85, R93 to R95): the reading of the next list entry is corrected and linearised for every enabled point on the
tap, by its kind; each takes it by its state; every other point stays. The pass goes on to the entries left; at the end of the list it ends,
and the gap of the state follows, or the next pass at once where a state change asked for it. The model's choices here: logs 5, 19. -/
def Obligations.TapReadingsReachTheirPoints : Prop :=
  ∀ (s : State) (i : Fin 24) (rest : List (Fin 24)) (raw : Code), s.su.pass = .list (i :: rest) →
    s.sc.opState ≠ .loading → s.sc.opState ≠ .waking →
    let b : Bank := s.bank ⟨i.val / 8, by omega⟩
    let c := (max 0 (min 4095 (raw.toNat + b.offset + Int.fdiv (raw.toNat * b.gain + 2048) 4096))).toNat
    let good := 16 ≤ raw.toNat ∧ raw.toNat ≤ 4079
    ∃ t, exec (.tapReading raw) s = .next t ∧ t = { s with su := t.su, lu := t.lu } ∧ t.su.banks = s.su.banks ∧
      (rest ≠ [] → s.su.passCut = false → t.su.pass = .list rest ∧ t.su.gapTimer = s.su.gapTimer) ∧
      (rest = [] ∨ s.su.passCut = true →
        (s.su.passNext = false → t.su.pass = .none ∧ t.su.gapTimer = match s.sc.opState with
          | .run => some (100 * s.su.scanGap)
          | .standby => some 1000000
          | .loading | .waking | .parked => none) ∧
        (s.su.passNext = true → t.su.pass = .supply s.wm.scanList ∧ t.su.gapTimer = none ∧ t.su.scanGap = s.wm.scanGap)) ∧
      ∀ p, let x := s.point p
        let curve (n : Nat) : Int := s.wm.int ((if s.wm.int (200 + 5 * p.val + 3) = 1 then 465 else 432) + n)
        let v : Int := match s.wm.pointKind p with
          | .temp => curve (c / 128) + Int.fdiv ((curve (c / 128 + 1) - curve (c / 128)) * (c % 128 : Nat) + 64) 128
          | .co2 => Int.fdiv (c * 5000 + 2048) 4095
          | .level => Int.fdiv (c * 1000 + 2048) 4095
        let taken := s.wm.pointEnabled p = true ∧ s.wm.pointSource p = .tap i
        (¬ taken → t.point p = x) ∧
        (taken → good → x.state = .pending → t.point p = ⟨v, .valid, 0, 0⟩) ∧
        (taken → good → (x.state = .valid ∨ x.state = .held) → s.wm.pointShift p = 0 → t.point p = ⟨v, .valid, 0, 0⟩) ∧
        (taken → good → (x.state = .valid ∨ x.state = .held) → ∀ k, s.wm.pointShift p = k + 1 →
          t.point p = ⟨x.value + Int.fdiv (v - x.value + 2 ^ k) (2 ^ (k + 1)), .valid, 0, 0⟩) ∧
        (taken → good → x.state = .failed → x.run < 2 → t.point p = { x with run := x.run + 1, age := 0 }) ∧
        (taken → good → x.state = .failed → x.run = 2 →
          t.point p = ⟨v, .valid, 0, 0⟩ ∧ (t.lu.event .sensorRestored).latched = true) ∧
        (taken → ¬ good → x.state ≠ .absent → t.point p = { x with state := .failed, age := 0, run := 0 }) ∧
        (taken → ¬ good → (x.state = .pending ∨ x.state = .valid ∨ x.state = .held) → (t.lu.event .sensorFailed).latched = true)

/-- MAP_POINT (R98, R167): the checks in their order, a point number above 31 among them; an accepted change writes the point's five settings,
moves its state by the first row that applies and answers the five bytes and the state. The model's choices here: logs 8, 14, 20, 55. -/
def Obligations.MapPointChangesAPoint : Prop :=
  ∀ (s : State) (p : Fin 32) (en so ki cu sh : Byte), s.Served →
    let pb : Byte := BitVec.ofNat 8 p
    let payload := [pb, en, so, ki, cu, sh]
    let good := en.toNat ≤ 1 ∧ (so.toNat ≤ 23 ∨ (32 ≤ so.toNat ∧ so.toNat ≤ 63)) ∧ ki.toNat ≤ 2 ∧ cu.toNat ≤ 1 ∧ sh.toNat ≤ 6
    let locked := ∃ f, f < 5 ∧ 200 + 5 * p.val + f ∈ s.wm.locks
    let was (f : Nat) := s.wm.word (200 + 5 * p.val + f)
    let now (f : Nat) : Word16 := ([en, so, ki, cu, sh].getD f 0).setWidth 16
    let settings (w : WorkingMemory) := (List.range 5).flatMap fun f => num8 (w.nat (200 + 5 * p.val + f))
    (∀ far : Byte, 32 ≤ far.toNat → exec (.mapPoint far en so ki cu sh) s =
      .next { s with lu := s.lu.replied 0x31 [far, en, so, ki, cu, sh] [7] }) ∧
    (¬ good → exec (.mapPoint pb en so ki cu sh) s = .next { s with lu := s.lu.replied 0x31 payload [7] }) ∧
    (good → locked → exec (.mapPoint pb en so ki cu sh) s =
      .next { s with lu := s.lu.replied 0x31 payload ([6] ++ settings s.wm ++ num8 (s.point p).state.code) }) ∧
    (good → ¬ locked → s.sc.opState = .run → (now 0 ≠ was 0 ∨ now 2 ≠ was 2 ∨ now 3 ≠ was 3) →
      exec (.mapPoint pb en so ki cu sh) s =
        .next { s with lu := s.lu.replied 0x31 payload ([4] ++ settings s.wm ++ num8 (s.point p).state.code) }) ∧
    (good → ¬ locked → (∀ f, f < 5 → now f = was f) → exec (.mapPoint pb en so ki cu sh) s =
      .next { s with lu := s.lu.replied 0x31 payload ([0] ++ settings s.wm ++ num8 (s.point p).state.code) }) ∧
    (good → ¬ locked → (s.sc.opState = .standby ∨ (now 0 = was 0 ∧ now 2 = was 2 ∧ now 3 = was 3)) →
      (∃ f, f < 5 ∧ now f ≠ was f) → ∃ t, exec (.mapPoint pb en so ki cu sh) s = .next t ∧
        t = { s with
          pl := { s.pl with wm := { s.wm with params := t.wm.params } }, su := { s.su with points := t.su.points }, lu := t.lu } ∧
        t.lu = { s.lu with events := t.lu.events, queue := t.lu.queue }.replied 0x31 payload
          ([0, en, so, ki, cu, sh] ++ num8 (t.point p).state.code) ∧
        (∀ n, n < 512 → t.wm.word n = if 200 + 5 * p.val ≤ n ∧ n < 205 + 5 * p.val then now (n - (200 + 5 * p.val)) else s.wm.word n) ∧
        (∀ q, q ≠ p → t.point q = s.point q) ∧ (t.point p).value = (s.point p).value ∧ (t.point p).age = (s.point p).age ∧
        (en = 0 → was 0 = 1 → (t.point p).state = .absent ∧ (t.point p).run = 0) ∧
        (en = 1 → t.sourceFailed p ≠ none → (t.point p).state = .failed ∧ (t.point p).run = 0) ∧
        (en = 1 → t.sourceFailed p = none → (was 0 ≠ 1 ∨ t.wm.pointSource p ≠ s.wm.pointSource p ∨ now 2 ≠ was 2 ∨ now 3 ≠ was 3) →
          s.wm.valid = true → (t.point p).state = .pending ∧ (t.point p).run = 0) ∧
        (en = 1 → t.sourceFailed p = none → was 0 = 1 → now 1 = was 1 → now 2 = was 2 → now 3 = was 3 →
          t.point p = s.point p))

/-- DOOR_INPUT_CHANGE, DOOR_DEBOUNCE_EXPIRY and DOOR_TIMER_EXPIRY (R100, R101, R74): a level must stand 20 ms; an opening starts its
seconds, a closing ends them; at the door-credit time the opening is credited once, outside RUN without effect on a balance.
The model's choices here: logs 3, 5, 51. -/
def Obligations.DoorsAreDebouncedAndCounted : Prop :=
  ∀ (s : State) (d : Fin 4),
    let x := s.door d
    (∀ level, exec (.doorInputChange d level) s = .next { s with
      pins := { s.pins with doors := s.pins.doors.set d level }
      su := { s.su with doors := s.su.doors.set d { x with
        debounce := if level = x.state then none else if x.debounce.isSome then x.debounce else some 2000 } } }) ∧
    (x.debounce = none → exec (.doorDebounceExpiry d) s = .next s) ∧
    (x.debounce.isSome → s.pins.doors[d] ≠ x.state → s.sc.opState ≠ .standby ∨ s.sc.parkRequest = true → s.lu.Settled →
      exec (.doorDebounceExpiry d) s = .next { s with su := { s.su with
        doors := s.su.doors.set d ⟨s.pins.doors[d], none, 0, false, if s.pins.doors[d] = .opened then some 100000 else none⟩ } }) ∧
    (x.debounce.isSome → s.pins.doors[d] ≠ x.state → s.sc.opState = .standby → s.sc.parkRequest = false →
      ∃ t, exec (.doorDebounceExpiry d) s = .next t ∧
        t = { s with zr := t.zr, hs := t.hs, su := t.su, ml := t.ml, lu := t.lu, sc := t.sc } ∧ t.sc.opState = .run ∧
        t.door d = ⟨s.pins.doors[d], none, 0, false, if s.pins.doors[d] = .opened then some 100000 else none⟩) ∧
    (x.timer = none → exec (.doorTimerExpiry d) s = .next s) ∧
    (x.timer.isSome →
      let n := min 65535 (x.openSeconds + 1)
      let earned := x.credited = false ∧ s.wm.doorCreditTime ≤ n
      ∃ t, exec (.doorTimerExpiry d) s = .next t ∧
        t = { s with
          su := { s.su with doors := s.su.doors.set d { x with
            openSeconds := n, credited := x.credited || decide (s.wm.doorCreditTime ≤ n), timer := some 100000 } }
          rs := t.rs, hs := t.hs, bus := t.bus } ∧
        (¬ earned ∨ s.sc.opState ≠ .run → t.rs = s.rs ∧ t.hs = s.hs ∧ t.bus = s.bus) ∧
        (earned → s.sc.opState = .run → ∀ h, (t.renewal h).balance =
          if ∃ z, (s.zone z).enabled = true ∧ s.wm.zoneDoor z = some d ∧ s.wm.zoneHandler z = h
            then min 8 ((s.renewal h).balance + 1) else (s.renewal h).balance))

/-! ### Output channels (06) -/

/-- OVERRIDE (R108 to R110): the checks in their order; in RUN the override is set or released, and the effective value and the pending
compare follow by the channel's role; the compare in force waits for the period end. The model's choices here: log 14. -/
def Obligations.OverrideSetsTheEffectiveValue : Prop :=
  ∀ s : State, s.Served →
    (∀ (ch act : Byte) (v : Word16), (16 ≤ ch.toNat ∨ 2 ≤ act.toNat) →
      exec (.override ch act v) s = .next { s with lu := s.lu.replied 0x38 ([ch, act] ++ wordBytes v) [7] }) ∧
    ∀ (c : Fin 16) (set : Bool) (v : Word16),
      let x := s.channel c
      let ch : Byte := BitVec.ofNat 8 c
      let act : Byte := if set then 0 else 1
      let payload := [ch, act] ++ wordBytes v
      let fields (y : Channel) := [ch] ++ num8 y.role.code ++ orAbsent16 (y.override.map Int.ofNat) ++ num16 y.received
        ++ num16 y.effective ++ num16 y.pendingCompare ++ num16 y.compare
      ((x.role = .none ∨ (set = true ∧ 1000 < v.toNat)) →
        exec (.override ch act v) s = .next { s with lu := s.lu.replied 0x38 payload [7] }) ∧
      (x.role ≠ .none → ¬ (set = true ∧ 1000 < v.toNat) → s.sc.opState = .standby →
        exec (.override ch act v) s = .next { s with lu := s.lu.replied 0x38 payload ([4] ++ fields x) }) ∧
      (x.role ≠ .none → ¬ (set = true ∧ 1000 < v.toNat) → s.sc.opState = .run → ∀ e y,
        e = (match x.role with
          | .zoneReheat _ => if set then min v.toNat x.received else x.received
          | .spare => if set then v.toNat else 0
          | _ => if set then v.toNat else x.received) →
        y = { x with
          override := if set then some v.toNat else none, effective := e, pendingCompare := (e * x.modulus + 500) / 1000 } →
        exec (.override ch act v) s = .next { s with
          ou := { s.ou with channels := s.ou.channels.set c y }, lu := s.lu.replied 0x38 payload ([0] ++ fields y) })

/-- OU_VALUE_RECEIVED (R106 to R109, R111): in RUN every bound channel of the role takes the value, its override deciding what of it takes
effect; every other channel stays. Outside RUN the value is discarded. The model's choices here: logs 2, 59. -/
def Obligations.ValuesReachTheirChannels : Prop :=
  ∀ (s : State) (r : Role) (v : Nat) (rest : List (Role × Nat)), s.bus.ouValues = (r, v) :: rest →
    (s.sc.opState ≠ .run → exec .ouValueReceived s = .next { s with bus := { s.bus with ouValues := rest } }) ∧
    (s.sc.opState = .run → ∃ t, exec .ouValueReceived s = .next t ∧
      t = { s with bus := { s.bus with ouValues := rest }, ou := { s.ou with channels := t.ou.channels } } ∧
      ∀ c, let x := s.channel c
        (¬ (x.role = r ∧ x.bound = true) → t.channel c = x) ∧
        (x.role = r → x.bound = true → ∀ e, e = (match x.role, x.override with
            | .zoneReheat _, some o => min o v
            | .spare, some o => o
            | .spare, none => 0
            | .none, _ => 0
            | _, some o => o
            | _, none => v) →
          t.channel c = { x with received := v, effective := e, pendingCompare := (e * x.modulus + 500) / 1000 }))

/-- PERIOD_END and COMPARE_REACHED (R104, R105): once the load is complete, the pending settings and the pending compare take force and
a new period begins at 0; at the compare the output goes inactive. Before it no period ends and every pin is low (R103); after it the pin
is high while the output is active, or with inverted polarity while it is not. The model's choices here: log 36. -/
def Obligations.PeriodsEndAndCompare : Prop :=
  ∀ (s : State) (c : Fin 16),
    let x := s.channel c
    let put (y : Channel) : State := { s with ou := { s.ou with channels := s.ou.channels.set c y } }
    (s.pl.loadState ≠ .loaded → exec (.periodEnd c) s = .next s) ∧
    (s.pl.loadState = .loaded → ∀ m v, m = x.newModulus.getD x.modulus →
      v = (if m = x.modulus then x.pendingCompare else (x.effective * m + 500) / 1000) →
      exec (.periodEnd c) s = .next (put { x with
        modulus := m, step := x.newStep.getD x.step, polarity := x.newPolarity.getD x.polarity, newModulus := none, newStep := none
        newPolarity := none, pendingCompare := v, compare := v, counter := 0, prescale := 0 })) ∧
    (s.pl.loadState = .loaded → x.counter < x.compare → x.compare < x.modulus → ∃ y,
      exec (.compareReached c) s = .next (put y) ∧ x.active = true ∧ y.active = false ∧
      y = { x with counter := x.compare, prescale := 0 }) ∧
    (x.compare ≤ x.counter → exec (.compareReached c) s = .next s) ∧
    (s.pl.loadState ≠ .loaded → s.pinLevel c = false) ∧
    (s.pl.loadState = .loaded → s.pinLevel c = match x.polarity with
      | .normal => decide (x.counter < x.compare)
      | .inverted => decide (x.compare ≤ x.counter))

/-! ### The module line (07) -/

/-- PASS and PASS_RESULT (R126 to R128): the checks in their order; an accepted transaction waits behind the exchange on the line, or
goes out at once on a line that is free; a finished one is collected once. The model's choices here: logs 14, 24, 43. -/
def Obligations.PassRequestsUseTheRecord : Prop :=
  ∀ s : State, s.Served →
    (∀ sl op it v, ¬ (1 ≤ sl.toNat ∧ sl.toNat ≤ 8 ∧ op.toNat ≤ 1) →
      exec (.pass sl op it v) s = .next { s with lu := s.lu.replied 0x40 ([sl, op, it] ++ wordBytes v) [7] }) ∧
    (∀ (i : Fin 8) (write : Bool) (it : Byte) (v : Word16),
      let sl : Byte := BitVec.ofNat 8 (i.val + 1)
      let op : Byte := if write then 1 else 0
      let answer (l : LU) (content : List Byte) := l.replied 0x40 ([sl, op, it] ++ wordBytes v) content
      let locked := write = true ∧ ∃ h, s.wm.slotKind i = .compressorDrive h ∧
        ((s.handler h).mode = .heat ∨ (s.handler h).mode = .cool ∨ (s.handler h).mode = .defrost)
      let record (st : PassState) : PassRecord :=
        ⟨st, some i, some (if write then .write else .read), some it, if write then some v else none, none, none, none⟩
      (s.wm.slotKind i = .none → exec (.pass sl op it v) s = .next { s with lu := answer s.lu [7] }) ∧
      (s.wm.slotKind i ≠ .none → s.ml.line ≠ .on →
        exec (.pass sl op it v) s = .next { s with lu := answer s.lu ([9] ++ num8 s.ml.pass.state.code) }) ∧
      (s.wm.slotKind i ≠ .none → s.ml.line = .on → s.ml.pass.state ≠ .empty →
        exec (.pass sl op it v) s = .next { s with lu := answer s.lu ([3] ++ num8 s.ml.pass.state.code) }) ∧
      (s.wm.slotKind i ≠ .none → s.ml.line = .on → s.ml.pass.state = .empty → locked →
        exec (.pass sl op it v) s = .next { s with lu := answer s.lu [6, 0] }) ∧
      (s.wm.slotKind i ≠ .none → s.ml.line = .on → s.ml.pass.state = .empty → ¬ locked → s.ml.exchange.isSome →
        exec (.pass sl op it v) s = .next { s with ml := { s.ml with pass := record .queued }, lu := answer s.lu [0, 1] }) ∧
      (s.wm.slotKind i ≠ .none → s.ml.line = .on → s.ml.pass.state = .empty → ¬ locked → s.ml.exchange = none →
        s.ml.drivePending = Vector.replicate 2 false →
        exec (.pass sl op it v) s = .next { s with
          ml := { s.ml with
            pass := record .inFlight, response := none
            exchange := some ⟨.passThrough, i, if write then .itemWrite it v else .itemRead it, false, .sending, false, false⟩ }
          lu := answer s.lu [0, 2] })) ∧
    (s.ml.pass.state = .empty → exec .passResult s = .next { s with lu := s.lu.replied 0x41 [] [4] }) ∧
    (s.ml.pass.state = .queued ∨ s.ml.pass.state = .inFlight →
      exec .passResult s = .next { s with lu := s.lu.replied 0x41 [] ([2] ++ num8 s.ml.pass.state.code) }) ∧
    (∀ (i : Fin 8) op it value o st ret, s.ml.pass = ⟨.done, some i, some op, some it, value, some o, st, ret⟩ →
      exec .passResult s = .next { s with
        ml := { s.ml with pass := ⟨.empty, none, none, none, none, none, none, none⟩ }
        lu := s.lu.replied 0x41 [] ([0] ++ num8 (i.val + 1) ++ num8 op.code ++ [it] ++ num8 o.code
          ++ (if o = .answered then orAbsent8 (st.map (·.code)) ++ wordBytes (ret.getD 0) else [])) })

/-- LINE_ENABLE (R24, R129, R130): OFF closes an open line, which makes both drives unavailable, stops every slot timer, flushes a
queued transaction and goes through CLOSING: the exchange on the line ends first, then each present drive gets its closing stop, and without
one the line is OFF. ON opens an OFF line in RUN and sets the silent slots to be probed; otherwise the setting alone changes.
The model's choices here: logs 5, 15. -/
def Obligations.LineEnableOpensAndCloses : Prop :=
  ∀ s : State, s.Served →
    (∀ v : Byte, 2 ≤ v.toNat → exec (.lineEnable v) s = .next { s with lu := s.lu.replied 0x42 [v] [7] }) ∧
    (s.sc.opState ≠ .run ∨ s.ml.line ≠ .off → exec (.lineEnable 0) s = .next { s with
      ml := { s.ml with hostEnable := .on }, lu := s.lu.replied 0x42 [0] ([0, 0] ++ num8 s.ml.line.code) }) ∧
    (s.ml.line ≠ .on → exec (.lineEnable 1) s = .next { s with
      ml := { s.ml with hostEnable := .off }, lu := s.lu.replied 0x42 [1] ([0, 1] ++ num8 s.ml.line.code) }) ∧
    (s.sc.opState = .run → s.ml.line = .off → ∃ t, exec (.lineEnable 0) s = .next t ∧
      t = { s with ml := t.ml, hs := t.hs, lu := t.lu } ∧ t.ml.line = .on ∧ t.ml.hostEnable = .on ∧
      (∀ i, s.wm.slotKind i ≠ .none → (s.slot i).state ≠ .present → (t.slot i).probeTimer = some 500000) ∧
      (∀ i, s.wm.slotKind i = .airMonitor → (s.slot i).state = .present → (t.slot i).readTimer = some 200000) ∧
      ∀ h, (t.handler h).driveAvailable = true ↔ ∃ i d, s.wm.driveSlotOf h = some i ∧ (s.slot i).state = .present ∧
        (s.slot i).drive = some d ∧ d.state ≠ .fault) ∧
    (s.ml.line = .on → ∃ t, exec (.lineEnable 1) s = .next t ∧
      t = { s with ml := t.ml, hs := t.hs, lu := t.lu } ∧ t.ml.line ≠ .on ∧ t.ml.hostEnable = .off ∧
      (let silent (h : Fin 2) : Bool := match s.wm.driveSlotOf h with
          | some i => decide ((s.slot i).state ≠ .present)
          | none => true
        let left : List (Fin 2) := [0, 1]
        (s.ml.exchange.isSome → t.ml.line = .closing ∧ t.ml.exchange = s.ml.exchange ∧ t.ml.closingLeft = left) ∧
        (s.ml.exchange = none → left.dropWhile silent = [] → t.ml.line = .off ∧ t.ml.exchange = none) ∧
        (s.ml.exchange = none → ∀ h rest, left.dropWhile silent = h :: rest → ∀ i, s.wm.driveSlotOf h = some i →
          t.ml.line = .closing ∧ t.ml.closingLeft = rest ∧ t.ml.exchange = some ⟨.closingStop h, i,
            .driveCommand false (if (s.handler h).lastMode = .cool then .cool else .heat) 0, false, .sending, false, false⟩)) ∧
      (∀ i, (t.slot i).probeTimer = none ∧ (t.slot i).readTimer = none ∧ (t.slot i).probeDue = false ∧ (t.slot i).readDue = false) ∧
      (∀ h, (t.handler h).driveAvailable = false ∧ t.ml.drivePending[h] = false ∧
        ((s.handler h).driveAvailable = true → (t.handler h).q = 0 ∧ (t.handler h).comp = .stopped)) ∧
      (∀ i, s.ml.pass.state = .queued → s.ml.pass.slot = some i → t.ml.pass.state = .done ∧ t.ml.pass.outcome = some .flushed ∧
        t.lu.event .passDone = { s.lu.event .passDone with latched := true, subject := i + 1, value := 2 }))

/-- MODULE_REQUEST_SENT, MODULE_ANSWER_GAP, MODULE_RESPONSE_TIMEOUT (R117, R119, R129) and the slot timers with the arbiter's grant (R120, R122,
R124, R125, R127): a request sent starts the timeout; a first try that fails makes a second; a second ends the exchange, and the third
failure in a row loses the slot and fails its points; a CLOSING line goes on to its next closing stop, and after the last to OFF or ON. A
slot timer sets what is due, and a free ON line goes to drive 0, drive 1, the pass-through, a monitor read, a probe, in this order.
The model's choices here: logs 3, 5, 45. -/
def Obligations.ExchangesAreTriedTwice : Prop :=
  ∀ s : State,
    let start (cls : ExchangeClass) (i : Fin 8) (r : ModuleRequest) : Exchange := ⟨cls, i, r, false, .sending, false, false⟩
    let silent (h : Fin 2) : Bool := match (s.handler h).driveSlot with
      | some i => decide ((s.slot i).state ≠ .present)
      | none => true
    let drives (h : Fin 2) (i : Fin 8) := s.ml.drivePending[h] = true ∧ (s.handler h).driveSlot = some i ∧ (s.slot i).state = .present
    let locked (i : Fin 8) := s.ml.pass.op = some .write ∧ ∃ h, s.wm.slotKind i = .compressorDrive h ∧
      ((s.handler h).mode = .heat ∨ (s.handler h).mode = .cool ∨ (s.handler h).mode = .defrost)
    let flushed := s.ml.pass.state = .queued ∧ ∃ i, s.ml.pass.slot = some i ∧ locked i
    let granted (c : Instr) (reads probes : Fin 8 → Bool) (timers : State → Prop) := ∃ t, exec c s = .next t ∧
      t = { s with ml := t.ml, lu := t.lu } ∧ timers t ∧ t.ml.drivePending[(0 : Fin 2)] = false ∧
      (∀ i, drives 0 i → t.ml.exchange = some (start (.drive 0) i (s.handler 0).driveCommand) ∧
        t.ml.drivePending[(1 : Fin 2)] = s.ml.drivePending[(1 : Fin 2)] ∧ t.ml.pass = s.ml.pass) ∧
      ((∀ i, ¬ drives 0 i) → t.ml.drivePending[(1 : Fin 2)] = false ∧
        (∀ i, drives 1 i → t.ml.exchange = some (start (.drive 1) i (s.handler 1).driveCommand) ∧ t.ml.pass = s.ml.pass) ∧
        ((∀ i, ¬ drives 1 i) →
          (∀ i, s.ml.pass.state = .queued → s.ml.pass.slot = some i → ¬ locked i →
            t.ml.exchange = some (start .passThrough i s.ml.pass.request) ∧ t.ml.pass = { s.ml.pass with state := .inFlight }) ∧
          (flushed → t.ml.pass.state = .done ∧ t.ml.pass.outcome = some .flushed ∧ (t.lu.event .passDone).latched = true) ∧
          (s.ml.pass.state ≠ .queued ∨ flushed →
            (∀ i, reads i = true → (∀ k, k < i → reads k = false) →
              t.ml.exchange = some (start .monitorRead i .readItems) ∧ (t.slot i).readDue = false) ∧
            ((∀ k, reads k = false) → ∀ i, probes i = true → (∀ k, k < i → probes k = false) →
              t.ml.exchange = some (start .probe i .probe) ∧ (t.slot i).probeDue = false))))
    (s.ml.exchange = none → exec .moduleRequestSent s = .next s ∧ exec .moduleAnswerGap s = .next s ∧
      exec .moduleResponseTimeout s = .next s) ∧
    (∀ x, s.ml.exchange = some x →
      (x.phase = .sending → exec .moduleRequestSent s = .next { s with
        ml := { s.ml with exchange := some { x with phase := .awaiting }, response := some 1000 } }) ∧
      (x.phase = .awaiting → exec .moduleAnswerGap s = .next { s with
        ml := { s.ml with exchange := some { x with phase := .abandoned } } }) ∧
      (x.phase ≠ .sending → x.secondTry = false → exec .moduleResponseTimeout s = .next { s with
        ml := { s.ml with exchange := some { x with secondTry := true, phase := .sending }, response := none } }) ∧
      (x.phase ≠ .sending → x.secondTry = true → ∃ t, exec .moduleResponseTimeout s = .next t ∧
        t = { s with ml := t.ml, su := t.su, hs := t.hs, lu := t.lu } ∧
        (x.detached = false → (s.slot x.slot).state = .present → (s.slot x.slot).failed < 2 → x.cls ≠ .probe →
          (t.slot x.slot).state = .present ∧ (t.slot x.slot).failed = (s.slot x.slot).failed + 1 ∧ t.su = s.su) ∧
        (x.detached = false → (s.slot x.slot).state = .present → 2 ≤ (s.slot x.slot).failed → x.cls ≠ .probe →
          (t.slot x.slot).state = .lost ∧ t.lu.event .moduleLost = { s.lu.event .moduleLost with
            latched := true, subject := x.slot + 1, value := (s.wm.slotKind x.slot).code } ∧
          ∀ p j, s.wm.pointEnabled p = true → s.wm.pointSource p = .slot x.slot j →
            (t.point p).state = .failed ∧ (t.point p).run = 0) ∧
        (x.detached = false → (s.slot x.slot).state ≠ .present → x.cls = .probe →
          (t.slot x.slot).state = (s.slot x.slot).state ∧ (t.slot x.slot).lastProbe = .noAnswer) ∧
        (x.cls = .passThrough → x.discard = false → t.ml.pass.state = .done ∧ t.ml.pass.outcome = some .noAnswer ∧
          (t.lu.event .passDone).latched = true) ∧
        (s.ml.line = .closing → (s.slot x.slot).failed < 2 →
          (s.ml.closingLeft.dropWhile silent = [] → t.ml.closingLeft = [] ∧
            t.ml.line = (if s.ml.hostEnable = .on ∧ s.sc.opState = .run then .on else .off)) ∧
          ∀ h rest, s.ml.closingLeft.dropWhile silent = h :: rest → ∀ i, (s.handler h).driveSlot = some i →
            t.ml.line = .closing ∧ t.ml.closingLeft = rest ∧ t.ml.exchange = some (start (.closingStop h) i
              (.driveCommand false (if (s.handler h).lastMode = .cool then .cool else .heat) 0))))) ∧
    (∀ i, (s.slot i).probeTimer = none → exec (.probeTimerExpiry i) s = .next s) ∧
    (∀ i, (s.slot i).readTimer = none → exec (.readTimerExpiry i) s = .next s) ∧
    (∀ i, (s.slot i).probeTimer.isSome → s.ml.line ≠ .on ∨ s.ml.exchange.isSome → s.lu.Settled →
      exec (.probeTimerExpiry i) s = .next { s with ml := { s.ml with
        slots := s.ml.slots.set i { s.slot i with probeTimer := some 500000, probeDue := true } } }) ∧
    (∀ i, (s.slot i).readTimer.isSome → s.ml.line ≠ .on ∨ s.ml.exchange.isSome → s.lu.Settled →
      exec (.readTimerExpiry i) s = .next { s with ml := { s.ml with
        slots := s.ml.slots.set i { s.slot i with readTimer := some 200000, readDue := true } } }) ∧
    (∀ i, (s.slot i).probeTimer.isSome → s.ml.line = .on → s.ml.exchange = none →
      granted (.probeTimerExpiry i) (fun k => (s.slot k).readDue) (fun k => decide (k = i) || (s.slot k).probeDue)
        fun t => (t.slot i).probeTimer = some 500000) ∧
    (∀ i, (s.slot i).readTimer.isSome → s.ml.line = .on → s.ml.exchange = none →
      granted (.readTimerExpiry i) (fun k => decide (k = i) || (s.slot k).readDue) (fun k => (s.slot k).probeDue)
        fun t => (t.slot i).readTimer = some 200000)

/-- MODULE_ANSWER_RECEIVED (R24, R95, R97, R117 to R120, R123, R124, R127, R173, R174): bytes that are no good answer, a wrong data length and
an unlisted code among them, change nothing; a good answer ends the exchange: drive data and monitor data are written, the items reach the
points on the slot, a probe finds its slot or another type, a transaction is DONE. The model's choices here: logs 29, 42, 44, 56, 57. -/
def Obligations.GoodModuleAnswersTakeEffect : Prop :=
  ∀ (s : State) (x : Exchange), s.ml.exchange = some x → x.phase = .awaiting →
    let reply (data : List Byte) := moduleFrame x.slot x.request.function data
    let answer (data : List Byte) := exec (.moduleAnswerReceived (reply data)) s
    let frame (t : State) := t = { s with ml := t.ml, su := t.su, hs := t.hs, lu := t.lu }
    let slot := s.slot x.slot
    let kind := s.wm.slotKind x.slot
    let taken (p : Fin 32) (item : Int) : Point :=
      let y := s.point p
      let v := match s.wm.pointKind p with
        | .temp => max (-400) (min 850 item)
        | .co2 => max 0 (min 5000 item)
        | .level => max 0 (min 1000 item)
      match y.state with
      | .absent => y
      | .pending => ⟨v, .valid, 0, 0⟩
      | .valid | .held => ⟨filtered (s.wm.pointShift p) y.value v, .valid, 0, 0⟩
      | .failed => if y.run < 2 then { y with run := y.run + 1, age := 0 } else ⟨v, .valid, 0, 0⟩
    let points (items : Fin 4 → Option Int) (t : State) := ∀ p, t.point p = match s.wm.pointSource p with
      | .tap _ => s.point p
      | .slot i j => if i = x.slot ∧ s.wm.pointEnabled p = true then ((items j).map (taken p)).getD (s.point p) else s.point p
    let fromPresent (items : List Int) (j : Fin 4) : Option Int := if slot.state = .present then items[j.val]? else none
    (∀ frame, (∀ data, frame ≠ reply data) → exec (.moduleAnswerReceived frame) s = .next s) ∧
    (∀ data, data.length ≠ (match x.request with
        | .driveCommand .. => 6
        | .readItems => 8
        | .probe | .itemRead _ | .itemWrite .. => 3) → answer data = .next s) ∧
    (∀ b c d : Byte, x.request = .probe → (3 ≤ b.toNat ∨ 3 ≤ c.toNat) → answer [b, c, d] = .next s) ∧
    (∀ (b : Byte) (bs : List Byte), ((∃ run dir cmd, x.request = .driveCommand run dir cmd) ∧ 3 ≤ b.toNat) ∨
        ((∃ item, x.request = .itemRead item ∨ ∃ v, x.request = .itemWrite item v) ∧ 2 ≤ b.toNat) → answer (b :: bs) = .next s) ∧
    (x.detached = false → x.cls ≠ .probe → ∀ run dir cmd, x.request = .driveCommand run dir cmd →
      ∀ (st : DriveState) (f a b c d : Byte), ∃ t, answer (num8 st.code ++ [f, a, b, c, d]) = .next t ∧ frame t ∧
        (t.slot x.slot).drive = some ⟨st, f, bytesWord a b, bytesWord c d⟩ ∧
        (slot.state = .present → (t.slot x.slot).failed = 0) ∧
        points (fromPresent [(bytesWord a b).toInt, (bytesWord c d).toInt, f.toNat, st.code]) t ∧
        (s.ml.line = .on → ∀ h, s.wm.driveSlotOf h = some x.slot →
          ((t.handler h).driveAvailable = true ↔ slot.state = .present ∧ st ≠ .fault)) ∧
        (st = .fault → (∀ y, slot.drive = some y → y.state ≠ .fault) → t.lu.event .driveFault = { s.lu.event .driveFault with
          latched := true, subject := x.slot + 1, value := f.toNat }) ∧
        (st ≠ .fault ∨ (∃ y, slot.drive = some y ∧ y.state = .fault) → t.lu.event .driveFault = s.lu.event .driveFault)) ∧
    (x.detached = false → x.cls = .monitorRead → x.request = .readItems → ∀ (a b c d e f g h : Byte),
      ∃ t, answer [a, b, c, d, e, f, g, h] = .next t ∧ frame t ∧
        (t.slot x.slot).monitor = some #v[bytesWord a b, bytesWord c d, bytesWord e f, bytesWord g h] ∧
        (slot.state = .present → (t.slot x.slot).failed = 0) ∧
        points (fromPresent [(bytesWord a b).toInt, (bytesWord c d).toInt, (bytesWord e f).toInt, (bytesWord g h).toInt]) t) ∧
    (x.detached = false → x.cls = .probe → x.request = .probe → ∀ (ty : ModuleType) (st : DriveState) (f : Byte),
      let fits := kind = .generic ∨ (kind = .airMonitor ∧ ty = .monitor) ∨ ((∃ h, kind = .compressorDrive h) ∧ ty = .drive)
      ∃ t, answer (num8 ty.code ++ num8 st.code ++ [f]) = .next t ∧ frame t ∧ points (fun _ => none) t ∧
        (t.slot x.slot).moduleType = some ty ∧
        (fits → (t.slot x.slot).state = .present ∧ (t.slot x.slot).failed = 0 ∧ (t.slot x.slot).lastProbe = .found ∧
          t.lu.event .moduleFound = { s.lu.event .moduleFound with latched := true, subject := x.slot + 1, value := ty.code } ∧
          ((∃ h, kind = .compressorDrive h) → ∀ y, y = slot.drive.getD ⟨st, f, 0, 0⟩ →
            (t.slot x.slot).drive = some { y with state := st, fault := f })) ∧
        (¬ fits → (t.slot x.slot).state = slot.state ∧ (t.slot x.slot).lastProbe = .wrongType)) ∧
    (x.cls = .passThrough → x.discard = false → ∀ item, (x.request = .itemRead item ∨ ∃ v, x.request = .itemWrite item v) →
      ∀ (st : ModuleStatus) (hi lo : Byte), ∃ t, answer (num8 st.code ++ [hi, lo]) = .next t ∧ frame t ∧
        t.ml.pass = { s.ml.pass with
          state := .done, outcome := some .answered, status := some st, returned := some (bytesWord hi lo) } ∧
        t.lu.event .passDone = { s.lu.event .passDone with latched := true, subject := x.slot + 1, value := 0 } ∧
        points (fun j => if x.detached = false ∧ st = .accepted ∧ kind = .generic ∧ slot.state = .present ∧ item.toNat = j.val
          then some (bytesWord hi lo).toInt else none) t)

/-! ### Operating states (08) -/

/-- STANDBY and RESUME (R4, R6, R23, R57, R71, R91, R111, R129, R134 to R136, R138): STANDBY in RUN stops regulation in every block
and drops the sets on their way (R135); RESUME in STANDBY starts it again with the pending cadence; each is answered in its own state
without effect. The model's choices here: logs 2, 5, 8, 48. -/
def Obligations.StandbyAndResume : Prop :=
  ∀ s : State, s.Served →
    let cadences := num8 s.sc.cadence.code ++ num8 s.sc.pendingCadence.code
    (s.sc.opState = .standby → exec .standby s = .next { s with lu := s.lu.replied 0x48 [] ([0, 2] ++ cadences) }) ∧
    (s.sc.opState = .run → exec .resume s = .next { s with lu := s.lu.replied 0x49 [] ([0, 1] ++ cadences) }) ∧
    (s.sc.opState = .standby → s.sc.parkRequest = true →
      exec .resume s = .next { s with lu := s.lu.replied 0x49 [] ([0, 2] ++ cadences) }) ∧
    (s.sc.opState = .standby → s.sc.parkRequest = false → ∃ t, exec .resume s = .next t ∧
      t = { s with
        zr := { s.zr with cycleTimer := t.zr.cycleTimer }, hs := { s.hs with
          handlers := t.hs.handlers, accountTimer := some 100000, air := ⟨s.wm.bMin, s.wm.renewalBlower, s.wm.dMin, s.wm.fMin⟩ }
        su := t.su, ml := t.ml, lu := t.lu, sc := { s.sc with opState := .run, cadence := s.sc.pendingCadence } } ∧
      t.zr.cycleTimer = some (match s.sc.pendingCadence with
        | .full => 100000
        | .half => 200000) ∧
      t.su.trimTimer = some (100000 * s.wm.trimInterval) ∧ t.su.points = s.su.points ∧ t.su.banks = s.su.banks ∧
      (∀ h, (t.handler h).mode = (s.handler h).mode) ∧
      (s.ml.line = .off → s.ml.hostEnable = .on → t.ml.line = .on) ∧ (s.ml.line ≠ .off → t.ml.line = s.ml.line) ∧
      (s.lu.transmitter = .idle → t.lu.transmitter = .sending .answer
        ⟨0xC9, [0, 1] ++ num8 s.sc.pendingCadence.code ++ num8 s.sc.pendingCadence.code⟩ [])) ∧
    (s.sc.opState = .run → ∃ t, exec .standby s = .next t ∧
      t = { s with
        zr := ⟨t.zr.zones, none, s.zr.cycleNo, false, false⟩, hs := t.hs, rs := { s.rs with renewals := t.rs.renewals }
        pa := { s.pa with record := t.pa.record }, su := t.su, ou := t.ou, ml := t.ml, lu := t.lu
        bus := { s.bus with
          demandSets := s.bus.demandSets.map fun d => ⟨true, d.set⟩, requestSets := s.bus.requestSets.map fun r => ⟨true, r.set⟩ }
        sc := { s.sc with opState := .standby } } ∧
      (∀ z, t.zone z = { s.zone z with grantedReheat := 0, limited := .none } ∧ t.hs.dampers[z] = 0) ∧
      t.hs.accountTimer = none ∧ t.hs.outstanding = false ∧ t.hs.cycleNo = s.hs.cycleNo ∧ t.pa.record.made = false ∧ t.pa.record.total = 0 ∧
      (∀ h, (t.handler h).mode = .idle ∧ (t.handler h).q = 0 ∧ (t.handler h).comp = .stopped ∧ (t.handler h).qReq = 0 ∧
        (t.handler h).blower = 0 ∧ (t.handler h).fresh = 0 ∧ (t.handler h).icing = (s.handler h).icing ∧
        ((s.handler h).comp = .running → (t.handler h).rest = 100000 * s.wm.restTime) ∧
        ((s.handler h).mode = .defrost → (t.handler h).lastEnd = .aborted ∧ (t.handler h).lastMode = .heat)) ∧
      (∀ h, (t.renewal h).state = .idle ∧ (t.renewal h).balance = (s.renewal h).balance ∧
        (t.renewal h).interval = (s.renewal h).interval ∧ ((s.renewal h).state ≠ .idle → (t.renewal h).lastEnd = .leftRun)) ∧
      t.su.trimTimer = none ∧ (∀ b, t.bank b = { s.bank b with
        trim := if (s.bank b).trim = .shortQueued then .idle else (s.bank b).trim }) ∧
      (∀ c, t.channel c = { s.channel c with compare := 0, pendingCompare := 0, received := 0, effective := 0, override := none }) ∧
      t.ml.line ≠ .on ∧
      (s.lu.transmitter = .idle → t.lu.transmitter = .sending .answer ⟨0xC8, [0, 2] ++ cadences⟩ []))

/-- PARK, CADENCE and RESTART as requests (R139, R140, R143): the checks in their order; an accepted PARK or RESTART takes effect only when
its answer has gone out; CADENCE sets the pending cadence in STANDBY alone. The model's choices here: logs 9, 14. -/
def Obligations.ParkCadenceAndRestartAreChecked : Prop :=
  ∀ s : State, s.Served →
    let cadences := num8 s.sc.cadence.code ++ num8 s.sc.pendingCadence.code
    let busy := (∃ b, (s.bank b).trim ≠ .idle) ∨ s.pl.saveState = .saving ∨ s.ml.line = .closing
    (s.sc.opState = .run → exec .park s = .next { s with lu := s.lu.replied 0x4A [] [4] }) ∧
    (s.sc.opState = .standby → busy → exec .park s = .next { s with lu := s.lu.replied 0x4A [] [3] }) ∧
    (s.sc.opState = .standby → ¬ busy → exec .park s = .next { s with
      sc := { s.sc with parkRequest := true, wakeHeld := false }
      lu := { s.lu with after := .park }.replied 0x4A [] ([0, 2, 1] ++ cadences) }) ∧
    (∀ v : Byte, 2 ≤ v.toNat → exec (.cadence v) s = .next { s with lu := s.lu.replied 0x4B [v] [7] }) ∧
    (∀ c : Cadence, let v : Byte := BitVec.ofNat 8 c.code
      (s.sc.opState = .run → exec (.cadence v) s = .next { s with lu := s.lu.replied 0x4B [v] ([4] ++ cadences) }) ∧
      (s.sc.opState = .standby → exec (.cadence v) s = .next { s with
        sc := { s.sc with pendingCadence := c }, lu := s.lu.replied 0x4B [v] ([0] ++ num8 s.sc.cadence.code ++ [v]) })) ∧
    (s.pl.saveState = .saving →
      exec .restart s = .next { s with lu := s.lu.replied 0x4C [] ([3] ++ num8 s.sc.opState.code ++ cadences) }) ∧
    (s.pl.saveState = .idle → exec .restart s = .next { s with
      lu := { s.lu with after := .restart }.replied 0x4C [] ([0] ++ num8 s.sc.opState.code ++ cadences) })

/-- PARK_ENTRY, WAKE_INPUT_CHANGE and WAKE_DEBOUNCE_EXPIRY (R137, R138, R141, R142): the entry to PARKED silences the link, ends the passes and
keeps the event set and the queue; a wake held, and a wake in PARKED, lead to WAKING with every bank queued; in STANDBY to RUN.
The model's choices here: logs 3, 5, 26. -/
def Obligations.ParkingAndWaking : Prop :=
  ∀ s : State,
    let silent := { s.lu with
      receiver := .hunting, gap := none, inHand := none, overrun := none, answer := none, overrunReject := none
      transmitter := .idle, after := .none }
    let zeroed (t : State) := ∀ c, t.channel c =
      { s.channel c with compare := 0, pendingCompare := 0, received := 0, effective := 0, override := none }
    let waking (t : State) := t.sc.opState = .waking ∧ t.sc.parkRequest = false ∧ t.sc.wakeHeld = false ∧
      t.sc.cadence = s.sc.cadence ∧ t.sc.pendingCadence = s.sc.pendingCadence ∧ (∀ b, t.bank b = { s.bank b with trim := .fullQueued }) ∧
      t.su.points = s.su.points ∧ zeroed t ∧ t = { s with sc := t.sc, su := t.su, ou := t.ou, lu := t.lu }
    let level := s.pins.wake
    (s.lu.after ≠ .park → exec .parkEntry s = .next s) ∧
    (s.lu.after = .park → s.sc.wakeHeld = false → ∃ t, exec .parkEntry s = .next t ∧ zeroed t ∧
      t = { s with
        sc := { s.sc with opState := .parked }, lu := silent, ou := { s.ou with channels := t.ou.channels }
        su := { s.su with gapTimer := none, passNext := false, passCut := decide (s.su.pass ≠ .none) } }) ∧
    (s.lu.after = .park → s.sc.wakeHeld = true → ∃ t, exec .parkEntry s = .next t ∧ waking t ∧
      t.lu.receiver = .hunting ∧ t.lu.inHand = none ∧ t.lu.events = s.lu.events) ∧
    (∀ l, exec (.wakeInputChange l) s = .next { s with
      pins := { s.pins with wake := l }
      sc := { s.sc with wakeDebounce :=
        if l = s.sc.wakeLine then none else if s.sc.wakeDebounce.isSome then s.sc.wakeDebounce else some 2000 } }) ∧
    (s.sc.wakeDebounce = none → exec .wakeDebounceExpiry s = .next s) ∧
    (s.sc.wakeDebounce.isSome → s.sc.wakeLine = .active ∨ level = .inactive →
      exec .wakeDebounceExpiry s = .next { s with sc := { s.sc with wakeDebounce := none, wakeLine := level } }) ∧
    (s.sc.wakeDebounce.isSome → s.sc.wakeLine = .inactive → level = .active →
      (s.lu.Settled → s.sc.opState = .loading ∨ s.sc.opState = .run ∨ s.sc.opState = .waking →
        exec .wakeDebounceExpiry s = .next { s with sc := { s.sc with wakeDebounce := none, wakeLine := .active } }) ∧
      (s.lu.Settled → s.sc.opState = .standby → s.sc.parkRequest = true →
        exec .wakeDebounceExpiry s = .next { s with sc := { s.sc with wakeDebounce := none, wakeLine := .active, wakeHeld := true } }) ∧
      (s.sc.opState = .standby → s.sc.parkRequest = false →
        ∃ t, exec .wakeDebounceExpiry s = .next t ∧
          t = { s with
            zr := t.zr, hs := t.hs, su := t.su, ml := t.ml, lu := t.lu
            sc := { s.sc with opState := .run, cadence := s.sc.pendingCadence, wakeDebounce := none, wakeLine := .active } }) ∧
      (s.sc.opState = .parked → ∃ t, exec .wakeDebounceExpiry s = .next t ∧ waking t ∧ t.lu.receiver = .hunting ∧
        t.lu.events = s.lu.events))

/-- RESTART_EFFECT (R2, R23, R25, R47, R57, R61, R81, R91, R111, R116, R134, R144): regulation starts afresh in every block, settings and live
values are kept, and the part is in RUN with the pending cadence; the next scan pass begins, or follows the one under way. The model's
choices here: logs 2, 3, 5, 9, 25, 54. -/
def Obligations.RestartTakesEffect : Prop :=
  ∀ s : State,
    (s.lu.after ≠ .restart → exec .restartEffect s = .next s) ∧
    (s.lu.after = .restart → ∃ t, exec .restartEffect s = .next t ∧
      t = { s with
        zr := t.zr, hs := t.hs, pa := { s.pa with record := t.pa.record }, rs := { s.rs with renewals := t.rs.renewals }, su := t.su
        ou := t.ou, ml := t.ml, lu := t.lu
        bus := { s.bus with
          demandSets := s.bus.demandSets.map fun d => ⟨true, d.set⟩, requestSets := s.bus.requestSets.map fun d => ⟨true, d.set⟩ }
        sc := { s.sc with opState := .run, cadence := s.sc.pendingCadence, parkRequest := false, wakeHeld := false } } ∧
      t.zr.cycleNo = 0 ∧ t.zr.outstanding = false ∧ t.zr.deferred = false ∧
      t.zr.cycleTimer = some (match s.sc.pendingCadence with
        | .full => 100000
        | .half => 200000) ∧
      (∀ z, t.zone z = {
        enabled := (s.zone z).enabled, setpoint := (s.zone z).setpoint
        state := if (s.zone z).enabled then .held else .off, substitute := none, tempUsed := none, integral := 0, demand := 0
        limited := .none, grantedReheat := 0 } ∧ t.hs.dampers[z] = 0) ∧
      t.hs.cycleNo = 0 ∧ t.hs.outstanding = false ∧ t.hs.accountTimer = some 100000 ∧
      (∀ h, (t.handler h).mode = .idle ∧ (t.handler h).q = 0 ∧ (t.handler h).qReq = 0 ∧ (t.handler h).net = 0 ∧
        (t.handler h).comp = .stopped ∧ (t.handler h).rest = 100000 * s.wm.restTime ∧ (t.handler h).icing = (s.handler h).icing ∧
        (t.handler h).defrostDue = (s.handler h).defrostDue ∧ (t.handler h).blower = 0 ∧ (t.handler h).fresh = 0) ∧
      t.pa.record.made = false ∧
      (∀ h, (t.renewal h).balance = 0 ∧ (t.renewal h).state = .idle ∧ (t.renewal h).interval = 100000 * s.wm.renewalInterval) ∧
      t.su.trimTimer = some (100000 * s.wm.trimInterval) ∧ t.su.points = s.su.points ∧ t.su.doors = s.su.doors ∧
      t.su.supply = s.su.supply ∧ (∀ b, t.bank b = { s.bank b with
        trim := if (s.bank b).trim = .shortQueued then .idle else (s.bank b).trim }) ∧
      (s.su.pass = .none → t.su.pass = .supply s.wm.scanList ∧ t.su.gapTimer = none ∧ t.su.scanGap = s.wm.scanGap) ∧
      (s.su.pass ≠ .none → t.su.pass = s.su.pass ∧ t.su.passNext = true) ∧
      (∀ c, t.channel c = { s.channel c with compare := 0, pendingCompare := 0, received := 0, effective := 0, override := none }) ∧
      t.ml.pass.state = .empty ∧ t.ml.hostEnable = s.ml.hostEnable ∧ (∀ i, (t.slot i).state = (s.slot i).state) ∧
      t.lu.queue = [] ∧ t.lu.after = .none ∧ t.lu.inHand = none ∧ ∀ k, (t.lu.event k).enable = (s.lu.event k).enable)

/-- HARD_RESET (R133, R169): every block takes its reset values, with the strap's link rate; the input levels, the EEPROM's bytes and the
waiting commands stay, and a save under way leaves the bytes of its page old or new. The model's choices here: logs 5, 10, 11, 13. -/
def Obligations.HardResetStartsAfresh : Prop :=
  ∀ (rate : LinkRate) (s : State), ∃ t, exec (.hardReset rate) s = .next t ∧
    t = { State.reset with
      lu := { State.reset.lu with rate := rate }, pins := s.pins, eeprom := t.eeprom, free := t.free, pending := s.pending
      sc := { State.reset.sc with wakeDebounce := if s.pins.wake = .active then some 2000 else none }
      su := { State.reset.su with doors := t.su.doors } } ∧
    (∀ d, t.door d = ⟨.closed, if s.pins.doors[d] = .opened then some 2000 else none, 0, false, none⟩) ∧
    (s.pl.saveState = .idle → t.eeprom = s.eeprom ∧ t.free = s.free) ∧
    (s.MemoryCanonical → ∀ a, a < 64 * s.pl.savePage ∨ 64 * s.pl.savePage + 64 ≤ a → t.eeprom.read a = s.eeprom.read a) ∧
    (s.MemoryCanonical → ∀ w, s.pl.snapshot = some w → ∀ a, a < w.image.length →
      t.eeprom.read a = s.eeprom.read a ∨ some (t.eeprom.read a) = w.image[a]?)

/-! ### The coach profile (10) -/

/-- PROFILE_LOAD_COMPLETE (R2, R22, R23, R61, R81, R92, R103, R107, R153, R162, R164): a good image or the built-in profile with
PROFILE_FAULT and its cause; every block takes it, once; the first scan pass begins; the report defaults become the enables, and the kinds
latched that they enable are queued in kind order, of which an idle transmitter takes the first. The model's choices here: logs 3, 5, 8,
10, 47. -/
def Obligations.LoadInstallsAProfile : Prop :=
  ∀ (ack : Bool) (s : State),
    (s.pl.loadState ≠ .loading → exec (.profileLoadComplete ack) s = .next s) ∧
    (s.pl.loadState = .loading → ∃ t, exec (.profileLoadComplete ack) s = .next t ∧
      t = { s with
        zr := { s.zr with zones := t.zr.zones }, hs := { s.hs with
          handlers := t.hs.handlers, air := ⟨t.wm.bMin, t.wm.renewalBlower, t.wm.dMin, t.wm.fMin⟩ }
        rs := { s.rs with renewals := t.rs.renewals }, su := t.su, ou := { s.ou with channels := t.ou.channels }, lu := t.lu
        pl := { s.pl with wm := t.wm, defaultFlag := t.pl.defaultFlag, loadState := .loaded } } ∧
      (s.eeprom.loadFault ack = none → t.wm = s.eeprom.profile ∧ t.pl.defaultFlag = false) ∧
      (∀ cause, s.eeprom.loadFault ack = some cause → t.wm = builtinProfile ∧ t.pl.defaultFlag = true ∧
        (t.lu.event .profileFault).latched = true ∧ (t.lu.event .profileFault).subject = 0 ∧
        (t.lu.event .profileFault).value = cause) ∧
      (ack = false → s.eeprom.loadFault ack = some 1) ∧
      (∀ k, (t.lu.event k).enable = (t.wm.word 29).getLsbD k.index) ∧
      (∀ z, t.zone z = {
        enabled := t.wm.zoneDefaultEnabled z, setpoint := t.wm.zoneDefaultSetpoint z
        state := if t.wm.zoneDefaultEnabled z then .held else .off, substitute := none, tempUsed := none, integral := 0, demand := 0
        limited := .none, grantedReheat := 0 }) ∧
      (∀ h, (t.handler h).rest = 100000 * t.wm.restTime ∧ (t.handler h).driveSlot = t.wm.driveSlotOf h ∧
        (t.renewal h).interval = 100000 * t.wm.renewalInterval) ∧
      (∀ k, k ≠ .profileFault → t.lu.event k = { s.lu.event k with enable := (t.wm.word 29).getLsbD k.index }) ∧
      (s.sc.opState = .loading → (∀ k, (s.lu.event k).enable = false) → s.lu.queue = [] → s.lu.after = .none → s.lu.answer = none →
        s.lu.overrunReject = none →
        let due := EventKind.all.filter fun k => (t.lu.event k).latched && (t.wm.word 29).getLsbD k.index
        (s.lu.transmitter ≠ .idle → t.lu.transmitter = s.lu.transmitter ∧ t.lu.queue = due.take 8) ∧
        (s.lu.transmitter = .idle → due = [] → t.lu.transmitter = .idle ∧ t.lu.queue = []) ∧
        (s.lu.transmitter = .idle → ∀ k rest, due = k :: rest → t.lu.queue = rest.take 7 ∧
          t.lu.transmitter = .sending .notice
            ⟨0xF1, num8 k.index ++ num8 (t.lu.event k).subject ++ int16 (t.lu.event k).value⟩ [])) ∧
      (s.su.pass = .none → t.su.pass = .supply t.wm.scanList ∧ t.su.gapTimer = none ∧ t.su.scanGap = t.wm.scanGap) ∧
      (∀ p, t.point p = { s.point p with state := if t.wm.pointEnabled p = false then .absent
        else if (∃ i, t.wm.pointSource p = .tap i ∧ (s.bank ⟨i.val / 8, by omega⟩).failed = true) ∨
            (∃ i j, t.wm.pointSource p = .slot i j ∧ (s.slot i).state ≠ .present) then .failed
        else .pending }) ∧
      ∀ c, t.channel c = { s.channel c with
        role := t.wm.channelRole c, modulus := t.wm.channelModulus c, step := t.wm.channelStep c, polarity := t.wm.channelPolarity c
        bound := match t.wm.channelRole c with
          | .blower _ | .freshDamper _ => true
          | .zoneDamper z => decide (t.wm.zoneDamper z = some c)
          | .zoneReheat z => decide (t.wm.zoneReheat z = some c)
          | .spare | .none => false })

/-- SET_PARAM (R98, R107, R112, R113, R121, R164, R166, R167): the checks in their order; an accepted value is written and nothing else of
working memory changes; channel settings wait as pending settings, a new role starts at 0, a zone's channel binds and unbinds channels, a
point's setting moves the point by the row that applies, a new slot kind starts its slot afresh and fails its points.
The model's choices here: logs 8, 14, 19, 20, 21, 61. -/
def Obligations.SetParamWritesOneParameter : Prop :=
  ∀ (num value : Word16) (s : State), s.Served →
    let n := num.toNat
    let answer (l : LU) (content : List Byte) := l.replied 0x51 (wordBytes num ++ wordBytes value) content
    let refused (code : Byte) := { s with lu := answer s.lu ([code] ++ wordBytes num ++ wordBytes (s.wm.word n)) }
    let locked := n ∈ s.wm.locks
    let accepted := inRange n value = true ∧ ¬ locked ∧ (structural n = false ∨ s.sc.opState = .standby)
    (inRange n value = false → exec (.setParam num value) s = .next { s with lu := answer s.lu [7] }) ∧
    (inRange n value = true → locked → exec (.setParam num value) s = .next (refused 6)) ∧
    (inRange n value = true → ¬ locked → structural n = true → s.sc.opState = .run →
      exec (.setParam num value) s = .next (refused 4)) ∧
    (accepted → s.wm.word n = value → exec (.setParam num value) s = .next (refused 0)) ∧
    (accepted → s.wm.word n ≠ value → ∃ t, exec (.setParam num value) s = .next t ∧
      t = { s with
        pl := { s.pl with wm := { s.wm with params := t.wm.params } }, hs := t.hs, su := t.su, ou := t.ou, ml := t.ml, lu := t.lu } ∧
      (∀ m, m < 512 → t.wm.word m = if m = n then value else s.wm.word m) ∧
      t.lu = answer { s.lu with events := t.lu.events, queue := t.lu.queue } ([0] ++ wordBytes num ++ wordBytes value) ∧
      (n < 200 ∨ (360 ≤ n ∧ n < 424) ∨ 432 ≤ n →
        t.hs = s.hs ∧ t.su = s.su ∧ t.ml = s.ml ∧ t.lu.events = s.lu.events ∧ t.lu.queue = s.lu.queue) ∧
      (n < 80 ∨ (n < 200 ∧ n % 10 ≠ 7 ∧ n % 10 ≠ 8) ∨ 432 ≤ n → t.ou = s.ou) ∧
      let binds (c : Fin 16) (r : Role) : Bool := match r with
        | .zoneDamper z => decide (t.wm.zoneDamper z = some c)
        | .zoneReheat z => decide (t.wm.zoneReheat z = some c)
        | .blower _ | .freshDamper _ => true
        | .spare | .none => false
      (80 ≤ n → n < 200 → (n % 10 = 7 ∨ n % 10 = 8) → ∀ c, let y := s.channel c
        let v := match y.role with
          | .zoneReheat _ | .none => 0
          | .spare | .zoneDamper _ | .blower _ | .freshDamper _ => y.override.getD 0
        t.channel c = if y.bound = true ∧ binds c y.role = false
          then { y with bound := false, received := 0, effective := v, pendingCompare := (v * y.modulus + 500) / 1000 }
          else { y with bound := binds c y.role }) ∧
      (∀ (c : Fin 16) (f : Fin 4), n = 360 + 4 * c.val + f.val → (∀ c', c' ≠ c → t.channel c' = s.channel c') ∧
        let y := s.channel c
        let step : ChannelStep := if value = 0 then .us10 else if value = 1 then .us100 else if value = 2 then .ms1 else .ms10
        let polarity : Polarity := if value = 0 then .normal else .inverted
        t.channel c =
          if f = 0 then { y with
            role := t.wm.channelRole c, received := 0, override := none, bound := binds c (t.wm.channelRole c), effective := 0
            pendingCompare := 0 }
          else if f = 1 then { y with newModulus := if value.toNat = y.modulus then none else some value.toNat }
          else if f = 2 then { y with newStep := if step = y.step then none else some step }
          else { y with newPolarity := if polarity = y.polarity then none else some polarity }) ∧
      (∀ (p : Fin 32) (f : Fin 5), n = 200 + 5 * p.val + f.val → t.hs = s.hs ∧ t.ou = s.ou ∧ t.ml = s.ml ∧
        t.su = { s.su with points := t.su.points } ∧ (∀ q, q ≠ p → t.point q = s.point q) ∧
        let y := s.point p
        let was := s.wm.pointEnabled p
        let now := t.wm.pointEnabled p
        let moved := was = false ∨ t.wm.pointSource p ≠ s.wm.pointSource p ∨ t.wm.pointKind p ≠ s.wm.pointKind p ∨
          t.wm.pointCurveB p ≠ s.wm.pointCurveB p
        (now = false → was = true → t.point p = { y with state := .absent, run := 0 }) ∧
        (now = false → was = false → t.point p = y) ∧
        (now = true → t.sourceFailed p ≠ none → t.point p = { y with state := .failed, run := 0 }) ∧
        (now = true → t.sourceFailed p = none → moved → t.point p = { y with state := .pending, run := 0 }) ∧
        (now = true → t.sourceFailed p = none → ¬ moved → t.point p = y)) ∧
      (∀ i : Fin 8, n = 424 + i.val → t.ou = s.ou ∧ (t.slot i).state = .absent ∧ (t.slot i).failed = 0 ∧ (t.slot i).drive = none ∧
        (t.slot i).monitor = none ∧ (∀ j, j ≠ i → t.slot j = s.slot j) ∧
        (∀ p j, s.wm.pointEnabled p = true → s.wm.pointSource p = .slot i j → (t.point p).state = .failed ∧ (t.point p).run = 0) ∧
        ∀ h, (t.handler h).driveSlot = t.wm.driveSlotOf h))

/-- SAVE_PROFILE, SAVE_PAGE_COMPLETE and SAVE_POLL_TIMEOUT (R168, R169): a save writes the snapshot page by page; it ends with PROFILE_SAVED
after the last page, with PROFILE_FAULT 7 at a page that reads back otherwise, and with PROFILE_FAULT 1 where the EEPROM does not answer.
The model's choices here: logs 3, 13, 28. -/
def Obligations.SavesWriteTheSnapshot : Prop :=
  ∀ s : State,
    (s.Served → s.pl.saveState = .saving → exec .saveProfile s = .next { s with lu := s.lu.replied 0x52 [] [3] }) ∧
    (s.Served → s.pl.saveState = .idle → exec .saveProfile s = .next { s with
      pl := { s.pl with snapshot := some s.wm, savePage := 0, saveState := .saving }
      lu := s.lu.replied 0x52 [] ([0] ++ num16 (991 + 2 * s.wm.locks.length) ++ num8 ((991 + 2 * s.wm.locks.length + 63) / 64)) }) ∧
    (∀ page, s.pl.saveState = .idle → exec (.savePageComplete page) s = .next s ∧ exec .savePollTimeout s = .next s) ∧
    (∀ (w : WorkingMemory), s.MemoryCanonical → s.pl.saveState = .saving → s.pl.snapshot = some w →
      let base := 64 * s.pl.savePage
      let pages := (991 + 2 * w.locks.length + 63) / 64
      let ended (t : State) (k : EventKind) (n : Nat) (v : Int) := t.pl = { s.pl with saveState := .idle, snapshot := none } ∧
        t.lu.event k = { s.lu.event k with latched := true, subject := n, value := v }
      let outside (t : State) := t = { s with pl := t.pl, eeprom := t.eeprom, free := t.free, lu := t.lu } ∧
        ∀ a, a < base ∨ base + 64 ≤ a → t.eeprom.read a = s.eeprom.read a
      (∀ bytes : Vector Byte 64, ∃ t, exec (.savePageComplete (.readBack bytes)) s = .next t ∧ outside t ∧
        (∀ i : Fin 64, t.eeprom.read (base + i) = bytes[i]) ∧
        let same := ∀ i : Fin 64, ∀ b, w.image[base + i.val]? = some b → bytes[i] = b
        (same → s.pl.savePage + 1 < pages → t.pl = { s.pl with savePage := s.pl.savePage + 1 } ∧ t.lu.events = s.lu.events) ∧
        (same → pages ≤ s.pl.savePage + 1 → pages ≤ 18 → ended t .profileSaved 0 pages) ∧
        (¬ same → ended t .profileFault 1 7)) ∧
      (∃ t, exec (.savePageComplete .noAnswer) s = .next t ∧ outside t ∧ ended t .profileFault 1 1) ∧
      (∃ t, exec .savePollTimeout s = .next t ∧ outside t ∧ ended t .profileFault 1 1))

/-- A saved image loads: an EEPROM that holds the image of a valid profile passes every check of the load, and gives back its parameters
and its locks (R161, R162, R175). The model's choices here: log 46. -/
def Obligations.SavedImageLoads : Prop :=
  ∀ (m : Memory) (w : WorkingMemory), w.valid = true → (∀ i b, w.image[i]? = some b → m.read i = b) →
    m.loadFault true = none ∧ m.profile.locks = w.locks ∧ ∀ n, assigned n = true → m.profile.word n = w.word n

/-! ### Reading records (R20, R41, R58, R77, R99, R114, R131, R165, R172) -/

/-- The reading requests answer the records as they stand, field by field with the lengths R172 gives and the codes R170 gives, and change
nothing; a run that does not exist is refused; GET_PARAM answers an assigned number's value, range, and whether it is structural and locked.
The model's choices here: logs 5, 15, 16, 17, 18, 43, 49, 58, 60, 62. -/
def Obligations.ReadRequestsAnswerTheirRecords : Prop :=
  ∀ s : State, s.Served →
    let run (first count : Byte) (n : Nat) := first.toNat < n ∧ 1 ≤ count.toNat ∧ first.toNat + count.toNat ≤ n
    let answers (c : Instr) (k : Byte) (p content : List Byte) := exec c s = .next { s with lu := s.lu.replied k p content }
    let seconds (t : Timer) : List Byte := match t with
      | some ticks => num16 ((ticks + 99999) / 100000)
      | none => [0xFF, 0xFF]
    let number {n : Nat} (x : Option (Fin n)) : List Byte := match x with
      | some i => num8 i
      | none => [0xFF]
    let head := num8 s.su.supply.code ++ num16 s.su.supplyCode
      ++ (List.finRange 3).flatMap (fun b => let x := s.bank b
          int8 x.offset ++ int8 x.gain ++ yesNo x.failed ++ num8 x.trim.code ++ num8 x.lastTrim.code ++ num8 x.lastOutcome.code
            ++ num16 x.mLo ++ num16 x.mHi)
      ++ num16 (match s.su.trimTimer with
        | some ticks => (ticks + 99999) / 100000
        | none => 0)
      ++ (List.finRange 4).flatMap fun d => let x := s.door d
          num8 (match x.state with
            | .closed => 0
            | .opened => 1) ++ num16 x.openSeconds ++ yesNo x.credited
    (∀ f c, ¬ run f c 12 → answers (.readZones f c) 0x12 [f, c] [7]) ∧
    (∀ f c, run f c 12 → ∃ zs : List (Fin 12), zs.length = c.toNat ∧ (∀ j z, zs[j]? = some z → z.val = f.toNat + j) ∧
      answers (.readZones f c) 0x12 [f, c] ([0] ++ wordBytes s.zr.cycleNo ++ yesNo s.zr.outstanding ++ yesNo s.zr.deferred
        ++ num8 (cadenceFactor s.sc.cadence) ++ zs.flatMap s.zoneBytes)) ∧
    (∀ z, (s.zoneBytes z).length = 24) ∧
    (∀ z, let x := s.zone z
      s.zoneBytes z = num8 z ++ yesNo x.enabled ++ num8 (s.wm.zoneHandler z) ++ num8 (s.wm.zoneWeight z) ++ int16 x.setpoint
        ++ number (s.wm.zonePoint z) ++ number (s.wm.zoneCo2Point z) ++ number (s.wm.zoneDoor z) ++ number (s.wm.zoneDamper z)
        ++ number (s.wm.zoneReheat z) ++ num8 (s.wm.zoneRating z / 100) ++ num8 x.state.code
        ++ (match x.substitute with
          | some source => num8 source.code
          | none => [0xFF])
        ++ (match x.tempUsed with
          | some v => int16 v
          | none => [0x80, 0])
        ++ int16 x.integral ++ int16 x.demand ++ num8 x.limited.code ++ [0] ++ num16 x.grantedReheat) ∧
    (∀ x : Byte, answers (.readHandlers x) 0x18 [x] (if 3 ≤ x.toNat then [7] else [0] ++ wordBytes s.hs.cycleNo
      ++ yesNo s.hs.outstanding ++ (if x = 1 then [] else s.handlerBytes 0) ++ (if x = 0 then [] else s.handlerBytes 1))) ∧
    (∀ h, (s.handlerBytes h).length = 33 + 3 * ((List.finRange 12).filter fun z => s.wm.zoneHandler z == h).length) ∧
    (∀ h, let x := s.handler h
      let zs := (List.finRange 12).filter fun z => s.wm.zoneHandler z == h
      s.handlerBytes h = num8 h ++ num8 x.mode.code ++ num8 x.lastMode.code ++ num16 ((x.dwell + 99999) / 100000)
        ++ num16 ((x.rest + 99999) / 100000) ++ num8 x.comp.code ++ num8 x.counted ++ int16 x.net ++ num16 x.qReq ++ yesNo x.candidate
        ++ num16 x.q ++ num16 (s.wm.compressorRating h)
        ++ (match x.driveSlot with
          | some i => num8 (i + 1)
          | none => [0xFF])
        ++ yesNo x.driveAvailable ++ num16 x.icing ++ yesNo x.defrostDue ++ num16 x.defrostTimer ++ num8 x.lastEnd.code
        ++ num16 x.baseBlower ++ num16 x.blower ++ num16 x.fresh ++ num8 zs.length
        ++ zs.flatMap fun (z : Fin 12) => num8 z ++ num16 s.hs.dampers[z]) ∧
    answers .readAllotment 0x21 [] ([0] ++ s.grantBytes ++ s.pa.record.bytes) ∧
    ([0] ++ s.grantBytes ++ s.pa.record.bytes).length = 126 ∧
    (s.grantBytes = num16 s.pa.liveGrant ++ num8 s.pa.lifetime ++ ([if s.pa.live then 0 else 1] : List Byte)
      ++ (match s.pa.timer with
        | some ticks => num8 ((ticks + 99999) / 100000)
        | none => num8 0)
      ++ num16 s.wm.fallbackGrant ++ num16 (if s.pa.live then s.pa.liveGrant else s.wm.fallbackGrant)) ∧
    (let r := s.pa.record
     r.bytes = yesNo r.made ++ wordBytes r.cycleNo ++ num16 r.grant ++ ([if r.live then 0 else 1] : List Byte) ++ num16 r.scale ++ num16 r.scale2
        ++ num16 r.fixedPower ++ num16 r.total ++ num16 r.unallotted
        ++ (List.finRange 2).flatMap (fun h => let x := r.handlers[h]
            num8 x.mode.code ++ num16 x.qReq ++ num8 x.outcome.code ++ num16 x.command ++ num16 x.power)
        ++ (List.finRange 12).flatMap fun z => let x := r.zones[z]
            num16 x.request ++ num16 x.duty ++ num16 x.power ++ num8 x.limited.code) ∧
    (∀ h, let x := s.renewal h
      s.renewalBytes h = int8 x.balance ++ num16 ((x.interval + 99999) / 100000)
        ++ [if s.sc.opState ≠ .run ∨ (s.handler h).mode = .idle then 1 else 0] ++ num8 x.state.code
        ++ (match x.kind with
          | some k => num8 k.code
          | none => [0xFF])
        ++ num16 ((x.timer + 99999) / 100000) ++ num8 x.lastEnd.code) ∧
    answers .readRenewals 0x2A [] ([0] ++ num8 s.rs.airHold.code ++ s.renewalBytes 0 ++ s.renewalBytes 1
      ++ num16 s.wm.renewalInterval ++ num16 s.wm.renewalDuration) ∧
    (∀ f c, ¬ run f c 32 → answers (.readPoints f c) 0x32 [f, c] [7]) ∧
    (∀ f c, run f c 32 → ∃ ps : List (Fin 32), ps.length = c.toNat ∧ (∀ j p, ps[j]? = some p → p.val = f.toNat + j) ∧
      answers (.readPoints f c) 0x32 [f, c] ([0] ++ head ++ ps.flatMap s.pointEntry)) ∧
    head.length = 51 ∧
    (∀ p, (s.pointEntry p).length = 12) ∧
    (∀ p, let x := s.point p
      s.pointEntry p = num8 p ++ ((List.range 5).flatMap fun f => num8 (s.wm.nat (200 + 5 * p.val + f))) ++ int16 x.value
        ++ num8 x.state.code ++ num16 x.age ++ num8 x.run) ∧
    (∀ num : Word16, let n := num.toNat
      ((n ≤ 31 ∨ (40 ≤ n ∧ n ≤ 78) ∨ (80 ≤ n ∧ n ≤ 497)) → answers (.getParam num) 0x50 (wordBytes num)
        ([0] ++ wordBytes num ++ wordBytes (s.wm.word n) ++ int16 (paramRange n).1 ++ int16 (paramRange n).2
          ++ [if structural n then 1 else 0] ++ [if n ∈ s.wm.locks then 1 else 0])) ∧
      (¬ (n ≤ 31 ∨ (40 ≤ n ∧ n ≤ 78) ∨ (80 ≤ n ∧ n ≤ 497)) → answers (.getParam num) 0x50 (wordBytes num) [7])) ∧
    (∀ f c, ¬ run f c 16 → answers (.readOutputs f c) 0x39 [f, c] [7]) ∧
    (∀ f c, run f c 16 → ∃ cs : List (Fin 16), cs.length = c.toNat ∧ (∀ j x, cs[j]? = some x → x.val = f.toNat + j) ∧
      answers (.readOutputs f c) 0x39 [f, c] ([0, c] ++ cs.flatMap fun x => (s.channel x).bytes)) ∧
    (∀ c, let x := s.channel c
      x.bytes = num8 x.role.code ++ num16 x.modulus ++ num8 x.step.code ++ num8 x.polarity.code ++ yesNo x.bound ++ num16 x.received
        ++ (match x.override with
          | some v => num16 v
          | none => [0x80, 0])
        ++ num16 x.effective ++ num16 x.pendingCompare ++ num16 x.compare
        ++ (match x.newModulus with
          | some v => num16 v
          | none => [0x80, 0])
        ++ (match x.newStep with
          | some v => num8 v.code
          | none => [0xFF])
        ++ (match x.newPolarity with
          | some v => num8 v.code
          | none => [0xFF])
        ++ num16 (1000 * x.compare / x.modulus)) ∧
    (∀ i, let x := s.slot i
      s.slotBytes i = num8 (s.wm.slotKind i).code ++ num8 x.state.code ++ num8 x.failed ++ num8 x.lastProbe.code
        ++ (match x.moduleType with
          | some y => num8 y.code
          | none => [0xFF])
        ++ (match x.drive with
          | some d => num8 d.state.code ++ [d.fault] ++ wordBytes d.speed ++ wordBytes d.temperature
          | none => [0xFF, 0xFF, 0x80, 0, 0x80, 0])
        ++ (match x.monitor with
          | some v => v.toList.flatMap wordBytes
          | none => [0x80, 0, 0x80, 0, 0x80, 0, 0x80, 0])
        ++ seconds x.probeTimer ++ yesNo x.probeDue ++ seconds x.readTimer ++ yesNo x.readDue) ∧
    (let x := s.ml.pass
     x.bytes = num8 x.state.code
        ++ (match x.slot with
          | some i => num8 (i + 1)
          | none => [0xFF])
        ++ (match x.op with
          | some op => num8 op.code
          | none => [0xFF])
        ++ [x.item.getD 0xFF] ++ wordBytes (x.value.getD 0x8000)
        ++ (match x.outcome with
          | some o => num8 o.code
          | none => [0xFF])
        ++ (match x.status with
          | some st => num8 st.code
          | none => [0xFF])
        ++ wordBytes (x.returned.getD 0x8000)) ∧
    ([ZoneState.off, .active, .held, .substitute].map (·.code) = List.range 4 ∧
      [SubstSource.zoneMean, .returnAir, .noSource].map (·.code) = List.range 3 ∧
      [Limited.none, .heating, .cooling].map (·.code) = List.range 3 ∧
      [Mode.idle, .vent, .heat, .cool, .defrost].map (·.code) = List.range 5 ∧
      [CompMode.none, .heat, .cool].map (·.code) = List.range 3 ∧ [CompState.stopped, .running].map (·.code) = List.range 2 ∧
      [DefrostEnd.none, .temperature, .time, .aborted, .drive].map (·.code) = List.range 5 ∧
      [FixedOutcome.none, .kept, .aborted, .admitted, .refused].map (·.code) = List.range 5 ∧
      [RenewalState.idle, .renewing, .forced].map (·.code) = List.range 3 ∧
      [RenewalKind.due, .economy, .airQuality, .host, .forced].map (·.code) = List.range 5 ∧
      [RenewalEnd.none, .completed, .hold, .leftRun, .handlerIdle].map (·.code) = List.range 5 ∧
      [AirHold.none, .soft, .hard].map (·.code) = List.range 3 ∧ [SupplyState.normal, .low].map (·.code) = List.range 2 ∧
      [TrimState.idle, .fullQueued, .shortQueued, .running].map (·.code) = List.range 4 ∧
      [LastTrim.none, .full, .short].map (·.code) = List.range 3 ∧
      [TrimOutcome.none, .installed, .limit, .stepped].map (·.code) = List.range 4 ∧
      [PointState.absent, .pending, .valid, .held, .failed].map (·.code) = List.range 5) ∧
    ((∀ z, (Role.zoneDamper z).code = 16 + z.val ∧ (Role.zoneReheat z).code = 32 + z.val) ∧
      (∀ h, (Role.blower h).code = 48 + h.val ∧ (Role.freshDamper h).code = 50 + h.val ∧ (SlotKind.compressorDrive h).code = 1 + h.val) ∧
      [Role.none, .spare].map (·.code) = [0, 1] ∧ [SlotKind.none, .airMonitor, .generic].map (·.code) = [0, 3, 4] ∧
      [ChannelStep.us10, .us100, .ms1, .ms10].map (·.code) = List.range 4 ∧ [Polarity.normal, .inverted].map (·.code) = List.range 2 ∧
      [SlotState.absent, .present, .lost].map (·.code) = List.range 3 ∧
      [LastProbe.none, .found, .wrongType, .noAnswer].map (·.code) = List.range 4 ∧
      [ModuleType.drive, .monitor, .other].map (·.code) = List.range 3 ∧
      [DriveState.ready, .running, .fault].map (·.code) = List.range 3 ∧ [LineState.on, .closing, .off].map (·.code) = List.range 3 ∧
      [HostEnable.on, .off].map (·.code) = List.range 2 ∧ [PassState.empty, .queued, .inFlight, .done].map (·.code) = List.range 4 ∧
      [PassOp.read, .write].map (·.code) = List.range 2 ∧ [PassOutcome.answered, .noAnswer, .flushed].map (·.code) = List.range 3 ∧
      [ModuleStatus.accepted, .refused].map (·.code) = List.range 2) ∧
    ∃ busy : List Byte, answers .readModules 0x43 [] (([0] : List Byte) ++ num8 s.ml.hostEnable.code ++ num8 s.ml.line.code ++ busy
      ++ yesNo s.ml.drivePending[0] ++ yesNo s.ml.drivePending[1] ++ s.ml.pass.bytes ++ (List.finRange 8).flatMap s.slotBytes) ∧
      busy.length = 2 ∧ (s.ml.exchange = none → busy = [0xFF, 0xFF]) ∧
      (∀ x, s.ml.exchange = some x → busy[1]? = some (BitVec.ofNat 8 (x.slot.val + 1)))

/-! ### What every step keeps -/

/-- After a hard reset every property that the steps keep holds. The model's choices here: logs 10, 12. -/
def Obligations.ResetHasEveryInvariant : Prop :=
  State.reset.BalancesBounded ∧ State.reset.GrantConsistent ∧ State.reset.QueueBounded ∧ State.reset.MemoryCanonical ∧
    State.reset.OutputsGated ∧ State.reset.RecordWithinGrant

/-- Every step keeps both renewal balances within -8 to +8 (R62). -/
def Obligations.StepKeepsBalancesBounded : Prop :=
  ∀ s t : State, s.BalancesBounded → step s = .next t → t.BalancesBounded

/-- Every step keeps the lifetime timer running exactly while the live grant is in force (R42). -/
def Obligations.StepKeepsGrantConsistent : Prop :=
  ∀ s t : State, s.GrantConsistent → step s = .next t → t.GrantConsistent

/-- Every step keeps the notice queue at eight entries at most, no two of one kind (R154). -/
def Obligations.StepKeepsQueueBounded : Prop :=
  ∀ s t : State, s.QueueBounded → step s = .next t → t.QueueBounded

/-- Every step keeps the EEPROM's contents in their canonical form (the model's choice, log 12). -/
def Obligations.StepKeepsMemoryCanonical : Prop :=
  ∀ s t : State, s.MemoryCanonical → step s = .next t → t.MemoryCanonical

/-- Every step keeps the outputs gated: outside RUN every compare and value is 0 and no override is set (R111). -/
def Obligations.StepKeepsOutputsGated : Prop :=
  ∀ s t : State, s.OutputsGated → step s = .next t → t.OutputsGated

/-- Every step keeps the allotment record within its grant (R53, R56). -/
def Obligations.StepKeepsRecordWithinGrant : Prop :=
  ∀ s t : State, s.RecordWithinGrant → step s = .next t → t.RecordWithinGrant
end

