-- ==== Sys2Proof/Laws/State.lean ====
section
/-! SUPPORT. The small lemmas of State's updates: what each block update writes, and that every other field reads as before; the same
for the updates of one record. -/

namespace Sys2Proof.Machine.State

variable (s : State)

/-! ### setZr -/

@[simp] theorem setZr_zr (x : ZR) : (s.setZr x).zr = x := rfl
@[simp] theorem setZr_hs (x : ZR) : (s.setZr x).hs = s.hs := rfl
@[simp] theorem setZr_pa (x : ZR) : (s.setZr x).pa = s.pa := rfl
@[simp] theorem setZr_rs (x : ZR) : (s.setZr x).rs = s.rs := rfl
@[simp] theorem setZr_su (x : ZR) : (s.setZr x).su = s.su := rfl
@[simp] theorem setZr_ou (x : ZR) : (s.setZr x).ou = s.ou := rfl
@[simp] theorem setZr_ml (x : ZR) : (s.setZr x).ml = s.ml := rfl
@[simp] theorem setZr_sc (x : ZR) : (s.setZr x).sc = s.sc := rfl
@[simp] theorem setZr_lu (x : ZR) : (s.setZr x).lu = s.lu := rfl
@[simp] theorem setZr_pl (x : ZR) : (s.setZr x).pl = s.pl := rfl
@[simp] theorem setZr_bus (x : ZR) : (s.setZr x).bus = s.bus := rfl
@[simp] theorem setZr_pins (x : ZR) : (s.setZr x).pins = s.pins := rfl
@[simp] theorem setZr_eeprom (x : ZR) : (s.setZr x).eeprom = s.eeprom := rfl
@[simp] theorem setZr_tenth (x : ZR) : (s.setZr x).tenth = s.tenth := rfl
@[simp] theorem setZr_free (x : ZR) : (s.setZr x).free = s.free := rfl
@[simp] theorem setZr_pending (x : ZR) : (s.setZr x).pending = s.pending := rfl
@[simp] theorem setZr_setZr (x y : ZR) : (s.setZr x).setZr y = s.setZr y := rfl

/-! ### setHs -/

@[simp] theorem setHs_zr (x : HS) : (s.setHs x).zr = s.zr := rfl
@[simp] theorem setHs_hs (x : HS) : (s.setHs x).hs = x := rfl
@[simp] theorem setHs_pa (x : HS) : (s.setHs x).pa = s.pa := rfl
@[simp] theorem setHs_rs (x : HS) : (s.setHs x).rs = s.rs := rfl
@[simp] theorem setHs_su (x : HS) : (s.setHs x).su = s.su := rfl
@[simp] theorem setHs_ou (x : HS) : (s.setHs x).ou = s.ou := rfl
@[simp] theorem setHs_ml (x : HS) : (s.setHs x).ml = s.ml := rfl
@[simp] theorem setHs_sc (x : HS) : (s.setHs x).sc = s.sc := rfl
@[simp] theorem setHs_lu (x : HS) : (s.setHs x).lu = s.lu := rfl
@[simp] theorem setHs_pl (x : HS) : (s.setHs x).pl = s.pl := rfl
@[simp] theorem setHs_bus (x : HS) : (s.setHs x).bus = s.bus := rfl
@[simp] theorem setHs_pins (x : HS) : (s.setHs x).pins = s.pins := rfl
@[simp] theorem setHs_eeprom (x : HS) : (s.setHs x).eeprom = s.eeprom := rfl
@[simp] theorem setHs_tenth (x : HS) : (s.setHs x).tenth = s.tenth := rfl
@[simp] theorem setHs_free (x : HS) : (s.setHs x).free = s.free := rfl
@[simp] theorem setHs_pending (x : HS) : (s.setHs x).pending = s.pending := rfl
@[simp] theorem setHs_setHs (x y : HS) : (s.setHs x).setHs y = s.setHs y := rfl

/-! ### setPa -/

@[simp] theorem setPa_zr (x : PA) : (s.setPa x).zr = s.zr := rfl
@[simp] theorem setPa_hs (x : PA) : (s.setPa x).hs = s.hs := rfl
@[simp] theorem setPa_pa (x : PA) : (s.setPa x).pa = x := rfl
@[simp] theorem setPa_rs (x : PA) : (s.setPa x).rs = s.rs := rfl
@[simp] theorem setPa_su (x : PA) : (s.setPa x).su = s.su := rfl
@[simp] theorem setPa_ou (x : PA) : (s.setPa x).ou = s.ou := rfl
@[simp] theorem setPa_ml (x : PA) : (s.setPa x).ml = s.ml := rfl
@[simp] theorem setPa_sc (x : PA) : (s.setPa x).sc = s.sc := rfl
@[simp] theorem setPa_lu (x : PA) : (s.setPa x).lu = s.lu := rfl
@[simp] theorem setPa_pl (x : PA) : (s.setPa x).pl = s.pl := rfl
@[simp] theorem setPa_bus (x : PA) : (s.setPa x).bus = s.bus := rfl
@[simp] theorem setPa_pins (x : PA) : (s.setPa x).pins = s.pins := rfl
@[simp] theorem setPa_eeprom (x : PA) : (s.setPa x).eeprom = s.eeprom := rfl
@[simp] theorem setPa_tenth (x : PA) : (s.setPa x).tenth = s.tenth := rfl
@[simp] theorem setPa_free (x : PA) : (s.setPa x).free = s.free := rfl
@[simp] theorem setPa_pending (x : PA) : (s.setPa x).pending = s.pending := rfl
@[simp] theorem setPa_setPa (x y : PA) : (s.setPa x).setPa y = s.setPa y := rfl

/-! ### setRs -/

@[simp] theorem setRs_zr (x : RS) : (s.setRs x).zr = s.zr := rfl
@[simp] theorem setRs_hs (x : RS) : (s.setRs x).hs = s.hs := rfl
@[simp] theorem setRs_pa (x : RS) : (s.setRs x).pa = s.pa := rfl
@[simp] theorem setRs_rs (x : RS) : (s.setRs x).rs = x := rfl
@[simp] theorem setRs_su (x : RS) : (s.setRs x).su = s.su := rfl
@[simp] theorem setRs_ou (x : RS) : (s.setRs x).ou = s.ou := rfl
@[simp] theorem setRs_ml (x : RS) : (s.setRs x).ml = s.ml := rfl
@[simp] theorem setRs_sc (x : RS) : (s.setRs x).sc = s.sc := rfl
@[simp] theorem setRs_lu (x : RS) : (s.setRs x).lu = s.lu := rfl
@[simp] theorem setRs_pl (x : RS) : (s.setRs x).pl = s.pl := rfl
@[simp] theorem setRs_bus (x : RS) : (s.setRs x).bus = s.bus := rfl
@[simp] theorem setRs_pins (x : RS) : (s.setRs x).pins = s.pins := rfl
@[simp] theorem setRs_eeprom (x : RS) : (s.setRs x).eeprom = s.eeprom := rfl
@[simp] theorem setRs_tenth (x : RS) : (s.setRs x).tenth = s.tenth := rfl
@[simp] theorem setRs_free (x : RS) : (s.setRs x).free = s.free := rfl
@[simp] theorem setRs_pending (x : RS) : (s.setRs x).pending = s.pending := rfl
@[simp] theorem setRs_setRs (x y : RS) : (s.setRs x).setRs y = s.setRs y := rfl

/-! ### setSu -/

@[simp] theorem setSu_zr (x : SU) : (s.setSu x).zr = s.zr := rfl
@[simp] theorem setSu_hs (x : SU) : (s.setSu x).hs = s.hs := rfl
@[simp] theorem setSu_pa (x : SU) : (s.setSu x).pa = s.pa := rfl
@[simp] theorem setSu_rs (x : SU) : (s.setSu x).rs = s.rs := rfl
@[simp] theorem setSu_su (x : SU) : (s.setSu x).su = x := rfl
@[simp] theorem setSu_ou (x : SU) : (s.setSu x).ou = s.ou := rfl
@[simp] theorem setSu_ml (x : SU) : (s.setSu x).ml = s.ml := rfl
@[simp] theorem setSu_sc (x : SU) : (s.setSu x).sc = s.sc := rfl
@[simp] theorem setSu_lu (x : SU) : (s.setSu x).lu = s.lu := rfl
@[simp] theorem setSu_pl (x : SU) : (s.setSu x).pl = s.pl := rfl
@[simp] theorem setSu_bus (x : SU) : (s.setSu x).bus = s.bus := rfl
@[simp] theorem setSu_pins (x : SU) : (s.setSu x).pins = s.pins := rfl
@[simp] theorem setSu_eeprom (x : SU) : (s.setSu x).eeprom = s.eeprom := rfl
@[simp] theorem setSu_tenth (x : SU) : (s.setSu x).tenth = s.tenth := rfl
@[simp] theorem setSu_free (x : SU) : (s.setSu x).free = s.free := rfl
@[simp] theorem setSu_pending (x : SU) : (s.setSu x).pending = s.pending := rfl
@[simp] theorem setSu_setSu (x y : SU) : (s.setSu x).setSu y = s.setSu y := rfl

/-! ### setOu -/

@[simp] theorem setOu_zr (x : OU) : (s.setOu x).zr = s.zr := rfl
@[simp] theorem setOu_hs (x : OU) : (s.setOu x).hs = s.hs := rfl
@[simp] theorem setOu_pa (x : OU) : (s.setOu x).pa = s.pa := rfl
@[simp] theorem setOu_rs (x : OU) : (s.setOu x).rs = s.rs := rfl
@[simp] theorem setOu_su (x : OU) : (s.setOu x).su = s.su := rfl
@[simp] theorem setOu_ou (x : OU) : (s.setOu x).ou = x := rfl
@[simp] theorem setOu_ml (x : OU) : (s.setOu x).ml = s.ml := rfl
@[simp] theorem setOu_sc (x : OU) : (s.setOu x).sc = s.sc := rfl
@[simp] theorem setOu_lu (x : OU) : (s.setOu x).lu = s.lu := rfl
@[simp] theorem setOu_pl (x : OU) : (s.setOu x).pl = s.pl := rfl
@[simp] theorem setOu_bus (x : OU) : (s.setOu x).bus = s.bus := rfl
@[simp] theorem setOu_pins (x : OU) : (s.setOu x).pins = s.pins := rfl
@[simp] theorem setOu_eeprom (x : OU) : (s.setOu x).eeprom = s.eeprom := rfl
@[simp] theorem setOu_tenth (x : OU) : (s.setOu x).tenth = s.tenth := rfl
@[simp] theorem setOu_free (x : OU) : (s.setOu x).free = s.free := rfl
@[simp] theorem setOu_pending (x : OU) : (s.setOu x).pending = s.pending := rfl
@[simp] theorem setOu_setOu (x y : OU) : (s.setOu x).setOu y = s.setOu y := rfl

/-! ### setMl -/

@[simp] theorem setMl_zr (x : ML) : (s.setMl x).zr = s.zr := rfl
@[simp] theorem setMl_hs (x : ML) : (s.setMl x).hs = s.hs := rfl
@[simp] theorem setMl_pa (x : ML) : (s.setMl x).pa = s.pa := rfl
@[simp] theorem setMl_rs (x : ML) : (s.setMl x).rs = s.rs := rfl
@[simp] theorem setMl_su (x : ML) : (s.setMl x).su = s.su := rfl
@[simp] theorem setMl_ou (x : ML) : (s.setMl x).ou = s.ou := rfl
@[simp] theorem setMl_ml (x : ML) : (s.setMl x).ml = x := rfl
@[simp] theorem setMl_sc (x : ML) : (s.setMl x).sc = s.sc := rfl
@[simp] theorem setMl_lu (x : ML) : (s.setMl x).lu = s.lu := rfl
@[simp] theorem setMl_pl (x : ML) : (s.setMl x).pl = s.pl := rfl
@[simp] theorem setMl_bus (x : ML) : (s.setMl x).bus = s.bus := rfl
@[simp] theorem setMl_pins (x : ML) : (s.setMl x).pins = s.pins := rfl
@[simp] theorem setMl_eeprom (x : ML) : (s.setMl x).eeprom = s.eeprom := rfl
@[simp] theorem setMl_tenth (x : ML) : (s.setMl x).tenth = s.tenth := rfl
@[simp] theorem setMl_free (x : ML) : (s.setMl x).free = s.free := rfl
@[simp] theorem setMl_pending (x : ML) : (s.setMl x).pending = s.pending := rfl
@[simp] theorem setMl_setMl (x y : ML) : (s.setMl x).setMl y = s.setMl y := rfl

/-! ### setSc -/

@[simp] theorem setSc_zr (x : SC) : (s.setSc x).zr = s.zr := rfl
@[simp] theorem setSc_hs (x : SC) : (s.setSc x).hs = s.hs := rfl
@[simp] theorem setSc_pa (x : SC) : (s.setSc x).pa = s.pa := rfl
@[simp] theorem setSc_rs (x : SC) : (s.setSc x).rs = s.rs := rfl
@[simp] theorem setSc_su (x : SC) : (s.setSc x).su = s.su := rfl
@[simp] theorem setSc_ou (x : SC) : (s.setSc x).ou = s.ou := rfl
@[simp] theorem setSc_ml (x : SC) : (s.setSc x).ml = s.ml := rfl
@[simp] theorem setSc_sc (x : SC) : (s.setSc x).sc = x := rfl
@[simp] theorem setSc_lu (x : SC) : (s.setSc x).lu = s.lu := rfl
@[simp] theorem setSc_pl (x : SC) : (s.setSc x).pl = s.pl := rfl
@[simp] theorem setSc_bus (x : SC) : (s.setSc x).bus = s.bus := rfl
@[simp] theorem setSc_pins (x : SC) : (s.setSc x).pins = s.pins := rfl
@[simp] theorem setSc_eeprom (x : SC) : (s.setSc x).eeprom = s.eeprom := rfl
@[simp] theorem setSc_tenth (x : SC) : (s.setSc x).tenth = s.tenth := rfl
@[simp] theorem setSc_free (x : SC) : (s.setSc x).free = s.free := rfl
@[simp] theorem setSc_pending (x : SC) : (s.setSc x).pending = s.pending := rfl
@[simp] theorem setSc_setSc (x y : SC) : (s.setSc x).setSc y = s.setSc y := rfl

/-! ### setLu -/

@[simp] theorem setLu_zr (x : LU) : (s.setLu x).zr = s.zr := rfl
@[simp] theorem setLu_hs (x : LU) : (s.setLu x).hs = s.hs := rfl
@[simp] theorem setLu_pa (x : LU) : (s.setLu x).pa = s.pa := rfl
@[simp] theorem setLu_rs (x : LU) : (s.setLu x).rs = s.rs := rfl
@[simp] theorem setLu_su (x : LU) : (s.setLu x).su = s.su := rfl
@[simp] theorem setLu_ou (x : LU) : (s.setLu x).ou = s.ou := rfl
@[simp] theorem setLu_ml (x : LU) : (s.setLu x).ml = s.ml := rfl
@[simp] theorem setLu_sc (x : LU) : (s.setLu x).sc = s.sc := rfl
@[simp] theorem setLu_lu (x : LU) : (s.setLu x).lu = x := rfl
@[simp] theorem setLu_pl (x : LU) : (s.setLu x).pl = s.pl := rfl
@[simp] theorem setLu_bus (x : LU) : (s.setLu x).bus = s.bus := rfl
@[simp] theorem setLu_pins (x : LU) : (s.setLu x).pins = s.pins := rfl
@[simp] theorem setLu_eeprom (x : LU) : (s.setLu x).eeprom = s.eeprom := rfl
@[simp] theorem setLu_tenth (x : LU) : (s.setLu x).tenth = s.tenth := rfl
@[simp] theorem setLu_free (x : LU) : (s.setLu x).free = s.free := rfl
@[simp] theorem setLu_pending (x : LU) : (s.setLu x).pending = s.pending := rfl
@[simp] theorem setLu_setLu (x y : LU) : (s.setLu x).setLu y = s.setLu y := rfl

/-! ### setPl -/

@[simp] theorem setPl_zr (x : PL) : (s.setPl x).zr = s.zr := rfl
@[simp] theorem setPl_hs (x : PL) : (s.setPl x).hs = s.hs := rfl
@[simp] theorem setPl_pa (x : PL) : (s.setPl x).pa = s.pa := rfl
@[simp] theorem setPl_rs (x : PL) : (s.setPl x).rs = s.rs := rfl
@[simp] theorem setPl_su (x : PL) : (s.setPl x).su = s.su := rfl
@[simp] theorem setPl_ou (x : PL) : (s.setPl x).ou = s.ou := rfl
@[simp] theorem setPl_ml (x : PL) : (s.setPl x).ml = s.ml := rfl
@[simp] theorem setPl_sc (x : PL) : (s.setPl x).sc = s.sc := rfl
@[simp] theorem setPl_lu (x : PL) : (s.setPl x).lu = s.lu := rfl
@[simp] theorem setPl_pl (x : PL) : (s.setPl x).pl = x := rfl
@[simp] theorem setPl_bus (x : PL) : (s.setPl x).bus = s.bus := rfl
@[simp] theorem setPl_pins (x : PL) : (s.setPl x).pins = s.pins := rfl
@[simp] theorem setPl_eeprom (x : PL) : (s.setPl x).eeprom = s.eeprom := rfl
@[simp] theorem setPl_tenth (x : PL) : (s.setPl x).tenth = s.tenth := rfl
@[simp] theorem setPl_free (x : PL) : (s.setPl x).free = s.free := rfl
@[simp] theorem setPl_pending (x : PL) : (s.setPl x).pending = s.pending := rfl
@[simp] theorem setPl_setPl (x y : PL) : (s.setPl x).setPl y = s.setPl y := rfl

/-! ### setBus -/

@[simp] theorem setBus_zr (x : Bus) : (s.setBus x).zr = s.zr := rfl
@[simp] theorem setBus_hs (x : Bus) : (s.setBus x).hs = s.hs := rfl
@[simp] theorem setBus_pa (x : Bus) : (s.setBus x).pa = s.pa := rfl
@[simp] theorem setBus_rs (x : Bus) : (s.setBus x).rs = s.rs := rfl
@[simp] theorem setBus_su (x : Bus) : (s.setBus x).su = s.su := rfl
@[simp] theorem setBus_ou (x : Bus) : (s.setBus x).ou = s.ou := rfl
@[simp] theorem setBus_ml (x : Bus) : (s.setBus x).ml = s.ml := rfl
@[simp] theorem setBus_sc (x : Bus) : (s.setBus x).sc = s.sc := rfl
@[simp] theorem setBus_lu (x : Bus) : (s.setBus x).lu = s.lu := rfl
@[simp] theorem setBus_pl (x : Bus) : (s.setBus x).pl = s.pl := rfl
@[simp] theorem setBus_bus (x : Bus) : (s.setBus x).bus = x := rfl
@[simp] theorem setBus_pins (x : Bus) : (s.setBus x).pins = s.pins := rfl
@[simp] theorem setBus_eeprom (x : Bus) : (s.setBus x).eeprom = s.eeprom := rfl
@[simp] theorem setBus_tenth (x : Bus) : (s.setBus x).tenth = s.tenth := rfl
@[simp] theorem setBus_free (x : Bus) : (s.setBus x).free = s.free := rfl
@[simp] theorem setBus_pending (x : Bus) : (s.setBus x).pending = s.pending := rfl
@[simp] theorem setBus_setBus (x y : Bus) : (s.setBus x).setBus y = s.setBus y := rfl

/-! ### setPins -/

@[simp] theorem setPins_zr (x : Pins) : (s.setPins x).zr = s.zr := rfl
@[simp] theorem setPins_hs (x : Pins) : (s.setPins x).hs = s.hs := rfl
@[simp] theorem setPins_pa (x : Pins) : (s.setPins x).pa = s.pa := rfl
@[simp] theorem setPins_rs (x : Pins) : (s.setPins x).rs = s.rs := rfl
@[simp] theorem setPins_su (x : Pins) : (s.setPins x).su = s.su := rfl
@[simp] theorem setPins_ou (x : Pins) : (s.setPins x).ou = s.ou := rfl
@[simp] theorem setPins_ml (x : Pins) : (s.setPins x).ml = s.ml := rfl
@[simp] theorem setPins_sc (x : Pins) : (s.setPins x).sc = s.sc := rfl
@[simp] theorem setPins_lu (x : Pins) : (s.setPins x).lu = s.lu := rfl
@[simp] theorem setPins_pl (x : Pins) : (s.setPins x).pl = s.pl := rfl
@[simp] theorem setPins_bus (x : Pins) : (s.setPins x).bus = s.bus := rfl
@[simp] theorem setPins_pins (x : Pins) : (s.setPins x).pins = x := rfl
@[simp] theorem setPins_eeprom (x : Pins) : (s.setPins x).eeprom = s.eeprom := rfl
@[simp] theorem setPins_tenth (x : Pins) : (s.setPins x).tenth = s.tenth := rfl
@[simp] theorem setPins_free (x : Pins) : (s.setPins x).free = s.free := rfl
@[simp] theorem setPins_pending (x : Pins) : (s.setPins x).pending = s.pending := rfl
@[simp] theorem setPins_setPins (x y : Pins) : (s.setPins x).setPins y = s.setPins y := rfl

/-! ### setEeprom -/

@[simp] theorem setEeprom_zr (x : Memory) : (s.setEeprom x).zr = s.zr := rfl
@[simp] theorem setEeprom_hs (x : Memory) : (s.setEeprom x).hs = s.hs := rfl
@[simp] theorem setEeprom_pa (x : Memory) : (s.setEeprom x).pa = s.pa := rfl
@[simp] theorem setEeprom_rs (x : Memory) : (s.setEeprom x).rs = s.rs := rfl
@[simp] theorem setEeprom_su (x : Memory) : (s.setEeprom x).su = s.su := rfl
@[simp] theorem setEeprom_ou (x : Memory) : (s.setEeprom x).ou = s.ou := rfl
@[simp] theorem setEeprom_ml (x : Memory) : (s.setEeprom x).ml = s.ml := rfl
@[simp] theorem setEeprom_sc (x : Memory) : (s.setEeprom x).sc = s.sc := rfl
@[simp] theorem setEeprom_lu (x : Memory) : (s.setEeprom x).lu = s.lu := rfl
@[simp] theorem setEeprom_pl (x : Memory) : (s.setEeprom x).pl = s.pl := rfl
@[simp] theorem setEeprom_bus (x : Memory) : (s.setEeprom x).bus = s.bus := rfl
@[simp] theorem setEeprom_pins (x : Memory) : (s.setEeprom x).pins = s.pins := rfl
@[simp] theorem setEeprom_eeprom (x : Memory) : (s.setEeprom x).eeprom = x := rfl
@[simp] theorem setEeprom_tenth (x : Memory) : (s.setEeprom x).tenth = s.tenth := rfl
@[simp] theorem setEeprom_free (x : Memory) : (s.setEeprom x).free = s.free := rfl
@[simp] theorem setEeprom_pending (x : Memory) : (s.setEeprom x).pending = s.pending := rfl
@[simp] theorem setEeprom_setEeprom (x y : Memory) : (s.setEeprom x).setEeprom y = s.setEeprom y := rfl

/-! ### setTenth -/

@[simp] theorem setTenth_zr (x : Nat) : (s.setTenth x).zr = s.zr := rfl
@[simp] theorem setTenth_hs (x : Nat) : (s.setTenth x).hs = s.hs := rfl
@[simp] theorem setTenth_pa (x : Nat) : (s.setTenth x).pa = s.pa := rfl
@[simp] theorem setTenth_rs (x : Nat) : (s.setTenth x).rs = s.rs := rfl
@[simp] theorem setTenth_su (x : Nat) : (s.setTenth x).su = s.su := rfl
@[simp] theorem setTenth_ou (x : Nat) : (s.setTenth x).ou = s.ou := rfl
@[simp] theorem setTenth_ml (x : Nat) : (s.setTenth x).ml = s.ml := rfl
@[simp] theorem setTenth_sc (x : Nat) : (s.setTenth x).sc = s.sc := rfl
@[simp] theorem setTenth_lu (x : Nat) : (s.setTenth x).lu = s.lu := rfl
@[simp] theorem setTenth_pl (x : Nat) : (s.setTenth x).pl = s.pl := rfl
@[simp] theorem setTenth_bus (x : Nat) : (s.setTenth x).bus = s.bus := rfl
@[simp] theorem setTenth_pins (x : Nat) : (s.setTenth x).pins = s.pins := rfl
@[simp] theorem setTenth_eeprom (x : Nat) : (s.setTenth x).eeprom = s.eeprom := rfl
@[simp] theorem setTenth_tenth (x : Nat) : (s.setTenth x).tenth = x := rfl
@[simp] theorem setTenth_free (x : Nat) : (s.setTenth x).free = s.free := rfl
@[simp] theorem setTenth_pending (x : Nat) : (s.setTenth x).pending = s.pending := rfl
@[simp] theorem setTenth_setTenth (x y : Nat) : (s.setTenth x).setTenth y = s.setTenth y := rfl

/-! ### setFree -/

@[simp] theorem setFree_zr (x : Nat) : (s.setFree x).zr = s.zr := rfl
@[simp] theorem setFree_hs (x : Nat) : (s.setFree x).hs = s.hs := rfl
@[simp] theorem setFree_pa (x : Nat) : (s.setFree x).pa = s.pa := rfl
@[simp] theorem setFree_rs (x : Nat) : (s.setFree x).rs = s.rs := rfl
@[simp] theorem setFree_su (x : Nat) : (s.setFree x).su = s.su := rfl
@[simp] theorem setFree_ou (x : Nat) : (s.setFree x).ou = s.ou := rfl
@[simp] theorem setFree_ml (x : Nat) : (s.setFree x).ml = s.ml := rfl
@[simp] theorem setFree_sc (x : Nat) : (s.setFree x).sc = s.sc := rfl
@[simp] theorem setFree_lu (x : Nat) : (s.setFree x).lu = s.lu := rfl
@[simp] theorem setFree_pl (x : Nat) : (s.setFree x).pl = s.pl := rfl
@[simp] theorem setFree_bus (x : Nat) : (s.setFree x).bus = s.bus := rfl
@[simp] theorem setFree_pins (x : Nat) : (s.setFree x).pins = s.pins := rfl
@[simp] theorem setFree_eeprom (x : Nat) : (s.setFree x).eeprom = s.eeprom := rfl
@[simp] theorem setFree_tenth (x : Nat) : (s.setFree x).tenth = s.tenth := rfl
@[simp] theorem setFree_free (x : Nat) : (s.setFree x).free = x := rfl
@[simp] theorem setFree_pending (x : Nat) : (s.setFree x).pending = s.pending := rfl
@[simp] theorem setFree_setFree (x y : Nat) : (s.setFree x).setFree y = s.setFree y := rfl

/-! ### setPending -/

@[simp] theorem setPending_zr (x : List Instr) : (s.setPending x).zr = s.zr := rfl
@[simp] theorem setPending_hs (x : List Instr) : (s.setPending x).hs = s.hs := rfl
@[simp] theorem setPending_pa (x : List Instr) : (s.setPending x).pa = s.pa := rfl
@[simp] theorem setPending_rs (x : List Instr) : (s.setPending x).rs = s.rs := rfl
@[simp] theorem setPending_su (x : List Instr) : (s.setPending x).su = s.su := rfl
@[simp] theorem setPending_ou (x : List Instr) : (s.setPending x).ou = s.ou := rfl
@[simp] theorem setPending_ml (x : List Instr) : (s.setPending x).ml = s.ml := rfl
@[simp] theorem setPending_sc (x : List Instr) : (s.setPending x).sc = s.sc := rfl
@[simp] theorem setPending_lu (x : List Instr) : (s.setPending x).lu = s.lu := rfl
@[simp] theorem setPending_pl (x : List Instr) : (s.setPending x).pl = s.pl := rfl
@[simp] theorem setPending_bus (x : List Instr) : (s.setPending x).bus = s.bus := rfl
@[simp] theorem setPending_pins (x : List Instr) : (s.setPending x).pins = s.pins := rfl
@[simp] theorem setPending_eeprom (x : List Instr) : (s.setPending x).eeprom = s.eeprom := rfl
@[simp] theorem setPending_tenth (x : List Instr) : (s.setPending x).tenth = s.tenth := rfl
@[simp] theorem setPending_free (x : List Instr) : (s.setPending x).free = s.free := rfl
@[simp] theorem setPending_pending (x : List Instr) : (s.setPending x).pending = x := rfl
@[simp] theorem setPending_setPending (x y : List Instr) : (s.setPending x).setPending y = s.setPending y := rfl

/-! ### putZone -/

@[simp] theorem putZone_hs (i : Fin 12) (x : Zone) : (s.putZone i x).hs = s.hs := rfl
@[simp] theorem putZone_pa (i : Fin 12) (x : Zone) : (s.putZone i x).pa = s.pa := rfl
@[simp] theorem putZone_rs (i : Fin 12) (x : Zone) : (s.putZone i x).rs = s.rs := rfl
@[simp] theorem putZone_su (i : Fin 12) (x : Zone) : (s.putZone i x).su = s.su := rfl
@[simp] theorem putZone_ou (i : Fin 12) (x : Zone) : (s.putZone i x).ou = s.ou := rfl
@[simp] theorem putZone_ml (i : Fin 12) (x : Zone) : (s.putZone i x).ml = s.ml := rfl
@[simp] theorem putZone_sc (i : Fin 12) (x : Zone) : (s.putZone i x).sc = s.sc := rfl
@[simp] theorem putZone_lu (i : Fin 12) (x : Zone) : (s.putZone i x).lu = s.lu := rfl
@[simp] theorem putZone_pl (i : Fin 12) (x : Zone) : (s.putZone i x).pl = s.pl := rfl
@[simp] theorem putZone_bus (i : Fin 12) (x : Zone) : (s.putZone i x).bus = s.bus := rfl
@[simp] theorem putZone_pins (i : Fin 12) (x : Zone) : (s.putZone i x).pins = s.pins := rfl
@[simp] theorem putZone_eeprom (i : Fin 12) (x : Zone) : (s.putZone i x).eeprom = s.eeprom := rfl
@[simp] theorem putZone_tenth (i : Fin 12) (x : Zone) : (s.putZone i x).tenth = s.tenth := rfl
@[simp] theorem putZone_free (i : Fin 12) (x : Zone) : (s.putZone i x).free = s.free := rfl
@[simp] theorem putZone_pending (i : Fin 12) (x : Zone) : (s.putZone i x).pending = s.pending := rfl

/-- The record written reads as written. -/
@[simp] theorem putZone_zone_same (i : Fin 12) (x : Zone) : (s.putZone i x).zone i = x := by
  simp [putZone, zone]

/-- Every other record reads as before. -/
theorem putZone_zone_other {i j : Fin 12} (h : i ≠ j) (x : Zone) : (s.putZone i x).zone j = s.zone j := by
  have h' : i.val ≠ j.val := fun e => h (Fin.ext e)
  simp [putZone, zone, h']

/-! ### putHandler -/

@[simp] theorem putHandler_zr (i : Fin 2) (x : Handler) : (s.putHandler i x).zr = s.zr := rfl
@[simp] theorem putHandler_pa (i : Fin 2) (x : Handler) : (s.putHandler i x).pa = s.pa := rfl
@[simp] theorem putHandler_rs (i : Fin 2) (x : Handler) : (s.putHandler i x).rs = s.rs := rfl
@[simp] theorem putHandler_su (i : Fin 2) (x : Handler) : (s.putHandler i x).su = s.su := rfl
@[simp] theorem putHandler_ou (i : Fin 2) (x : Handler) : (s.putHandler i x).ou = s.ou := rfl
@[simp] theorem putHandler_ml (i : Fin 2) (x : Handler) : (s.putHandler i x).ml = s.ml := rfl
@[simp] theorem putHandler_sc (i : Fin 2) (x : Handler) : (s.putHandler i x).sc = s.sc := rfl
@[simp] theorem putHandler_lu (i : Fin 2) (x : Handler) : (s.putHandler i x).lu = s.lu := rfl
@[simp] theorem putHandler_pl (i : Fin 2) (x : Handler) : (s.putHandler i x).pl = s.pl := rfl
@[simp] theorem putHandler_bus (i : Fin 2) (x : Handler) : (s.putHandler i x).bus = s.bus := rfl
@[simp] theorem putHandler_pins (i : Fin 2) (x : Handler) : (s.putHandler i x).pins = s.pins := rfl
@[simp] theorem putHandler_eeprom (i : Fin 2) (x : Handler) : (s.putHandler i x).eeprom = s.eeprom := rfl
@[simp] theorem putHandler_tenth (i : Fin 2) (x : Handler) : (s.putHandler i x).tenth = s.tenth := rfl
@[simp] theorem putHandler_free (i : Fin 2) (x : Handler) : (s.putHandler i x).free = s.free := rfl
@[simp] theorem putHandler_pending (i : Fin 2) (x : Handler) : (s.putHandler i x).pending = s.pending := rfl

/-- The record written reads as written. -/
@[simp] theorem putHandler_handler_same (i : Fin 2) (x : Handler) : (s.putHandler i x).handler i = x := by
  simp [putHandler, handler]

/-- Every other record reads as before. -/
theorem putHandler_handler_other {i j : Fin 2} (h : i ≠ j) (x : Handler) : (s.putHandler i x).handler j = s.handler j := by
  have h' : i.val ≠ j.val := fun e => h (Fin.ext e)
  simp [putHandler, handler, h']

/-! ### putRenewal -/

@[simp] theorem putRenewal_zr (i : Fin 2) (x : Renewal) : (s.putRenewal i x).zr = s.zr := rfl
@[simp] theorem putRenewal_hs (i : Fin 2) (x : Renewal) : (s.putRenewal i x).hs = s.hs := rfl
@[simp] theorem putRenewal_pa (i : Fin 2) (x : Renewal) : (s.putRenewal i x).pa = s.pa := rfl
@[simp] theorem putRenewal_su (i : Fin 2) (x : Renewal) : (s.putRenewal i x).su = s.su := rfl
@[simp] theorem putRenewal_ou (i : Fin 2) (x : Renewal) : (s.putRenewal i x).ou = s.ou := rfl
@[simp] theorem putRenewal_ml (i : Fin 2) (x : Renewal) : (s.putRenewal i x).ml = s.ml := rfl
@[simp] theorem putRenewal_sc (i : Fin 2) (x : Renewal) : (s.putRenewal i x).sc = s.sc := rfl
@[simp] theorem putRenewal_lu (i : Fin 2) (x : Renewal) : (s.putRenewal i x).lu = s.lu := rfl
@[simp] theorem putRenewal_pl (i : Fin 2) (x : Renewal) : (s.putRenewal i x).pl = s.pl := rfl
@[simp] theorem putRenewal_bus (i : Fin 2) (x : Renewal) : (s.putRenewal i x).bus = s.bus := rfl
@[simp] theorem putRenewal_pins (i : Fin 2) (x : Renewal) : (s.putRenewal i x).pins = s.pins := rfl
@[simp] theorem putRenewal_eeprom (i : Fin 2) (x : Renewal) : (s.putRenewal i x).eeprom = s.eeprom := rfl
@[simp] theorem putRenewal_tenth (i : Fin 2) (x : Renewal) : (s.putRenewal i x).tenth = s.tenth := rfl
@[simp] theorem putRenewal_free (i : Fin 2) (x : Renewal) : (s.putRenewal i x).free = s.free := rfl
@[simp] theorem putRenewal_pending (i : Fin 2) (x : Renewal) : (s.putRenewal i x).pending = s.pending := rfl

/-- The record written reads as written. -/
@[simp] theorem putRenewal_renewal_same (i : Fin 2) (x : Renewal) : (s.putRenewal i x).renewal i = x := by
  simp [putRenewal, renewal]

/-- Every other record reads as before. -/
theorem putRenewal_renewal_other {i j : Fin 2} (h : i ≠ j) (x : Renewal) : (s.putRenewal i x).renewal j = s.renewal j := by
  have h' : i.val ≠ j.val := fun e => h (Fin.ext e)
  simp [putRenewal, renewal, h']

/-! ### putBank -/

@[simp] theorem putBank_zr (i : Fin 3) (x : Bank) : (s.putBank i x).zr = s.zr := rfl
@[simp] theorem putBank_hs (i : Fin 3) (x : Bank) : (s.putBank i x).hs = s.hs := rfl
@[simp] theorem putBank_pa (i : Fin 3) (x : Bank) : (s.putBank i x).pa = s.pa := rfl
@[simp] theorem putBank_rs (i : Fin 3) (x : Bank) : (s.putBank i x).rs = s.rs := rfl
@[simp] theorem putBank_ou (i : Fin 3) (x : Bank) : (s.putBank i x).ou = s.ou := rfl
@[simp] theorem putBank_ml (i : Fin 3) (x : Bank) : (s.putBank i x).ml = s.ml := rfl
@[simp] theorem putBank_sc (i : Fin 3) (x : Bank) : (s.putBank i x).sc = s.sc := rfl
@[simp] theorem putBank_lu (i : Fin 3) (x : Bank) : (s.putBank i x).lu = s.lu := rfl
@[simp] theorem putBank_pl (i : Fin 3) (x : Bank) : (s.putBank i x).pl = s.pl := rfl
@[simp] theorem putBank_bus (i : Fin 3) (x : Bank) : (s.putBank i x).bus = s.bus := rfl
@[simp] theorem putBank_pins (i : Fin 3) (x : Bank) : (s.putBank i x).pins = s.pins := rfl
@[simp] theorem putBank_eeprom (i : Fin 3) (x : Bank) : (s.putBank i x).eeprom = s.eeprom := rfl
@[simp] theorem putBank_tenth (i : Fin 3) (x : Bank) : (s.putBank i x).tenth = s.tenth := rfl
@[simp] theorem putBank_free (i : Fin 3) (x : Bank) : (s.putBank i x).free = s.free := rfl
@[simp] theorem putBank_pending (i : Fin 3) (x : Bank) : (s.putBank i x).pending = s.pending := rfl

/-- The record written reads as written. -/
@[simp] theorem putBank_bank_same (i : Fin 3) (x : Bank) : (s.putBank i x).bank i = x := by
  simp [putBank, bank]

/-- Every other record reads as before. -/
theorem putBank_bank_other {i j : Fin 3} (h : i ≠ j) (x : Bank) : (s.putBank i x).bank j = s.bank j := by
  have h' : i.val ≠ j.val := fun e => h (Fin.ext e)
  simp [putBank, bank, h']

/-! ### putPoint -/

@[simp] theorem putPoint_zr (i : Fin 32) (x : Point) : (s.putPoint i x).zr = s.zr := rfl
@[simp] theorem putPoint_hs (i : Fin 32) (x : Point) : (s.putPoint i x).hs = s.hs := rfl
@[simp] theorem putPoint_pa (i : Fin 32) (x : Point) : (s.putPoint i x).pa = s.pa := rfl
@[simp] theorem putPoint_rs (i : Fin 32) (x : Point) : (s.putPoint i x).rs = s.rs := rfl
@[simp] theorem putPoint_ou (i : Fin 32) (x : Point) : (s.putPoint i x).ou = s.ou := rfl
@[simp] theorem putPoint_ml (i : Fin 32) (x : Point) : (s.putPoint i x).ml = s.ml := rfl
@[simp] theorem putPoint_sc (i : Fin 32) (x : Point) : (s.putPoint i x).sc = s.sc := rfl
@[simp] theorem putPoint_lu (i : Fin 32) (x : Point) : (s.putPoint i x).lu = s.lu := rfl
@[simp] theorem putPoint_pl (i : Fin 32) (x : Point) : (s.putPoint i x).pl = s.pl := rfl
@[simp] theorem putPoint_bus (i : Fin 32) (x : Point) : (s.putPoint i x).bus = s.bus := rfl
@[simp] theorem putPoint_pins (i : Fin 32) (x : Point) : (s.putPoint i x).pins = s.pins := rfl
@[simp] theorem putPoint_eeprom (i : Fin 32) (x : Point) : (s.putPoint i x).eeprom = s.eeprom := rfl
@[simp] theorem putPoint_tenth (i : Fin 32) (x : Point) : (s.putPoint i x).tenth = s.tenth := rfl
@[simp] theorem putPoint_free (i : Fin 32) (x : Point) : (s.putPoint i x).free = s.free := rfl
@[simp] theorem putPoint_pending (i : Fin 32) (x : Point) : (s.putPoint i x).pending = s.pending := rfl

/-- The record written reads as written. -/
@[simp] theorem putPoint_point_same (i : Fin 32) (x : Point) : (s.putPoint i x).point i = x := by
  simp [putPoint, point]

/-- Every other record reads as before. -/
theorem putPoint_point_other {i j : Fin 32} (h : i ≠ j) (x : Point) : (s.putPoint i x).point j = s.point j := by
  have h' : i.val ≠ j.val := fun e => h (Fin.ext e)
  simp [putPoint, point, h']

/-! ### putDoor -/

@[simp] theorem putDoor_zr (i : Fin 4) (x : Door) : (s.putDoor i x).zr = s.zr := rfl
@[simp] theorem putDoor_hs (i : Fin 4) (x : Door) : (s.putDoor i x).hs = s.hs := rfl
@[simp] theorem putDoor_pa (i : Fin 4) (x : Door) : (s.putDoor i x).pa = s.pa := rfl
@[simp] theorem putDoor_rs (i : Fin 4) (x : Door) : (s.putDoor i x).rs = s.rs := rfl
@[simp] theorem putDoor_ou (i : Fin 4) (x : Door) : (s.putDoor i x).ou = s.ou := rfl
@[simp] theorem putDoor_ml (i : Fin 4) (x : Door) : (s.putDoor i x).ml = s.ml := rfl
@[simp] theorem putDoor_sc (i : Fin 4) (x : Door) : (s.putDoor i x).sc = s.sc := rfl
@[simp] theorem putDoor_lu (i : Fin 4) (x : Door) : (s.putDoor i x).lu = s.lu := rfl
@[simp] theorem putDoor_pl (i : Fin 4) (x : Door) : (s.putDoor i x).pl = s.pl := rfl
@[simp] theorem putDoor_bus (i : Fin 4) (x : Door) : (s.putDoor i x).bus = s.bus := rfl
@[simp] theorem putDoor_pins (i : Fin 4) (x : Door) : (s.putDoor i x).pins = s.pins := rfl
@[simp] theorem putDoor_eeprom (i : Fin 4) (x : Door) : (s.putDoor i x).eeprom = s.eeprom := rfl
@[simp] theorem putDoor_tenth (i : Fin 4) (x : Door) : (s.putDoor i x).tenth = s.tenth := rfl
@[simp] theorem putDoor_free (i : Fin 4) (x : Door) : (s.putDoor i x).free = s.free := rfl
@[simp] theorem putDoor_pending (i : Fin 4) (x : Door) : (s.putDoor i x).pending = s.pending := rfl

/-- The record written reads as written. -/
@[simp] theorem putDoor_door_same (i : Fin 4) (x : Door) : (s.putDoor i x).door i = x := by
  simp [putDoor, door]

/-- Every other record reads as before. -/
theorem putDoor_door_other {i j : Fin 4} (h : i ≠ j) (x : Door) : (s.putDoor i x).door j = s.door j := by
  have h' : i.val ≠ j.val := fun e => h (Fin.ext e)
  simp [putDoor, door, h']

/-! ### putChannel -/

@[simp] theorem putChannel_zr (i : Fin 16) (x : Channel) : (s.putChannel i x).zr = s.zr := rfl
@[simp] theorem putChannel_hs (i : Fin 16) (x : Channel) : (s.putChannel i x).hs = s.hs := rfl
@[simp] theorem putChannel_pa (i : Fin 16) (x : Channel) : (s.putChannel i x).pa = s.pa := rfl
@[simp] theorem putChannel_rs (i : Fin 16) (x : Channel) : (s.putChannel i x).rs = s.rs := rfl
@[simp] theorem putChannel_su (i : Fin 16) (x : Channel) : (s.putChannel i x).su = s.su := rfl
@[simp] theorem putChannel_ml (i : Fin 16) (x : Channel) : (s.putChannel i x).ml = s.ml := rfl
@[simp] theorem putChannel_sc (i : Fin 16) (x : Channel) : (s.putChannel i x).sc = s.sc := rfl
@[simp] theorem putChannel_lu (i : Fin 16) (x : Channel) : (s.putChannel i x).lu = s.lu := rfl
@[simp] theorem putChannel_pl (i : Fin 16) (x : Channel) : (s.putChannel i x).pl = s.pl := rfl
@[simp] theorem putChannel_bus (i : Fin 16) (x : Channel) : (s.putChannel i x).bus = s.bus := rfl
@[simp] theorem putChannel_pins (i : Fin 16) (x : Channel) : (s.putChannel i x).pins = s.pins := rfl
@[simp] theorem putChannel_eeprom (i : Fin 16) (x : Channel) : (s.putChannel i x).eeprom = s.eeprom := rfl
@[simp] theorem putChannel_tenth (i : Fin 16) (x : Channel) : (s.putChannel i x).tenth = s.tenth := rfl
@[simp] theorem putChannel_free (i : Fin 16) (x : Channel) : (s.putChannel i x).free = s.free := rfl
@[simp] theorem putChannel_pending (i : Fin 16) (x : Channel) : (s.putChannel i x).pending = s.pending := rfl

/-- The record written reads as written. -/
@[simp] theorem putChannel_channel_same (i : Fin 16) (x : Channel) : (s.putChannel i x).channel i = x := by
  simp [putChannel, channel]

/-- Every other record reads as before. -/
theorem putChannel_channel_other {i j : Fin 16} (h : i ≠ j) (x : Channel) : (s.putChannel i x).channel j = s.channel j := by
  have h' : i.val ≠ j.val := fun e => h (Fin.ext e)
  simp [putChannel, channel, h']

/-! ### putSlot -/

@[simp] theorem putSlot_zr (i : Fin 8) (x : Slot) : (s.putSlot i x).zr = s.zr := rfl
@[simp] theorem putSlot_hs (i : Fin 8) (x : Slot) : (s.putSlot i x).hs = s.hs := rfl
@[simp] theorem putSlot_pa (i : Fin 8) (x : Slot) : (s.putSlot i x).pa = s.pa := rfl
@[simp] theorem putSlot_rs (i : Fin 8) (x : Slot) : (s.putSlot i x).rs = s.rs := rfl
@[simp] theorem putSlot_su (i : Fin 8) (x : Slot) : (s.putSlot i x).su = s.su := rfl
@[simp] theorem putSlot_ou (i : Fin 8) (x : Slot) : (s.putSlot i x).ou = s.ou := rfl
@[simp] theorem putSlot_sc (i : Fin 8) (x : Slot) : (s.putSlot i x).sc = s.sc := rfl
@[simp] theorem putSlot_lu (i : Fin 8) (x : Slot) : (s.putSlot i x).lu = s.lu := rfl
@[simp] theorem putSlot_pl (i : Fin 8) (x : Slot) : (s.putSlot i x).pl = s.pl := rfl
@[simp] theorem putSlot_bus (i : Fin 8) (x : Slot) : (s.putSlot i x).bus = s.bus := rfl
@[simp] theorem putSlot_pins (i : Fin 8) (x : Slot) : (s.putSlot i x).pins = s.pins := rfl
@[simp] theorem putSlot_eeprom (i : Fin 8) (x : Slot) : (s.putSlot i x).eeprom = s.eeprom := rfl
@[simp] theorem putSlot_tenth (i : Fin 8) (x : Slot) : (s.putSlot i x).tenth = s.tenth := rfl
@[simp] theorem putSlot_free (i : Fin 8) (x : Slot) : (s.putSlot i x).free = s.free := rfl
@[simp] theorem putSlot_pending (i : Fin 8) (x : Slot) : (s.putSlot i x).pending = s.pending := rfl

/-- The record written reads as written. -/
@[simp] theorem putSlot_slot_same (i : Fin 8) (x : Slot) : (s.putSlot i x).slot i = x := by
  simp [putSlot, slot]

/-- Every other record reads as before. -/
theorem putSlot_slot_other {i j : Fin 8} (h : i ≠ j) (x : Slot) : (s.putSlot i x).slot j = s.slot j := by
  have h' : i.val ≠ j.val := fun e => h (Fin.ext e)
  simp [putSlot, slot, h']

end Sys2Proof.Machine.State
end

