-- ==== Sys2Proof/Laws/Frames.lean ====
section
/-! SUPPORT. What each shared operation leaves unchanged: one lemma for each,
      a rewrite rule for every field it never touches. -/

namespace Sys2Proof.Machine

/-- What every operation of a fold keeps, the fold keeps. -/
theorem foldl_keeps {α β : Type} (g : State → β) (f : State → α → State) (h : ∀ s x,
      g (f s x) = g s) (l : List α) (s : State) :
    g (l.foldl f s) = g s := by
  induction l generalizing s with
  | nil => rfl
  | cons x xs ih => rw [List.foldl_cons, ih, h]

theorem forPoints_keeps {β : Type} (g : State → β) {f : Fin 32 → State → State} (h : ∀ p s, g (f p s) = g s) (s : State) :
    g (forPoints f s) = g s := foldl_keeps g _ (fun s p => h p s) _ s

theorem forSlots_keeps {β : Type} (g : State → β) {f : Fin 8 → State → State} (h : ∀ p s, g (f p s) = g s) (s : State) :
    g (forSlots f s) = g s := foldl_keeps g _ (fun s p => h p s) _ s

theorem forChannels_keeps {β : Type} (g : State → β) {f : Fin 16 → State → State} (h : ∀ p s, g (f p s) = g s) (s : State) :
    g (forChannels f s) = g s := foldl_keeps g _ (fun s p => h p s) _ s

theorem forBanks_keeps {β : Type} (g : State → β) {f : Fin 3 → State → State} (h : ∀ p s, g (f p s) = g s) (s : State) :
    g (forBanks f s) = g s := foldl_keeps g _ (fun s p => h p s) _ s

theorem forHandlers_keeps {β : Type} (g : State → β) {f : Fin 2 → State → State} (h : ∀ p s, g (f p s) = g s) (s : State) :
    g (forHandlers f s) = g s := by rw [forHandlers, h, h]

variable (s : State)

/-! ### Events, frames, values -/

@[simp] theorem latch_frame (k : EventKind) (n : Nat) (v : Int) :
    (latch k n v s).zr = s.zr ∧ (latch k n v s).hs = s.hs ∧ (latch k n v s).pa = s.pa ∧ (latch k n v s).rs = s.rs ∧
      (latch k n v s).su = s.su ∧ (latch k n v s).ou = s.ou ∧ (latch k n v s).ml = s.ml ∧ (latch k n v s).sc = s.sc ∧
      (latch k n v s).pl = s.pl ∧ (latch k n v s).bus = s.bus ∧ (latch k n v s).pins = s.pins ∧
      (latch k n v s).eeprom = s.eeprom ∧ (latch k n v s).tenth = s.tenth ∧ (latch k n v s).free = s.free ∧
      (latch k n v s).pending = s.pending := by simp [latch]

@[simp] theorem kick_frame :
    (kick s).zr = s.zr ∧ (kick s).hs = s.hs ∧ (kick s).pa = s.pa ∧ (kick s).rs = s.rs ∧ (kick s).su = s.su ∧
      (kick s).ou = s.ou ∧ (kick s).ml = s.ml ∧ (kick s).sc = s.sc ∧ (kick s).pl = s.pl ∧ (kick s).bus = s.bus ∧
      (kick s).pins = s.pins ∧ (kick s).eeprom = s.eeprom ∧ (kick s).tenth = s.tenth ∧ (kick s).free = s.free ∧
      (kick s).pending = s.pending := by
  simp only [kick]
  repeat' split
  all_goals simp

@[simp] theorem answerDue_frame (k : Byte) (c : List Byte) :
    (answerDue k c s).zr = s.zr ∧ (answerDue k c s).hs = s.hs ∧ (answerDue k c s).pa = s.pa ∧
      (answerDue k c s).rs = s.rs ∧ (answerDue k c s).su = s.su ∧ (answerDue k c s).ou = s.ou ∧
      (answerDue k c s).ml = s.ml ∧ (answerDue k c s).sc = s.sc ∧ (answerDue k c s).pl = s.pl ∧
      (answerDue k c s).bus = s.bus ∧ (answerDue k c s).pins = s.pins ∧ (answerDue k c s).eeprom = s.eeprom ∧
      (answerDue k c s).tenth = s.tenth ∧ (answerDue k c s).free = s.free ∧
      (answerDue k c s).pending = s.pending := by simp [answerDue]

@[simp] theorem handValue_frame (r : Role) (v : Nat) :
    (handValue r v s).zr = s.zr ∧ (handValue r v s).hs = s.hs ∧ (handValue r v s).pa = s.pa ∧
      (handValue r v s).rs = s.rs ∧ (handValue r v s).su = s.su ∧ (handValue r v s).ou = s.ou ∧
      (handValue r v s).ml = s.ml ∧ (handValue r v s).sc = s.sc ∧ (handValue r v s).lu = s.lu ∧
      (handValue r v s).pl = s.pl ∧ (handValue r v s).pins = s.pins ∧ (handValue r v s).eeprom = s.eeprom ∧
      (handValue r v s).tenth = s.tenth ∧ (handValue r v s).free = s.free ∧
      (handValue r v s).pending = s.pending := by simp [handValue]

/-! ### Handlers outside the stages -/

@[simp] theorem takeMode_frame (h : Fin 2) (m : Mode) :
    (takeMode h m s).zr = s.zr ∧ (takeMode h m s).pa = s.pa ∧ (takeMode h m s).rs = s.rs ∧ (takeMode h m s).su = s.su ∧
      (takeMode h m s).ou = s.ou ∧ (takeMode h m s).ml = s.ml ∧ (takeMode h m s).sc = s.sc ∧ (takeMode h m s).pl = s.pl ∧
      (takeMode h m s).bus = s.bus ∧ (takeMode h m s).pins = s.pins ∧ (takeMode h m s).eeprom = s.eeprom ∧
      (takeMode h m s).tenth = s.tenth ∧ (takeMode h m s).free = s.free ∧ (takeMode h m s).pending = s.pending := by
  simp only [takeMode]
  repeat' split
  all_goals simp

@[simp] theorem endDefrost_frame (h : Fin 2) (r : DefrostEnd) :
    (endDefrost h r s).zr = s.zr ∧ (endDefrost h r s).pa = s.pa ∧ (endDefrost h r s).rs = s.rs ∧
      (endDefrost h r s).su = s.su ∧ (endDefrost h r s).ou = s.ou ∧ (endDefrost h r s).ml = s.ml ∧
      (endDefrost h r s).sc = s.sc ∧ (endDefrost h r s).pl = s.pl ∧ (endDefrost h r s).bus = s.bus ∧
      (endDefrost h r s).pins = s.pins ∧ (endDefrost h r s).eeprom = s.eeprom ∧ (endDefrost h r s).tenth = s.tenth ∧
      (endDefrost h r s).free = s.free ∧ (endDefrost h r s).pending = s.pending := by simp [endDefrost]

@[simp] theorem readAir_frame :
    (readAir s).zr = s.zr ∧ (readAir s).pa = s.pa ∧ (readAir s).rs = s.rs ∧ (readAir s).su = s.su ∧
      (readAir s).ou = s.ou ∧ (readAir s).ml = s.ml ∧ (readAir s).sc = s.sc ∧ (readAir s).lu = s.lu ∧
      (readAir s).pl = s.pl ∧ (readAir s).bus = s.bus ∧ (readAir s).pins = s.pins ∧ (readAir s).eeprom = s.eeprom ∧
      (readAir s).tenth = s.tenth ∧ (readAir s).free = s.free ∧ (readAir s).pending = s.pending := by
  simp [readAir]

@[simp] theorem timerStart_frame (b : Bool) :
    (timerStart b s).zr = s.zr ∧ (timerStart b s).pa = s.pa ∧ (timerStart b s).rs = s.rs ∧
      (timerStart b s).su = s.su ∧ (timerStart b s).ou = s.ou ∧ (timerStart b s).ml = s.ml ∧
      (timerStart b s).sc = s.sc ∧ (timerStart b s).lu = s.lu ∧ (timerStart b s).pl = s.pl ∧
      (timerStart b s).bus = s.bus ∧ (timerStart b s).pins = s.pins ∧ (timerStart b s).eeprom = s.eeprom ∧
      (timerStart b s).tenth = s.tenth ∧ (timerStart b s).free = s.free ∧ (timerStart b s).pending = s.pending := by
  cases b <;> simp [timerStart]

@[simp] theorem leaveTo_frame (h : Fin 2) (m : Mode) (r : DefrostEnd) :
    (leaveTo h m r s).zr = s.zr ∧ (leaveTo h m r s).pa = s.pa ∧ (leaveTo h m r s).rs = s.rs ∧
      (leaveTo h m r s).su = s.su ∧ (leaveTo h m r s).ou = s.ou ∧ (leaveTo h m r s).ml = s.ml ∧
      (leaveTo h m r s).sc = s.sc ∧ (leaveTo h m r s).pl = s.pl ∧ (leaveTo h m r s).bus = s.bus ∧
      (leaveTo h m r s).pins = s.pins ∧ (leaveTo h m r s).eeprom = s.eeprom ∧ (leaveTo h m r s).tenth = s.tenth ∧
      (leaveTo h m r s).free = s.free ∧ (leaveTo h m r s).pending = s.pending := by
  simp only [leaveTo]
  repeat' split
  all_goals simp

@[simp] theorem tellDrive_frame (h : Fin 2) :
    (tellDrive h s).zr = s.zr ∧ (tellDrive h s).pa = s.pa ∧ (tellDrive h s).rs = s.rs ∧ (tellDrive h s).su = s.su ∧
      (tellDrive h s).ou = s.ou ∧ (tellDrive h s).ml = s.ml ∧ (tellDrive h s).sc = s.sc ∧ (tellDrive h s).lu = s.lu ∧
      (tellDrive h s).pl = s.pl ∧ (tellDrive h s).bus = s.bus ∧ (tellDrive h s).pins = s.pins ∧
      (tellDrive h s).eeprom = s.eeprom ∧ (tellDrive h s).tenth = s.tenth ∧ (tellDrive h s).free = s.free ∧
      (tellDrive h s).pending = s.pending := by
  simp only [tellDrive]
  repeat' split
  all_goals simp

@[simp] theorem tellDrives_frame :
    (tellDrives s).zr = s.zr ∧ (tellDrives s).pa = s.pa ∧ (tellDrives s).rs = s.rs ∧ (tellDrives s).su = s.su ∧
      (tellDrives s).ou = s.ou ∧ (tellDrives s).ml = s.ml ∧ (tellDrives s).sc = s.sc ∧ (tellDrives s).lu = s.lu ∧
      (tellDrives s).pl = s.pl ∧ (tellDrives s).bus = s.bus ∧ (tellDrives s).pins = s.pins ∧
      (tellDrives s).eeprom = s.eeprom ∧ (tellDrives s).tenth = s.tenth ∧ (tellDrives s).free = s.free ∧
      (tellDrives s).pending = s.pending := by simp [tellDrives, forHandlers]

@[simp] theorem renewFresh_frame (h : Fin 2) :
    (renewFresh h s).zr = s.zr ∧ (renewFresh h s).pa = s.pa ∧ (renewFresh h s).rs = s.rs ∧ (renewFresh h s).su = s.su ∧
      (renewFresh h s).ou = s.ou ∧ (renewFresh h s).ml = s.ml ∧ (renewFresh h s).sc = s.sc ∧ (renewFresh h s).lu = s.lu ∧
      (renewFresh h s).pl = s.pl ∧ (renewFresh h s).pins = s.pins ∧ (renewFresh h s).eeprom = s.eeprom ∧
      (renewFresh h s).tenth = s.tenth ∧ (renewFresh h s).free = s.free ∧
      (renewFresh h s).pending = s.pending := by simp [renewFresh]

@[simp] theorem renewBlower_frame (h : Fin 2) :
    (renewBlower h s).zr = s.zr ∧ (renewBlower h s).pa = s.pa ∧ (renewBlower h s).rs = s.rs ∧
      (renewBlower h s).su = s.su ∧ (renewBlower h s).ou = s.ou ∧ (renewBlower h s).ml = s.ml ∧
      (renewBlower h s).sc = s.sc ∧ (renewBlower h s).lu = s.lu ∧ (renewBlower h s).pl = s.pl ∧
      (renewBlower h s).pins = s.pins ∧ (renewBlower h s).eeprom = s.eeprom ∧ (renewBlower h s).tenth = s.tenth ∧
      (renewBlower h s).free = s.free ∧ (renewBlower h s).pending = s.pending := by simp [renewBlower]

@[simp] theorem renewAir_frame (h : Fin 2) :
    (renewAir h s).zr = s.zr ∧ (renewAir h s).pa = s.pa ∧ (renewAir h s).rs = s.rs ∧ (renewAir h s).su = s.su ∧
      (renewAir h s).ou = s.ou ∧ (renewAir h s).ml = s.ml ∧ (renewAir h s).sc = s.sc ∧ (renewAir h s).lu = s.lu ∧
      (renewAir h s).pl = s.pl ∧ (renewAir h s).pins = s.pins ∧ (renewAir h s).eeprom = s.eeprom ∧
      (renewAir h s).tenth = s.tenth ∧ (renewAir h s).free = s.free ∧
      (renewAir h s).pending = s.pending := by simp [renewAir]

/-! ### Renewals -/

@[simp] theorem startRenewal_frame (h : Fin 2) (k : RenewalKind) :
    (startRenewal h k s).zr = s.zr ∧ (startRenewal h k s).pa = s.pa ∧ (startRenewal h k s).su = s.su ∧
      (startRenewal h k s).ou = s.ou ∧ (startRenewal h k s).ml = s.ml ∧ (startRenewal h k s).sc = s.sc ∧
      (startRenewal h k s).lu = s.lu ∧ (startRenewal h k s).pl = s.pl ∧ (startRenewal h k s).pins = s.pins ∧
      (startRenewal h k s).eeprom = s.eeprom ∧ (startRenewal h k s).tenth = s.tenth ∧
      (startRenewal h k s).free = s.free ∧ (startRenewal h k s).pending = s.pending := by
  simp only [startRenewal]
  repeat' split
  all_goals simp

@[simp] theorem evaluate_frame (h : Fin 2) :
    (evaluate h s).zr = s.zr ∧ (evaluate h s).pa = s.pa ∧ (evaluate h s).su = s.su ∧ (evaluate h s).ou = s.ou ∧
      (evaluate h s).ml = s.ml ∧ (evaluate h s).sc = s.sc ∧ (evaluate h s).lu = s.lu ∧ (evaluate h s).pl = s.pl ∧
      (evaluate h s).pins = s.pins ∧ (evaluate h s).eeprom = s.eeprom ∧ (evaluate h s).tenth = s.tenth ∧
      (evaluate h s).free = s.free ∧ (evaluate h s).pending = s.pending := by
  simp only [evaluate]
  repeat' split
  all_goals simp

@[simp] theorem credit_frame (h : Fin 2) :
    (credit h s).zr = s.zr ∧ (credit h s).hs = s.hs ∧ (credit h s).pa = s.pa ∧ (credit h s).su = s.su ∧
      (credit h s).ou = s.ou ∧ (credit h s).ml = s.ml ∧ (credit h s).sc = s.sc ∧ (credit h s).lu = s.lu ∧
      (credit h s).pl = s.pl ∧ (credit h s).bus = s.bus ∧ (credit h s).pins = s.pins ∧ (credit h s).eeprom = s.eeprom ∧
      (credit h s).tenth = s.tenth ∧ (credit h s).free = s.free ∧ (credit h s).pending = s.pending := by simp [credit]

@[simp] theorem endRenewal_frame (h : Fin 2) (e : RenewalEnd) :
    (endRenewal h e s).zr = s.zr ∧ (endRenewal h e s).pa = s.pa ∧ (endRenewal h e s).su = s.su ∧
      (endRenewal h e s).ou = s.ou ∧ (endRenewal h e s).ml = s.ml ∧ (endRenewal h e s).sc = s.sc ∧
      (endRenewal h e s).lu = s.lu ∧ (endRenewal h e s).pl = s.pl ∧ (endRenewal h e s).pins = s.pins ∧
      (endRenewal h e s).eeprom = s.eeprom ∧ (endRenewal h e s).tenth = s.tenth ∧ (endRenewal h e s).free = s.free ∧
      (endRenewal h e s).pending = s.pending := by simp [endRenewal]

@[simp] theorem abortRenewal_frame (h : Fin 2) (e : RenewalEnd) :
    (abortRenewal h e s).zr = s.zr ∧ (abortRenewal h e s).pa = s.pa ∧ (abortRenewal h e s).su = s.su ∧
      (abortRenewal h e s).ou = s.ou ∧ (abortRenewal h e s).ml = s.ml ∧ (abortRenewal h e s).sc = s.sc ∧
      (abortRenewal h e s).lu = s.lu ∧ (abortRenewal h e s).pl = s.pl ∧ (abortRenewal h e s).pins = s.pins ∧
      (abortRenewal h e s).eeprom = s.eeprom ∧ (abortRenewal h e s).tenth = s.tenth ∧
      (abortRenewal h e s).free = s.free ∧ (abortRenewal h e s).pending = s.pending := by
  simp only [abortRenewal]
  repeat' split
  all_goals simp

@[simp] theorem intervalExpired_frame (h : Fin 2) :
    (intervalExpired h s).zr = s.zr ∧ (intervalExpired h s).pa = s.pa ∧ (intervalExpired h s).su = s.su ∧
      (intervalExpired h s).ou = s.ou ∧ (intervalExpired h s).ml = s.ml ∧ (intervalExpired h s).sc = s.sc ∧
      (intervalExpired h s).pl = s.pl ∧ (intervalExpired h s).pins = s.pins ∧ (intervalExpired h s).eeprom = s.eeprom ∧
      (intervalExpired h s).tenth = s.tenth ∧ (intervalExpired h s).free = s.free ∧
      (intervalExpired h s).pending = s.pending := by
  simp only [intervalExpired]
  repeat' split
  all_goals simp

@[simp] theorem doorCredit_frame (d : Fin 4) :
    (doorCredit d s).zr = s.zr ∧ (doorCredit d s).pa = s.pa ∧ (doorCredit d s).su = s.su ∧ (doorCredit d s).ou = s.ou ∧
      (doorCredit d s).ml = s.ml ∧ (doorCredit d s).sc = s.sc ∧ (doorCredit d s).lu = s.lu ∧ (doorCredit d s).pl = s.pl ∧
      (doorCredit d s).pins = s.pins ∧ (doorCredit d s).eeprom = s.eeprom ∧ (doorCredit d s).tenth = s.tenth ∧
      (doorCredit d s).free = s.free ∧ (doorCredit d s).pending = s.pending := by
  simp only [doorCredit, forHandlers]
  repeat' split
  all_goals simp

@[simp] theorem renewalsLeaveRun_frame :
    (renewalsLeaveRun s).zr = s.zr ∧ (renewalsLeaveRun s).hs = s.hs ∧ (renewalsLeaveRun s).pa = s.pa ∧
      (renewalsLeaveRun s).su = s.su ∧ (renewalsLeaveRun s).ou = s.ou ∧ (renewalsLeaveRun s).ml = s.ml ∧
      (renewalsLeaveRun s).sc = s.sc ∧ (renewalsLeaveRun s).lu = s.lu ∧ (renewalsLeaveRun s).pl = s.pl ∧
      (renewalsLeaveRun s).bus = s.bus ∧ (renewalsLeaveRun s).pins = s.pins ∧ (renewalsLeaveRun s).eeprom = s.eeprom ∧
      (renewalsLeaveRun s).tenth = s.tenth ∧ (renewalsLeaveRun s).free = s.free ∧
      (renewalsLeaveRun s).pending = s.pending := by
  simp only [renewalsLeaveRun, forHandlers]
  repeat' split
  all_goals simp

@[simp] theorem renewalsRestart_frame :
    (renewalsRestart s).zr = s.zr ∧ (renewalsRestart s).hs = s.hs ∧ (renewalsRestart s).pa = s.pa ∧
      (renewalsRestart s).su = s.su ∧ (renewalsRestart s).ou = s.ou ∧ (renewalsRestart s).ml = s.ml ∧
      (renewalsRestart s).sc = s.sc ∧ (renewalsRestart s).lu = s.lu ∧ (renewalsRestart s).pl = s.pl ∧
      (renewalsRestart s).bus = s.bus ∧ (renewalsRestart s).pins = s.pins ∧ (renewalsRestart s).eeprom = s.eeprom ∧
      (renewalsRestart s).tenth = s.tenth ∧ (renewalsRestart s).free = s.free ∧
      (renewalsRestart s).pending = s.pending := by simp [renewalsRestart]

@[simp] theorem renewalsLoaded_frame :
    (renewalsLoaded s).zr = s.zr ∧ (renewalsLoaded s).hs = s.hs ∧ (renewalsLoaded s).pa = s.pa ∧
      (renewalsLoaded s).su = s.su ∧ (renewalsLoaded s).ou = s.ou ∧ (renewalsLoaded s).ml = s.ml ∧
      (renewalsLoaded s).sc = s.sc ∧ (renewalsLoaded s).lu = s.lu ∧ (renewalsLoaded s).pl = s.pl ∧
      (renewalsLoaded s).bus = s.bus ∧ (renewalsLoaded s).pins = s.pins ∧ (renewalsLoaded s).eeprom = s.eeprom ∧
      (renewalsLoaded s).tenth = s.tenth ∧ (renewalsLoaded s).free = s.free ∧
      (renewalsLoaded s).pending = s.pending := by simp [renewalsLoaded, forHandlers]

/-! ### Points, trims, settings of points -/

@[simp] theorem takeInRange_frame (p : Fin 32) (t : Int) :
    (takeInRange p t s).zr = s.zr ∧ (takeInRange p t s).hs = s.hs ∧ (takeInRange p t s).pa = s.pa ∧
      (takeInRange p t s).rs = s.rs ∧ (takeInRange p t s).ou = s.ou ∧ (takeInRange p t s).ml = s.ml ∧
      (takeInRange p t s).sc = s.sc ∧ (takeInRange p t s).pl = s.pl ∧ (takeInRange p t s).bus = s.bus ∧
      (takeInRange p t s).pins = s.pins ∧ (takeInRange p t s).eeprom = s.eeprom ∧ (takeInRange p t s).tenth = s.tenth ∧
      (takeInRange p t s).free = s.free ∧ (takeInRange p t s).pending = s.pending := by
  simp only [takeInRange]
  repeat' split
  all_goals simp

@[simp] theorem takeOutOfRange_frame (p : Fin 32) :
    (takeOutOfRange p s).zr = s.zr ∧ (takeOutOfRange p s).hs = s.hs ∧ (takeOutOfRange p s).pa = s.pa ∧
      (takeOutOfRange p s).rs = s.rs ∧ (takeOutOfRange p s).ou = s.ou ∧ (takeOutOfRange p s).ml = s.ml ∧
      (takeOutOfRange p s).sc = s.sc ∧ (takeOutOfRange p s).pl = s.pl ∧ (takeOutOfRange p s).bus = s.bus ∧
      (takeOutOfRange p s).pins = s.pins ∧ (takeOutOfRange p s).eeprom = s.eeprom ∧
      (takeOutOfRange p s).tenth = s.tenth ∧ (takeOutOfRange p s).free = s.free ∧
      (takeOutOfRange p s).pending = s.pending := by
  simp only [takeOutOfRange]
  repeat' split
  all_goals simp

@[simp] theorem takeRaw_frame (t : Fin 24) (r : Nat) (p : Fin 32) :
    (takeRaw t r p s).zr = s.zr ∧ (takeRaw t r p s).hs = s.hs ∧ (takeRaw t r p s).pa = s.pa ∧
      (takeRaw t r p s).rs = s.rs ∧ (takeRaw t r p s).ou = s.ou ∧ (takeRaw t r p s).ml = s.ml ∧
      (takeRaw t r p s).sc = s.sc ∧ (takeRaw t r p s).pl = s.pl ∧ (takeRaw t r p s).bus = s.bus ∧
      (takeRaw t r p s).pins = s.pins ∧ (takeRaw t r p s).eeprom = s.eeprom ∧ (takeRaw t r p s).tenth = s.tenth ∧
      (takeRaw t r p s).free = s.free ∧ (takeRaw t r p s).pending = s.pending := by
  simp only [takeRaw]
  repeat' split
  all_goals simp

@[simp] theorem takeItem_frame (i : Fin 8) (j : Fin 4) (v : Int) (p : Fin 32) :
    (takeItem i j v p s).zr = s.zr ∧ (takeItem i j v p s).hs = s.hs ∧ (takeItem i j v p s).pa = s.pa ∧
      (takeItem i j v p s).rs = s.rs ∧ (takeItem i j v p s).ou = s.ou ∧ (takeItem i j v p s).ml = s.ml ∧
      (takeItem i j v p s).sc = s.sc ∧ (takeItem i j v p s).pl = s.pl ∧ (takeItem i j v p s).bus = s.bus ∧
      (takeItem i j v p s).pins = s.pins ∧ (takeItem i j v p s).eeprom = s.eeprom ∧
      (takeItem i j v p s).tenth = s.tenth ∧ (takeItem i j v p s).free = s.free ∧
      (takeItem i j v p s).pending = s.pending := by
  simp only [takeItem]
  repeat' split
  all_goals simp

@[simp] theorem handItem_frame (i : Fin 8) (j : Fin 4) (v : Int) :
    (handItem i j v s).zr = s.zr ∧ (handItem i j v s).hs = s.hs ∧ (handItem i j v s).pa = s.pa ∧
      (handItem i j v s).rs = s.rs ∧ (handItem i j v s).ou = s.ou ∧ (handItem i j v s).ml = s.ml ∧
      (handItem i j v s).sc = s.sc ∧ (handItem i j v s).pl = s.pl ∧ (handItem i j v s).bus = s.bus ∧
      (handItem i j v s).pins = s.pins ∧ (handItem i j v s).eeprom = s.eeprom ∧ (handItem i j v s).tenth = s.tenth ∧
      (handItem i j v s).free = s.free ∧ (handItem i j v s).pending = s.pending :=
  ⟨forPoints_keeps (·.zr) (by intro p s; simp) s, forPoints_keeps (·.hs) (by intro p s; simp) s,
      forPoints_keeps (·.pa) (by intro p s; simp) s, forPoints_keeps (·.rs) (by intro p s; simp) s,
      forPoints_keeps (·.ou) (by intro p s; simp) s, forPoints_keeps (·.ml) (by intro p s; simp) s,
      forPoints_keeps (·.sc) (by intro p s; simp) s, forPoints_keeps (·.pl) (by intro p s; simp) s,
      forPoints_keeps (·.bus) (by intro p s; simp) s, forPoints_keeps (·.pins) (by intro p s; simp) s,
      forPoints_keeps (·.eeprom) (by intro p s; simp) s, forPoints_keeps (·.tenth) (by intro p s; simp) s,
      forPoints_keeps (·.free) (by intro p s; simp) s, forPoints_keeps (·.pending) (by intro p s; simp) s⟩

@[simp] theorem holdPoint_frame (p : Fin 32) :
    (holdPoint p s).zr = s.zr ∧ (holdPoint p s).hs = s.hs ∧ (holdPoint p s).pa = s.pa ∧ (holdPoint p s).rs = s.rs ∧
      (holdPoint p s).ou = s.ou ∧ (holdPoint p s).ml = s.ml ∧ (holdPoint p s).sc = s.sc ∧ (holdPoint p s).lu = s.lu ∧
      (holdPoint p s).pl = s.pl ∧ (holdPoint p s).bus = s.bus ∧ (holdPoint p s).pins = s.pins ∧
      (holdPoint p s).eeprom = s.eeprom ∧ (holdPoint p s).tenth = s.tenth ∧ (holdPoint p s).free = s.free ∧
      (holdPoint p s).pending = s.pending := by
  simp only [holdPoint]
  repeat' split
  all_goals simp

@[simp] theorem failPoint_frame (p : Fin 32) (c : Int) :
    (failPoint p c s).zr = s.zr ∧ (failPoint p c s).hs = s.hs ∧ (failPoint p c s).pa = s.pa ∧
      (failPoint p c s).rs = s.rs ∧ (failPoint p c s).ou = s.ou ∧ (failPoint p c s).ml = s.ml ∧
      (failPoint p c s).sc = s.sc ∧ (failPoint p c s).pl = s.pl ∧ (failPoint p c s).bus = s.bus ∧
      (failPoint p c s).pins = s.pins ∧ (failPoint p c s).eeprom = s.eeprom ∧ (failPoint p c s).tenth = s.tenth ∧
      (failPoint p c s).free = s.free ∧ (failPoint p c s).pending = s.pending := by
  simp only [failPoint]
  repeat' split
  all_goals simp

@[simp] theorem holdTapPoints_frame :
    (holdTapPoints s).zr = s.zr ∧ (holdTapPoints s).hs = s.hs ∧ (holdTapPoints s).pa = s.pa ∧
      (holdTapPoints s).rs = s.rs ∧ (holdTapPoints s).ou = s.ou ∧ (holdTapPoints s).ml = s.ml ∧
      (holdTapPoints s).sc = s.sc ∧ (holdTapPoints s).lu = s.lu ∧ (holdTapPoints s).pl = s.pl ∧
      (holdTapPoints s).bus = s.bus ∧ (holdTapPoints s).pins = s.pins ∧ (holdTapPoints s).eeprom = s.eeprom ∧
      (holdTapPoints s).tenth = s.tenth ∧ (holdTapPoints s).free = s.free ∧ (holdTapPoints s).pending = s.pending :=
  ⟨forPoints_keeps (·.zr) (by intro p s; split <;> simp) s, forPoints_keeps (·.hs) (by intro p s; split <;> simp) s,
      forPoints_keeps (·.pa) (by intro p s; split <;> simp) s, forPoints_keeps (·.rs) (by intro p s; split <;> simp) s,
      forPoints_keeps (·.ou) (by intro p s; split <;> simp) s, forPoints_keeps (·.ml) (by intro p s; split <;> simp) s,
      forPoints_keeps (·.sc) (by intro p s; split <;> simp) s, forPoints_keeps (·.lu) (by intro p s; split <;> simp) s,
      forPoints_keeps (·.pl) (by intro p s; split <;> simp) s, forPoints_keeps (·.bus) (by intro p s; split <;> simp) s,
      forPoints_keeps (·.pins) (by intro p s; split <;> simp) s,
      forPoints_keeps (·.eeprom) (by intro p s; split <;> simp) s,
      forPoints_keeps (·.tenth) (by intro p s; split <;> simp) s,
      forPoints_keeps (·.free) (by intro p s; split <;> simp) s,
      forPoints_keeps (·.pending) (by intro p s; split <;> simp) s⟩

@[simp] theorem trimQuiet_frame (b : Fin 3) :
    (trimQuiet b s).zr = s.zr ∧ (trimQuiet b s).hs = s.hs ∧ (trimQuiet b s).pa = s.pa ∧ (trimQuiet b s).rs = s.rs ∧
      (trimQuiet b s).ou = s.ou ∧ (trimQuiet b s).ml = s.ml ∧ (trimQuiet b s).sc = s.sc ∧ (trimQuiet b s).lu = s.lu ∧
      (trimQuiet b s).pl = s.pl ∧ (trimQuiet b s).bus = s.bus ∧ (trimQuiet b s).pins = s.pins ∧
      (trimQuiet b s).eeprom = s.eeprom ∧ (trimQuiet b s).tenth = s.tenth ∧ (trimQuiet b s).free = s.free ∧
      (trimQuiet b s).pending = s.pending :=
  ⟨forPoints_keeps (·.zr) (by intro p s; split <;> simp) s, forPoints_keeps (·.hs) (by intro p s; split <;> simp) s,
      forPoints_keeps (·.pa) (by intro p s; split <;> simp) s, forPoints_keeps (·.rs) (by intro p s; split <;> simp) s,
      forPoints_keeps (·.ou) (by intro p s; split <;> simp) s, forPoints_keeps (·.ml) (by intro p s; split <;> simp) s,
      forPoints_keeps (·.sc) (by intro p s; split <;> simp) s, forPoints_keeps (·.lu) (by intro p s; split <;> simp) s,
      forPoints_keeps (·.pl) (by intro p s; split <;> simp) s, forPoints_keeps (·.bus) (by intro p s; split <;> simp) s,
      forPoints_keeps (·.pins) (by intro p s; split <;> simp) s,
      forPoints_keeps (·.eeprom) (by intro p s; split <;> simp) s,
      forPoints_keeps (·.tenth) (by intro p s; split <;> simp) s,
      forPoints_keeps (·.free) (by intro p s; split <;> simp) s,
      forPoints_keeps (·.pending) (by intro p s; split <;> simp) s⟩

@[simp] theorem failBankPoints_frame (b : Fin 3) :
    (failBankPoints b s).zr = s.zr ∧ (failBankPoints b s).hs = s.hs ∧ (failBankPoints b s).pa = s.pa ∧
      (failBankPoints b s).rs = s.rs ∧ (failBankPoints b s).ou = s.ou ∧ (failBankPoints b s).ml = s.ml ∧
      (failBankPoints b s).sc = s.sc ∧ (failBankPoints b s).pl = s.pl ∧ (failBankPoints b s).bus = s.bus ∧
      (failBankPoints b s).pins = s.pins ∧ (failBankPoints b s).eeprom = s.eeprom ∧
      (failBankPoints b s).tenth = s.tenth ∧ (failBankPoints b s).free = s.free ∧ (failBankPoints b s).pending = s.pending :=
  ⟨forPoints_keeps (·.zr) (by intro p s; split <;> simp) s, forPoints_keeps (·.hs) (by intro p s; split <;> simp) s,
      forPoints_keeps (·.pa) (by intro p s; split <;> simp) s, forPoints_keeps (·.rs) (by intro p s; split <;> simp) s,
      forPoints_keeps (·.ou) (by intro p s; split <;> simp) s, forPoints_keeps (·.ml) (by intro p s; split <;> simp) s,
      forPoints_keeps (·.sc) (by intro p s; split <;> simp) s, forPoints_keeps (·.pl) (by intro p s; split <;> simp) s,
      forPoints_keeps (·.bus) (by intro p s; split <;> simp) s,
      forPoints_keeps (·.pins) (by intro p s; split <;> simp) s,
      forPoints_keeps (·.eeprom) (by intro p s; split <;> simp) s,
      forPoints_keeps (·.tenth) (by intro p s; split <;> simp) s,
      forPoints_keeps (·.free) (by intro p s; split <;> simp) s,
      forPoints_keeps (·.pending) (by intro p s; split <;> simp) s⟩

@[simp] theorem failSlotPoints_frame (i : Fin 8) :
    (failSlotPoints i s).zr = s.zr ∧ (failSlotPoints i s).hs = s.hs ∧ (failSlotPoints i s).pa = s.pa ∧
      (failSlotPoints i s).rs = s.rs ∧ (failSlotPoints i s).ou = s.ou ∧ (failSlotPoints i s).ml = s.ml ∧
      (failSlotPoints i s).sc = s.sc ∧ (failSlotPoints i s).pl = s.pl ∧ (failSlotPoints i s).bus = s.bus ∧
      (failSlotPoints i s).pins = s.pins ∧ (failSlotPoints i s).eeprom = s.eeprom ∧
      (failSlotPoints i s).tenth = s.tenth ∧ (failSlotPoints i s).free = s.free ∧ (failSlotPoints i s).pending = s.pending :=
  ⟨forPoints_keeps (·.zr) (by intro p s; split <;> simp) s, forPoints_keeps (·.hs) (by intro p s; split <;> simp) s,
      forPoints_keeps (·.pa) (by intro p s; split <;> simp) s, forPoints_keeps (·.rs) (by intro p s; split <;> simp) s,
      forPoints_keeps (·.ou) (by intro p s; split <;> simp) s, forPoints_keeps (·.ml) (by intro p s; split <;> simp) s,
      forPoints_keeps (·.sc) (by intro p s; split <;> simp) s, forPoints_keeps (·.pl) (by intro p s; split <;> simp) s,
      forPoints_keeps (·.bus) (by intro p s; split <;> simp) s,
      forPoints_keeps (·.pins) (by intro p s; split <;> simp) s,
      forPoints_keeps (·.eeprom) (by intro p s; split <;> simp) s,
      forPoints_keeps (·.tenth) (by intro p s; split <;> simp) s,
      forPoints_keeps (·.free) (by intro p s; split <;> simp) s,
      forPoints_keeps (·.pending) (by intro p s; split <;> simp) s⟩

@[simp] theorem endFullTrim_frame (b : Fin 3) (lo hi : Nat) :
    (endFullTrim b lo hi s).zr = s.zr ∧ (endFullTrim b lo hi s).hs = s.hs ∧ (endFullTrim b lo hi s).pa = s.pa ∧
      (endFullTrim b lo hi s).rs = s.rs ∧ (endFullTrim b lo hi s).ou = s.ou ∧ (endFullTrim b lo hi s).ml = s.ml ∧
      (endFullTrim b lo hi s).sc = s.sc ∧ (endFullTrim b lo hi s).pl = s.pl ∧ (endFullTrim b lo hi s).bus = s.bus ∧
      (endFullTrim b lo hi s).pins = s.pins ∧ (endFullTrim b lo hi s).eeprom = s.eeprom ∧
      (endFullTrim b lo hi s).tenth = s.tenth ∧ (endFullTrim b lo hi s).free = s.free ∧
      (endFullTrim b lo hi s).pending = s.pending := by
  simp only [endFullTrim]
  repeat' split
  all_goals simp

@[simp] theorem endShortTrim_frame (b : Fin 3) (lo hi : Nat) :
    (endShortTrim b lo hi s).zr = s.zr ∧ (endShortTrim b lo hi s).hs = s.hs ∧ (endShortTrim b lo hi s).pa = s.pa ∧
      (endShortTrim b lo hi s).rs = s.rs ∧ (endShortTrim b lo hi s).ou = s.ou ∧ (endShortTrim b lo hi s).ml = s.ml ∧
      (endShortTrim b lo hi s).sc = s.sc ∧ (endShortTrim b lo hi s).lu = s.lu ∧ (endShortTrim b lo hi s).pl = s.pl ∧
      (endShortTrim b lo hi s).bus = s.bus ∧ (endShortTrim b lo hi s).pins = s.pins ∧
      (endShortTrim b lo hi s).eeprom = s.eeprom ∧ (endShortTrim b lo hi s).tenth = s.tenth ∧
      (endShortTrim b lo hi s).free = s.free ∧ (endShortTrim b lo hi s).pending = s.pending := by
  simp only [endShortTrim]
  repeat' split
  all_goals simp

@[simp] theorem applyPointChange_frame (w : WorkingMemory) (p : Fin 32) :
    (applyPointChange w p s).zr = s.zr ∧ (applyPointChange w p s).hs = s.hs ∧ (applyPointChange w p s).pa = s.pa ∧
      (applyPointChange w p s).rs = s.rs ∧ (applyPointChange w p s).ou = s.ou ∧ (applyPointChange w p s).ml = s.ml ∧
      (applyPointChange w p s).sc = s.sc ∧ (applyPointChange w p s).pl = s.pl ∧ (applyPointChange w p s).bus = s.bus ∧
      (applyPointChange w p s).pins = s.pins ∧ (applyPointChange w p s).eeprom = s.eeprom ∧
      (applyPointChange w p s).tenth = s.tenth ∧ (applyPointChange w p s).free = s.free ∧
      (applyPointChange w p s).pending = s.pending := by
  simp only [applyPointChange]
  repeat' split
  all_goals simp

@[simp] theorem pointsLoaded_frame :
    (pointsLoaded s).zr = s.zr ∧ (pointsLoaded s).hs = s.hs ∧ (pointsLoaded s).pa = s.pa ∧ (pointsLoaded s).rs = s.rs ∧
      (pointsLoaded s).ou = s.ou ∧ (pointsLoaded s).ml = s.ml ∧ (pointsLoaded s).sc = s.sc ∧ (pointsLoaded s).lu = s.lu ∧
      (pointsLoaded s).pl = s.pl ∧ (pointsLoaded s).bus = s.bus ∧ (pointsLoaded s).pins = s.pins ∧
      (pointsLoaded s).eeprom = s.eeprom ∧ (pointsLoaded s).tenth = s.tenth ∧ (pointsLoaded s).free = s.free ∧
      (pointsLoaded s).pending = s.pending :=
  ⟨forPoints_keeps (·.zr) (by intro p s; simp) s, forPoints_keeps (·.hs) (by intro p s; simp) s,
      forPoints_keeps (·.pa) (by intro p s; simp) s, forPoints_keeps (·.rs) (by intro p s; simp) s,
      forPoints_keeps (·.ou) (by intro p s; simp) s, forPoints_keeps (·.ml) (by intro p s; simp) s,
      forPoints_keeps (·.sc) (by intro p s; simp) s, forPoints_keeps (·.lu) (by intro p s; simp) s,
      forPoints_keeps (·.pl) (by intro p s; simp) s, forPoints_keeps (·.bus) (by intro p s; simp) s,
      forPoints_keeps (·.pins) (by intro p s; simp) s, forPoints_keeps (·.eeprom) (by intro p s; simp) s,
      forPoints_keeps (·.tenth) (by intro p s; simp) s, forPoints_keeps (·.free) (by intro p s; simp) s,
      forPoints_keeps (·.pending) (by intro p s; simp) s⟩

/-! ### The module line -/

@[simp] theorem loseSlot_frame (i : Fin 8) :
    (loseSlot i s).zr = s.zr ∧ (loseSlot i s).pa = s.pa ∧ (loseSlot i s).rs = s.rs ∧ (loseSlot i s).ou = s.ou ∧
      (loseSlot i s).sc = s.sc ∧ (loseSlot i s).pl = s.pl ∧ (loseSlot i s).bus = s.bus ∧ (loseSlot i s).pins = s.pins ∧
      (loseSlot i s).eeprom = s.eeprom ∧ (loseSlot i s).tenth = s.tenth ∧ (loseSlot i s).free = s.free ∧
      (loseSlot i s).pending = s.pending := by
  simp only [loseSlot]
  repeat' split
  all_goals simp

@[simp] theorem countExchange_frame (i : Fin 8) (b : Bool) :
    (countExchange i b s).zr = s.zr ∧ (countExchange i b s).pa = s.pa ∧ (countExchange i b s).rs = s.rs ∧
      (countExchange i b s).ou = s.ou ∧ (countExchange i b s).sc = s.sc ∧ (countExchange i b s).pl = s.pl ∧
      (countExchange i b s).bus = s.bus ∧ (countExchange i b s).pins = s.pins ∧ (countExchange i b s).eeprom = s.eeprom ∧
      (countExchange i b s).tenth = s.tenth ∧ (countExchange i b s).free = s.free ∧
      (countExchange i b s).pending = s.pending := by
  simp only [countExchange]
  repeat' split
  all_goals simp

@[simp] theorem reportDrive_frame (i : Fin 8) (b : Option DriveData) (d : DriveData) :
    (reportDrive i b d s).zr = s.zr ∧ (reportDrive i b d s).pa = s.pa ∧ (reportDrive i b d s).rs = s.rs ∧
      (reportDrive i b d s).su = s.su ∧ (reportDrive i b d s).ou = s.ou ∧ (reportDrive i b d s).ml = s.ml ∧
      (reportDrive i b d s).sc = s.sc ∧ (reportDrive i b d s).pl = s.pl ∧ (reportDrive i b d s).bus = s.bus ∧
      (reportDrive i b d s).pins = s.pins ∧ (reportDrive i b d s).eeprom = s.eeprom ∧
      (reportDrive i b d s).tenth = s.tenth ∧ (reportDrive i b d s).free = s.free ∧
      (reportDrive i b d s).pending = s.pending := by
  simp only [reportDrive]
  repeat' split
  all_goals simp

@[simp] theorem findSlot_frame (i : Fin 8) (t : ModuleType) (d : DriveState) (f : Byte) :
    (findSlot i t d f s).zr = s.zr ∧ (findSlot i t d f s).pa = s.pa ∧ (findSlot i t d f s).rs = s.rs ∧
      (findSlot i t d f s).su = s.su ∧ (findSlot i t d f s).ou = s.ou ∧ (findSlot i t d f s).sc = s.sc ∧
      (findSlot i t d f s).pl = s.pl ∧ (findSlot i t d f s).bus = s.bus ∧ (findSlot i t d f s).pins = s.pins ∧
      (findSlot i t d f s).eeprom = s.eeprom ∧ (findSlot i t d f s).tenth = s.tenth ∧
      (findSlot i t d f s).free = s.free ∧ (findSlot i t d f s).pending = s.pending := by
  simp only [findSlot]
  repeat' split
  all_goals simp

@[simp] theorem probeOutcome_frame (i : Fin 8) (o : Option ModuleAnswer) :
    (probeOutcome i o s).zr = s.zr ∧ (probeOutcome i o s).pa = s.pa ∧ (probeOutcome i o s).rs = s.rs ∧
      (probeOutcome i o s).su = s.su ∧ (probeOutcome i o s).ou = s.ou ∧ (probeOutcome i o s).sc = s.sc ∧
      (probeOutcome i o s).pl = s.pl ∧ (probeOutcome i o s).bus = s.bus ∧ (probeOutcome i o s).pins = s.pins ∧
      (probeOutcome i o s).eeprom = s.eeprom ∧ (probeOutcome i o s).tenth = s.tenth ∧
      (probeOutcome i o s).free = s.free ∧ (probeOutcome i o s).pending = s.pending := by
  simp only [probeOutcome]
  repeat' split
  all_goals simp

@[simp] theorem slotKindChanged_frame (i : Fin 8) :
    (slotKindChanged i s).zr = s.zr ∧ (slotKindChanged i s).pa = s.pa ∧ (slotKindChanged i s).rs = s.rs ∧
      (slotKindChanged i s).ou = s.ou ∧ (slotKindChanged i s).sc = s.sc ∧ (slotKindChanged i s).pl = s.pl ∧
      (slotKindChanged i s).bus = s.bus ∧ (slotKindChanged i s).pins = s.pins ∧ (slotKindChanged i s).eeprom = s.eeprom ∧
      (slotKindChanged i s).tenth = s.tenth ∧ (slotKindChanged i s).free = s.free ∧
      (slotKindChanged i s).pending = s.pending := by
  simp only [slotKindChanged]
  repeat' split
  all_goals simp

@[simp] theorem beginExchange_frame (c : ExchangeClass) (i : Fin 8) (r : ModuleRequest) :
    (beginExchange c i r s).zr = s.zr ∧ (beginExchange c i r s).hs = s.hs ∧ (beginExchange c i r s).pa = s.pa ∧
      (beginExchange c i r s).rs = s.rs ∧ (beginExchange c i r s).su = s.su ∧ (beginExchange c i r s).ou = s.ou ∧
      (beginExchange c i r s).sc = s.sc ∧ (beginExchange c i r s).lu = s.lu ∧ (beginExchange c i r s).pl = s.pl ∧
      (beginExchange c i r s).bus = s.bus ∧ (beginExchange c i r s).pins = s.pins ∧
      (beginExchange c i r s).eeprom = s.eeprom ∧ (beginExchange c i r s).tenth = s.tenth ∧
      (beginExchange c i r s).free = s.free ∧ (beginExchange c i r s).pending = s.pending := by simp [beginExchange]

@[simp] theorem grantDrive_frame (h : Fin 2) :
    (grantDrive h s).zr = s.zr ∧ (grantDrive h s).hs = s.hs ∧ (grantDrive h s).pa = s.pa ∧ (grantDrive h s).rs = s.rs ∧
      (grantDrive h s).su = s.su ∧ (grantDrive h s).ou = s.ou ∧ (grantDrive h s).sc = s.sc ∧ (grantDrive h s).lu = s.lu ∧
      (grantDrive h s).pl = s.pl ∧ (grantDrive h s).bus = s.bus ∧ (grantDrive h s).pins = s.pins ∧
      (grantDrive h s).eeprom = s.eeprom ∧ (grantDrive h s).tenth = s.tenth ∧ (grantDrive h s).free = s.free ∧
      (grantDrive h s).pending = s.pending := by
  simp only [grantDrive]
  repeat' split
  all_goals simp

@[simp] theorem passDone_frame (i : Fin 8) (o : PassOutcome) (st : Option ModuleStatus) (v : Option Word16) :
    (passDone i o st v s).zr = s.zr ∧ (passDone i o st v s).hs = s.hs ∧ (passDone i o st v s).pa = s.pa ∧
      (passDone i o st v s).rs = s.rs ∧ (passDone i o st v s).su = s.su ∧ (passDone i o st v s).ou = s.ou ∧
      (passDone i o st v s).sc = s.sc ∧ (passDone i o st v s).pl = s.pl ∧ (passDone i o st v s).bus = s.bus ∧
      (passDone i o st v s).pins = s.pins ∧ (passDone i o st v s).eeprom = s.eeprom ∧
      (passDone i o st v s).tenth = s.tenth ∧ (passDone i o st v s).free = s.free ∧
      (passDone i o st v s).pending = s.pending := by simp [passDone]

@[simp] theorem grantPass_frame :
    (grantPass s).zr = s.zr ∧ (grantPass s).hs = s.hs ∧ (grantPass s).pa = s.pa ∧ (grantPass s).rs = s.rs ∧
      (grantPass s).su = s.su ∧ (grantPass s).ou = s.ou ∧ (grantPass s).sc = s.sc ∧ (grantPass s).pl = s.pl ∧
      (grantPass s).bus = s.bus ∧ (grantPass s).pins = s.pins ∧ (grantPass s).eeprom = s.eeprom ∧
      (grantPass s).tenth = s.tenth ∧ (grantPass s).free = s.free ∧ (grantPass s).pending = s.pending := by
  simp only [grantPass]
  repeat' split
  all_goals simp

@[simp] theorem grantRead_frame :
    (grantRead s).zr = s.zr ∧ (grantRead s).hs = s.hs ∧ (grantRead s).pa = s.pa ∧ (grantRead s).rs = s.rs ∧
      (grantRead s).su = s.su ∧ (grantRead s).ou = s.ou ∧ (grantRead s).sc = s.sc ∧ (grantRead s).lu = s.lu ∧
      (grantRead s).pl = s.pl ∧ (grantRead s).bus = s.bus ∧ (grantRead s).pins = s.pins ∧
      (grantRead s).eeprom = s.eeprom ∧ (grantRead s).tenth = s.tenth ∧ (grantRead s).free = s.free ∧
      (grantRead s).pending = s.pending := by
  simp only [grantRead]
  repeat' split
  all_goals simp

@[simp] theorem grantProbe_frame :
    (grantProbe s).zr = s.zr ∧ (grantProbe s).hs = s.hs ∧ (grantProbe s).pa = s.pa ∧ (grantProbe s).rs = s.rs ∧
      (grantProbe s).su = s.su ∧ (grantProbe s).ou = s.ou ∧ (grantProbe s).sc = s.sc ∧ (grantProbe s).lu = s.lu ∧
      (grantProbe s).pl = s.pl ∧ (grantProbe s).bus = s.bus ∧ (grantProbe s).pins = s.pins ∧
      (grantProbe s).eeprom = s.eeprom ∧ (grantProbe s).tenth = s.tenth ∧ (grantProbe s).free = s.free ∧
      (grantProbe s).pending = s.pending := by
  simp only [grantProbe]
  repeat' split
  all_goals simp

@[simp] theorem arbitrate_frame :
    (arbitrate s).zr = s.zr ∧ (arbitrate s).hs = s.hs ∧ (arbitrate s).pa = s.pa ∧ (arbitrate s).rs = s.rs ∧
      (arbitrate s).su = s.su ∧ (arbitrate s).ou = s.ou ∧ (arbitrate s).sc = s.sc ∧ (arbitrate s).pl = s.pl ∧
      (arbitrate s).bus = s.bus ∧ (arbitrate s).pins = s.pins ∧ (arbitrate s).eeprom = s.eeprom ∧
      (arbitrate s).tenth = s.tenth ∧ (arbitrate s).free = s.free ∧ (arbitrate s).pending = s.pending := by
  simp only [arbitrate]
  repeat' split
  all_goals simp

@[simp] theorem openSlot_frame (i : Fin 8) :
    (openSlot i s).zr = s.zr ∧ (openSlot i s).hs = s.hs ∧ (openSlot i s).pa = s.pa ∧ (openSlot i s).rs = s.rs ∧
      (openSlot i s).su = s.su ∧ (openSlot i s).ou = s.ou ∧ (openSlot i s).sc = s.sc ∧ (openSlot i s).lu = s.lu ∧
      (openSlot i s).pl = s.pl ∧ (openSlot i s).bus = s.bus ∧ (openSlot i s).pins = s.pins ∧
      (openSlot i s).eeprom = s.eeprom ∧ (openSlot i s).tenth = s.tenth ∧ (openSlot i s).free = s.free ∧
      (openSlot i s).pending = s.pending := by
  simp only [openSlot]
  repeat' split
  all_goals simp

@[simp] theorem forSlots_openSlot_frame :
    (forSlots openSlot s).zr = s.zr ∧ (forSlots openSlot s).hs = s.hs ∧ (forSlots openSlot s).pa = s.pa ∧
      (forSlots openSlot s).rs = s.rs ∧ (forSlots openSlot s).su = s.su ∧ (forSlots openSlot s).ou = s.ou ∧
      (forSlots openSlot s).sc = s.sc ∧ (forSlots openSlot s).lu = s.lu ∧ (forSlots openSlot s).pl = s.pl ∧
      (forSlots openSlot s).bus = s.bus ∧ (forSlots openSlot s).pins = s.pins ∧ (forSlots openSlot s).eeprom = s.eeprom ∧
      (forSlots openSlot s).tenth = s.tenth ∧ (forSlots openSlot s).free = s.free ∧
      (forSlots openSlot s).pending = s.pending :=
  ⟨forSlots_keeps (·.zr) (by simp) s, forSlots_keeps (·.hs) (by simp) s, forSlots_keeps (·.pa) (by simp) s,
      forSlots_keeps (·.rs) (by simp) s, forSlots_keeps (·.su) (by simp) s, forSlots_keeps (·.ou) (by simp) s,
      forSlots_keeps (·.sc) (by simp) s, forSlots_keeps (·.lu) (by simp) s, forSlots_keeps (·.pl) (by simp) s,
      forSlots_keeps (·.bus) (by simp) s, forSlots_keeps (·.pins) (by simp) s, forSlots_keeps (·.eeprom) (by simp) s,
      forSlots_keeps (·.tenth) (by simp) s, forSlots_keeps (·.free) (by simp) s, forSlots_keeps (·.pending) (by simp) s⟩

@[simp] theorem openLine_frame :
    (openLine s).zr = s.zr ∧ (openLine s).pa = s.pa ∧ (openLine s).rs = s.rs ∧ (openLine s).su = s.su ∧
      (openLine s).ou = s.ou ∧ (openLine s).sc = s.sc ∧ (openLine s).pl = s.pl ∧ (openLine s).bus = s.bus ∧
      (openLine s).pins = s.pins ∧ (openLine s).eeprom = s.eeprom ∧ (openLine s).tenth = s.tenth ∧
      (openLine s).free = s.free ∧ (openLine s).pending = s.pending := by simp [openLine]

@[simp] theorem endClosing_frame :
    (endClosing s).zr = s.zr ∧ (endClosing s).pa = s.pa ∧ (endClosing s).rs = s.rs ∧ (endClosing s).su = s.su ∧
      (endClosing s).ou = s.ou ∧ (endClosing s).sc = s.sc ∧ (endClosing s).pl = s.pl ∧ (endClosing s).bus = s.bus ∧
      (endClosing s).pins = s.pins ∧ (endClosing s).eeprom = s.eeprom ∧ (endClosing s).tenth = s.tenth ∧
      (endClosing s).free = s.free ∧ (endClosing s).pending = s.pending := by
  simp only [endClosing]
  repeat' split
  all_goals simp

@[simp] theorem nextClosingStop_frame (l : List (Fin 2)) :
    (nextClosingStop l s).zr = s.zr ∧ (nextClosingStop l s).pa = s.pa ∧ (nextClosingStop l s).rs = s.rs ∧
      (nextClosingStop l s).su = s.su ∧ (nextClosingStop l s).ou = s.ou ∧ (nextClosingStop l s).sc = s.sc ∧
      (nextClosingStop l s).pl = s.pl ∧ (nextClosingStop l s).bus = s.bus ∧ (nextClosingStop l s).pins = s.pins ∧
      (nextClosingStop l s).eeprom = s.eeprom ∧ (nextClosingStop l s).tenth = s.tenth ∧
      (nextClosingStop l s).free = s.free ∧ (nextClosingStop l s).pending = s.pending := by
  induction l generalizing s with
  | nil => simp [nextClosingStop]
  | cons h l ih =>
    simp only [nextClosingStop]
    repeat' split
    all_goals simp [ih]

@[simp] theorem nextTraffic_frame :
    (nextTraffic s).zr = s.zr ∧ (nextTraffic s).pa = s.pa ∧ (nextTraffic s).rs = s.rs ∧ (nextTraffic s).su = s.su ∧
      (nextTraffic s).ou = s.ou ∧ (nextTraffic s).sc = s.sc ∧ (nextTraffic s).pl = s.pl ∧ (nextTraffic s).bus = s.bus ∧
      (nextTraffic s).pins = s.pins ∧ (nextTraffic s).eeprom = s.eeprom ∧ (nextTraffic s).tenth = s.tenth ∧
      (nextTraffic s).free = s.free ∧ (nextTraffic s).pending = s.pending := by
  simp only [nextTraffic]
  repeat' split
  all_goals simp

@[simp] theorem closeSlot_frame (i : Fin 8) :
    (closeSlot i s).zr = s.zr ∧ (closeSlot i s).hs = s.hs ∧ (closeSlot i s).pa = s.pa ∧ (closeSlot i s).rs = s.rs ∧
      (closeSlot i s).su = s.su ∧ (closeSlot i s).ou = s.ou ∧ (closeSlot i s).sc = s.sc ∧ (closeSlot i s).lu = s.lu ∧
      (closeSlot i s).pl = s.pl ∧ (closeSlot i s).bus = s.bus ∧ (closeSlot i s).pins = s.pins ∧
      (closeSlot i s).eeprom = s.eeprom ∧ (closeSlot i s).tenth = s.tenth ∧ (closeSlot i s).free = s.free ∧
      (closeSlot i s).pending = s.pending := by simp [closeSlot]

@[simp] theorem forSlots_closeSlot_frame :
    (forSlots closeSlot s).zr = s.zr ∧ (forSlots closeSlot s).hs = s.hs ∧ (forSlots closeSlot s).pa = s.pa ∧
      (forSlots closeSlot s).rs = s.rs ∧ (forSlots closeSlot s).su = s.su ∧ (forSlots closeSlot s).ou = s.ou ∧
      (forSlots closeSlot s).sc = s.sc ∧ (forSlots closeSlot s).lu = s.lu ∧ (forSlots closeSlot s).pl = s.pl ∧
      (forSlots closeSlot s).bus = s.bus ∧ (forSlots closeSlot s).pins = s.pins ∧
      (forSlots closeSlot s).eeprom = s.eeprom ∧ (forSlots closeSlot s).tenth = s.tenth ∧
      (forSlots closeSlot s).free = s.free ∧ (forSlots closeSlot s).pending = s.pending :=
  ⟨forSlots_keeps (·.zr) (by simp) s, forSlots_keeps (·.hs) (by simp) s, forSlots_keeps (·.pa) (by simp) s,
      forSlots_keeps (·.rs) (by simp) s, forSlots_keeps (·.su) (by simp) s, forSlots_keeps (·.ou) (by simp) s,
      forSlots_keeps (·.sc) (by simp) s, forSlots_keeps (·.lu) (by simp) s, forSlots_keeps (·.pl) (by simp) s,
      forSlots_keeps (·.bus) (by simp) s, forSlots_keeps (·.pins) (by simp) s, forSlots_keeps (·.eeprom) (by simp) s,
      forSlots_keeps (·.tenth) (by simp) s, forSlots_keeps (·.free) (by simp) s, forSlots_keeps (·.pending) (by simp) s⟩

@[simp] theorem closeLine_frame :
    (closeLine s).zr = s.zr ∧ (closeLine s).pa = s.pa ∧ (closeLine s).rs = s.rs ∧ (closeLine s).su = s.su ∧
      (closeLine s).ou = s.ou ∧ (closeLine s).sc = s.sc ∧ (closeLine s).pl = s.pl ∧ (closeLine s).bus = s.bus ∧
      (closeLine s).pins = s.pins ∧ (closeLine s).eeprom = s.eeprom ∧ (closeLine s).tenth = s.tenth ∧
      (closeLine s).free = s.free ∧ (closeLine s).pending = s.pending := by
  simp only [closeLine]
  repeat' split
  all_goals simp

@[simp] theorem driveAnswer_frame (i : Fin 8) (d : DriveData) :
    (driveAnswer i d s).zr = s.zr ∧ (driveAnswer i d s).pa = s.pa ∧ (driveAnswer i d s).rs = s.rs ∧
      (driveAnswer i d s).ou = s.ou ∧ (driveAnswer i d s).sc = s.sc ∧ (driveAnswer i d s).pl = s.pl ∧
      (driveAnswer i d s).bus = s.bus ∧ (driveAnswer i d s).pins = s.pins ∧ (driveAnswer i d s).eeprom = s.eeprom ∧
      (driveAnswer i d s).tenth = s.tenth ∧ (driveAnswer i d s).free = s.free ∧ (driveAnswer i d s).pending = s.pending := by
  simp only [driveAnswer]
  repeat' split
  all_goals simp

@[simp] theorem monitorAnswer_frame (i : Fin 8) (v : Vector Word16 4) :
    (monitorAnswer i v s).zr = s.zr ∧ (monitorAnswer i v s).hs = s.hs ∧ (monitorAnswer i v s).pa = s.pa ∧
      (monitorAnswer i v s).rs = s.rs ∧ (monitorAnswer i v s).ou = s.ou ∧ (monitorAnswer i v s).sc = s.sc ∧
      (monitorAnswer i v s).pl = s.pl ∧ (monitorAnswer i v s).bus = s.bus ∧ (monitorAnswer i v s).pins = s.pins ∧
      (monitorAnswer i v s).eeprom = s.eeprom ∧ (monitorAnswer i v s).tenth = s.tenth ∧
      (monitorAnswer i v s).free = s.free ∧ (monitorAnswer i v s).pending = s.pending := by
  simp only [monitorAnswer]
  repeat' split
  all_goals simp

@[simp] theorem itemAnswer_frame (i : Fin 8) (j : Byte) (st : ModuleStatus) (v : Word16) :
    (itemAnswer i j st v s).zr = s.zr ∧ (itemAnswer i j st v s).hs = s.hs ∧ (itemAnswer i j st v s).pa = s.pa ∧
      (itemAnswer i j st v s).rs = s.rs ∧ (itemAnswer i j st v s).ou = s.ou ∧ (itemAnswer i j st v s).ml = s.ml ∧
      (itemAnswer i j st v s).sc = s.sc ∧ (itemAnswer i j st v s).pl = s.pl ∧ (itemAnswer i j st v s).bus = s.bus ∧
      (itemAnswer i j st v s).pins = s.pins ∧ (itemAnswer i j st v s).eeprom = s.eeprom ∧
      (itemAnswer i j st v s).tenth = s.tenth ∧ (itemAnswer i j st v s).free = s.free ∧
      (itemAnswer i j st v s).pending = s.pending := by
  simp only [itemAnswer]
  repeat' split
  all_goals simp

@[simp] theorem slotOutcome_frame (x : Exchange) (o : Option ModuleAnswer) :
    (slotOutcome x o s).zr = s.zr ∧ (slotOutcome x o s).pa = s.pa ∧ (slotOutcome x o s).rs = s.rs ∧
      (slotOutcome x o s).ou = s.ou ∧ (slotOutcome x o s).sc = s.sc ∧ (slotOutcome x o s).pl = s.pl ∧
      (slotOutcome x o s).bus = s.bus ∧ (slotOutcome x o s).pins = s.pins ∧ (slotOutcome x o s).eeprom = s.eeprom ∧
      (slotOutcome x o s).tenth = s.tenth ∧ (slotOutcome x o s).free = s.free ∧ (slotOutcome x o s).pending = s.pending := by
  simp only [slotOutcome]
  repeat' split
  all_goals simp

@[simp] theorem passOutcome_frame (x : Exchange) (o : Option ModuleAnswer) :
    (passOutcome x o s).zr = s.zr ∧ (passOutcome x o s).hs = s.hs ∧ (passOutcome x o s).pa = s.pa ∧
      (passOutcome x o s).rs = s.rs ∧ (passOutcome x o s).su = s.su ∧ (passOutcome x o s).ou = s.ou ∧
      (passOutcome x o s).sc = s.sc ∧ (passOutcome x o s).pl = s.pl ∧ (passOutcome x o s).bus = s.bus ∧
      (passOutcome x o s).pins = s.pins ∧ (passOutcome x o s).eeprom = s.eeprom ∧ (passOutcome x o s).tenth = s.tenth ∧
      (passOutcome x o s).free = s.free ∧ (passOutcome x o s).pending = s.pending := by
  simp only [passOutcome]
  repeat' split
  all_goals simp

@[simp] theorem endExchange_frame (x : Exchange) (o : Option ModuleAnswer) :
    (endExchange x o s).zr = s.zr ∧ (endExchange x o s).pa = s.pa ∧ (endExchange x o s).rs = s.rs ∧
      (endExchange x o s).ou = s.ou ∧ (endExchange x o s).sc = s.sc ∧ (endExchange x o s).pl = s.pl ∧
      (endExchange x o s).bus = s.bus ∧ (endExchange x o s).pins = s.pins ∧ (endExchange x o s).eeprom = s.eeprom ∧
      (endExchange x o s).tenth = s.tenth ∧ (endExchange x o s).free = s.free ∧
      (endExchange x o s).pending = s.pending := by simp [endExchange]

@[simp] theorem linesRestart_frame :
    (linesRestart s).zr = s.zr ∧ (linesRestart s).hs = s.hs ∧ (linesRestart s).pa = s.pa ∧ (linesRestart s).rs = s.rs ∧
      (linesRestart s).su = s.su ∧ (linesRestart s).ou = s.ou ∧ (linesRestart s).sc = s.sc ∧ (linesRestart s).pl = s.pl ∧
      (linesRestart s).bus = s.bus ∧ (linesRestart s).pins = s.pins ∧ (linesRestart s).eeprom = s.eeprom ∧
      (linesRestart s).tenth = s.tenth ∧ (linesRestart s).free = s.free ∧
      (linesRestart s).pending = s.pending := by simp [linesRestart]

@[simp] theorem linesEnterRun_frame :
    (linesEnterRun s).zr = s.zr ∧ (linesEnterRun s).pa = s.pa ∧ (linesEnterRun s).rs = s.rs ∧
      (linesEnterRun s).su = s.su ∧ (linesEnterRun s).ou = s.ou ∧ (linesEnterRun s).sc = s.sc ∧
      (linesEnterRun s).pl = s.pl ∧ (linesEnterRun s).bus = s.bus ∧ (linesEnterRun s).pins = s.pins ∧
      (linesEnterRun s).eeprom = s.eeprom ∧ (linesEnterRun s).tenth = s.tenth ∧ (linesEnterRun s).free = s.free ∧
      (linesEnterRun s).pending = s.pending := by
  simp only [linesEnterRun]
  repeat' split
  all_goals simp

@[simp] theorem linesLeaveRun_frame :
    (linesLeaveRun s).zr = s.zr ∧ (linesLeaveRun s).pa = s.pa ∧ (linesLeaveRun s).rs = s.rs ∧
      (linesLeaveRun s).su = s.su ∧ (linesLeaveRun s).ou = s.ou ∧ (linesLeaveRun s).sc = s.sc ∧
      (linesLeaveRun s).pl = s.pl ∧ (linesLeaveRun s).bus = s.bus ∧ (linesLeaveRun s).pins = s.pins ∧
      (linesLeaveRun s).eeprom = s.eeprom ∧ (linesLeaveRun s).tenth = s.tenth ∧ (linesLeaveRun s).free = s.free ∧
      (linesLeaveRun s).pending = s.pending := by
  simp only [linesLeaveRun]
  repeat' split
  all_goals simp

/-! ### Output channels -/

@[simp] theorem deriveBound_frame (c : Fin 16) :
    (deriveBound c s).zr = s.zr ∧ (deriveBound c s).hs = s.hs ∧ (deriveBound c s).pa = s.pa ∧
      (deriveBound c s).rs = s.rs ∧ (deriveBound c s).su = s.su ∧ (deriveBound c s).ml = s.ml ∧
      (deriveBound c s).sc = s.sc ∧ (deriveBound c s).lu = s.lu ∧ (deriveBound c s).pl = s.pl ∧
      (deriveBound c s).bus = s.bus ∧ (deriveBound c s).pins = s.pins ∧ (deriveBound c s).eeprom = s.eeprom ∧
      (deriveBound c s).tenth = s.tenth ∧ (deriveBound c s).free = s.free ∧ (deriveBound c s).pending = s.pending := by
  simp only [deriveBound]
  repeat' split
  all_goals simp

@[simp] theorem takeValue_frame (r : Role) (v : Nat) (c : Fin 16) :
    (takeValue r v c s).zr = s.zr ∧ (takeValue r v c s).hs = s.hs ∧ (takeValue r v c s).pa = s.pa ∧
      (takeValue r v c s).rs = s.rs ∧ (takeValue r v c s).su = s.su ∧ (takeValue r v c s).ml = s.ml ∧
      (takeValue r v c s).sc = s.sc ∧ (takeValue r v c s).lu = s.lu ∧ (takeValue r v c s).pl = s.pl ∧
      (takeValue r v c s).bus = s.bus ∧ (takeValue r v c s).pins = s.pins ∧ (takeValue r v c s).eeprom = s.eeprom ∧
      (takeValue r v c s).tenth = s.tenth ∧ (takeValue r v c s).free = s.free ∧ (takeValue r v c s).pending = s.pending := by
  simp only [takeValue]
  repeat' split
  all_goals simp

@[simp] theorem forChannels_takeValue_r_v_frame (r : Role) (v : Nat) :
    (forChannels (takeValue r v) s).zr = s.zr ∧ (forChannels (takeValue r v) s).hs = s.hs ∧
      (forChannels (takeValue r v) s).pa = s.pa ∧ (forChannels (takeValue r v) s).rs = s.rs ∧
      (forChannels (takeValue r v) s).su = s.su ∧ (forChannels (takeValue r v) s).ml = s.ml ∧
      (forChannels (takeValue r v) s).sc = s.sc ∧ (forChannels (takeValue r v) s).lu = s.lu ∧
      (forChannels (takeValue r v) s).pl = s.pl ∧ (forChannels (takeValue r v) s).bus = s.bus ∧
      (forChannels (takeValue r v) s).pins = s.pins ∧ (forChannels (takeValue r v) s).eeprom = s.eeprom ∧
      (forChannels (takeValue r v) s).tenth = s.tenth ∧ (forChannels (takeValue r v) s).free = s.free ∧
      (forChannels (takeValue r v) s).pending = s.pending :=
  ⟨forChannels_keeps (·.zr) (by simp) s, forChannels_keeps (·.hs) (by simp) s, forChannels_keeps (·.pa) (by simp) s,
      forChannels_keeps (·.rs) (by simp) s, forChannels_keeps (·.su) (by simp) s, forChannels_keeps (·.ml) (by simp) s,
      forChannels_keeps (·.sc) (by simp) s, forChannels_keeps (·.lu) (by simp) s, forChannels_keeps (·.pl) (by simp) s,
      forChannels_keeps (·.bus) (by simp) s, forChannels_keeps (·.pins) (by simp) s,
      forChannels_keeps (·.eeprom) (by simp) s, forChannels_keeps (·.tenth) (by simp) s,
      forChannels_keeps (·.free) (by simp) s, forChannels_keeps (·.pending) (by simp) s⟩

@[simp] theorem zeroOutputs_frame :
    (zeroOutputs s).zr = s.zr ∧ (zeroOutputs s).hs = s.hs ∧ (zeroOutputs s).pa = s.pa ∧ (zeroOutputs s).rs = s.rs ∧
      (zeroOutputs s).su = s.su ∧ (zeroOutputs s).ml = s.ml ∧ (zeroOutputs s).sc = s.sc ∧ (zeroOutputs s).lu = s.lu ∧
      (zeroOutputs s).pl = s.pl ∧ (zeroOutputs s).bus = s.bus ∧ (zeroOutputs s).pins = s.pins ∧
      (zeroOutputs s).eeprom = s.eeprom ∧ (zeroOutputs s).tenth = s.tenth ∧ (zeroOutputs s).free = s.free ∧
      (zeroOutputs s).pending = s.pending := by simp [zeroOutputs]

@[simp] theorem channelsLoaded_frame :
    (channelsLoaded s).zr = s.zr ∧ (channelsLoaded s).hs = s.hs ∧ (channelsLoaded s).pa = s.pa ∧
      (channelsLoaded s).rs = s.rs ∧ (channelsLoaded s).su = s.su ∧ (channelsLoaded s).ml = s.ml ∧
      (channelsLoaded s).sc = s.sc ∧ (channelsLoaded s).lu = s.lu ∧ (channelsLoaded s).pl = s.pl ∧
      (channelsLoaded s).bus = s.bus ∧ (channelsLoaded s).pins = s.pins ∧ (channelsLoaded s).eeprom = s.eeprom ∧
      (channelsLoaded s).tenth = s.tenth ∧ (channelsLoaded s).free = s.free ∧
      (channelsLoaded s).pending = s.pending := by simp [channelsLoaded]

@[simp] theorem modulusChanged_frame (c : Fin 16) :
    (modulusChanged c s).zr = s.zr ∧ (modulusChanged c s).hs = s.hs ∧ (modulusChanged c s).pa = s.pa ∧
      (modulusChanged c s).rs = s.rs ∧ (modulusChanged c s).su = s.su ∧ (modulusChanged c s).ml = s.ml ∧
      (modulusChanged c s).sc = s.sc ∧ (modulusChanged c s).lu = s.lu ∧ (modulusChanged c s).pl = s.pl ∧
      (modulusChanged c s).bus = s.bus ∧ (modulusChanged c s).pins = s.pins ∧ (modulusChanged c s).eeprom = s.eeprom ∧
      (modulusChanged c s).tenth = s.tenth ∧ (modulusChanged c s).free = s.free ∧
      (modulusChanged c s).pending = s.pending := by simp [modulusChanged]

@[simp] theorem stepChanged_frame (c : Fin 16) :
    (stepChanged c s).zr = s.zr ∧ (stepChanged c s).hs = s.hs ∧ (stepChanged c s).pa = s.pa ∧
      (stepChanged c s).rs = s.rs ∧ (stepChanged c s).su = s.su ∧ (stepChanged c s).ml = s.ml ∧
      (stepChanged c s).sc = s.sc ∧ (stepChanged c s).lu = s.lu ∧ (stepChanged c s).pl = s.pl ∧
      (stepChanged c s).bus = s.bus ∧ (stepChanged c s).pins = s.pins ∧ (stepChanged c s).eeprom = s.eeprom ∧
      (stepChanged c s).tenth = s.tenth ∧ (stepChanged c s).free = s.free ∧
      (stepChanged c s).pending = s.pending := by simp [stepChanged]

@[simp] theorem polarityChanged_frame (c : Fin 16) :
    (polarityChanged c s).zr = s.zr ∧ (polarityChanged c s).hs = s.hs ∧ (polarityChanged c s).pa = s.pa ∧
      (polarityChanged c s).rs = s.rs ∧ (polarityChanged c s).su = s.su ∧ (polarityChanged c s).ml = s.ml ∧
      (polarityChanged c s).sc = s.sc ∧ (polarityChanged c s).lu = s.lu ∧ (polarityChanged c s).pl = s.pl ∧
      (polarityChanged c s).bus = s.bus ∧ (polarityChanged c s).pins = s.pins ∧ (polarityChanged c s).eeprom = s.eeprom ∧
      (polarityChanged c s).tenth = s.tenth ∧ (polarityChanged c s).free = s.free ∧
      (polarityChanged c s).pending = s.pending := by simp [polarityChanged]

@[simp] theorem roleChanged_frame (c : Fin 16) :
    (roleChanged c s).zr = s.zr ∧ (roleChanged c s).hs = s.hs ∧ (roleChanged c s).pa = s.pa ∧
      (roleChanged c s).rs = s.rs ∧ (roleChanged c s).su = s.su ∧ (roleChanged c s).ml = s.ml ∧
      (roleChanged c s).sc = s.sc ∧ (roleChanged c s).lu = s.lu ∧ (roleChanged c s).pl = s.pl ∧
      (roleChanged c s).bus = s.bus ∧ (roleChanged c s).pins = s.pins ∧ (roleChanged c s).eeprom = s.eeprom ∧
      (roleChanged c s).tenth = s.tenth ∧ (roleChanged c s).free = s.free ∧
      (roleChanged c s).pending = s.pending := by simp [roleChanged]

@[simp] theorem zoneChannelChanged_frame :
    (zoneChannelChanged s).zr = s.zr ∧ (zoneChannelChanged s).hs = s.hs ∧ (zoneChannelChanged s).pa = s.pa ∧
      (zoneChannelChanged s).rs = s.rs ∧ (zoneChannelChanged s).su = s.su ∧ (zoneChannelChanged s).ml = s.ml ∧
      (zoneChannelChanged s).sc = s.sc ∧ (zoneChannelChanged s).lu = s.lu ∧ (zoneChannelChanged s).pl = s.pl ∧
      (zoneChannelChanged s).bus = s.bus ∧ (zoneChannelChanged s).pins = s.pins ∧
      (zoneChannelChanged s).eeprom = s.eeprom ∧ (zoneChannelChanged s).tenth = s.tenth ∧
      (zoneChannelChanged s).free = s.free ∧ (zoneChannelChanged s).pending = s.pending :=
  ⟨forChannels_keeps (·.zr) (by intro p s; simp) s, forChannels_keeps (·.hs) (by intro p s; simp) s,
      forChannels_keeps (·.pa) (by intro p s; simp) s, forChannels_keeps (·.rs) (by intro p s; simp) s,
      forChannels_keeps (·.su) (by intro p s; simp) s, forChannels_keeps (·.ml) (by intro p s; simp) s,
      forChannels_keeps (·.sc) (by intro p s; simp) s, forChannels_keeps (·.lu) (by intro p s; simp) s,
      forChannels_keeps (·.pl) (by intro p s; simp) s, forChannels_keeps (·.bus) (by intro p s; simp) s,
      forChannels_keeps (·.pins) (by intro p s; simp) s, forChannels_keeps (·.eeprom) (by intro p s; simp) s,
      forChannels_keeps (·.tenth) (by intro p s; simp) s, forChannels_keeps (·.free) (by intro p s; simp) s,
      forChannels_keeps (·.pending) (by intro p s; simp) s⟩

/-! ### Power allotment -/

@[simp] theorem stage3_frame (r : RequestSet) :
    (stage3 r s).zr = s.zr ∧ (stage3 r s).hs = s.hs ∧ (stage3 r s).rs = s.rs ∧ (stage3 r s).su = s.su ∧
      (stage3 r s).ou = s.ou ∧ (stage3 r s).ml = s.ml ∧ (stage3 r s).sc = s.sc ∧ (stage3 r s).lu = s.lu ∧
      (stage3 r s).pl = s.pl ∧ (stage3 r s).pins = s.pins ∧ (stage3 r s).eeprom = s.eeprom ∧
      (stage3 r s).tenth = s.tenth ∧ (stage3 r s).free = s.free ∧ (stage3 r s).pending = s.pending := by simp [stage3]

@[simp] theorem emptyRecord_frame :
    (emptyRecord s).zr = s.zr ∧ (emptyRecord s).hs = s.hs ∧ (emptyRecord s).rs = s.rs ∧ (emptyRecord s).su = s.su ∧
      (emptyRecord s).ou = s.ou ∧ (emptyRecord s).ml = s.ml ∧ (emptyRecord s).sc = s.sc ∧ (emptyRecord s).lu = s.lu ∧
      (emptyRecord s).pl = s.pl ∧ (emptyRecord s).bus = s.bus ∧ (emptyRecord s).pins = s.pins ∧
      (emptyRecord s).eeprom = s.eeprom ∧ (emptyRecord s).tenth = s.tenth ∧ (emptyRecord s).free = s.free ∧
      (emptyRecord s).pending = s.pending := by simp [emptyRecord]

/-! ### Stage 2 and stage 4 -/

@[simp] theorem returnToHeat_frame (h : Fin 2) (r : DefrostEnd) (n : Nat) :
    (returnToHeat h r n s).zr = s.zr ∧ (returnToHeat h r n s).pa = s.pa ∧ (returnToHeat h r n s).rs = s.rs ∧
      (returnToHeat h r n s).su = s.su ∧ (returnToHeat h r n s).ou = s.ou ∧ (returnToHeat h r n s).ml = s.ml ∧
      (returnToHeat h r n s).sc = s.sc ∧ (returnToHeat h r n s).pl = s.pl ∧ (returnToHeat h r n s).bus = s.bus ∧
      (returnToHeat h r n s).pins = s.pins ∧ (returnToHeat h r n s).eeprom = s.eeprom ∧
      (returnToHeat h r n s).tenth = s.tenth ∧ (returnToHeat h r n s).free = s.free ∧
      (returnToHeat h r n s).pending = s.pending := by simp [returnToHeat]

@[simp] theorem transition_frame (h : Fin 2) :
    (transition h s).zr = s.zr ∧ (transition h s).pa = s.pa ∧ (transition h s).rs = s.rs ∧ (transition h s).su = s.su ∧
      (transition h s).ou = s.ou ∧ (transition h s).ml = s.ml ∧ (transition h s).sc = s.sc ∧ (transition h s).pl = s.pl ∧
      (transition h s).bus = s.bus ∧ (transition h s).pins = s.pins ∧ (transition h s).eeprom = s.eeprom ∧
      (transition h s).tenth = s.tenth ∧ (transition h s).free = s.free ∧ (transition h s).pending = s.pending := by
  simp only [transition]
  repeat' split
  all_goals simp

@[simp] theorem stepMode_frame (h : Fin 2) :
    (stepMode h s).zr = s.zr ∧ (stepMode h s).pa = s.pa ∧ (stepMode h s).su = s.su ∧ (stepMode h s).ou = s.ou ∧
      (stepMode h s).ml = s.ml ∧ (stepMode h s).sc = s.sc ∧ (stepMode h s).pl = s.pl ∧ (stepMode h s).pins = s.pins ∧
      (stepMode h s).eeprom = s.eeprom ∧ (stepMode h s).tenth = s.tenth ∧ (stepMode h s).free = s.free ∧
      (stepMode h s).pending = s.pending := by
  simp only [stepMode]
  repeat' split
  all_goals simp

@[simp] theorem stage2Handler_frame (d : DemandSet) (h : Fin 2) :
    (stage2Handler d h s).zr = s.zr ∧ (stage2Handler d h s).pa = s.pa ∧ (stage2Handler d h s).su = s.su ∧
      (stage2Handler d h s).ou = s.ou ∧ (stage2Handler d h s).ml = s.ml ∧ (stage2Handler d h s).sc = s.sc ∧
      (stage2Handler d h s).pl = s.pl ∧ (stage2Handler d h s).pins = s.pins ∧ (stage2Handler d h s).eeprom = s.eeprom ∧
      (stage2Handler d h s).tenth = s.tenth ∧ (stage2Handler d h s).free = s.free ∧
      (stage2Handler d h s).pending = s.pending := by simp [stage2Handler]

@[simp] theorem stage2_frame (d : DemandSet) :
    (stage2 d s).zr = s.zr ∧ (stage2 d s).pa = s.pa ∧ (stage2 d s).su = s.su ∧ (stage2 d s).ou = s.ou ∧
      (stage2 d s).ml = s.ml ∧ (stage2 d s).sc = s.sc ∧ (stage2 d s).pl = s.pl ∧ (stage2 d s).pins = s.pins ∧
      (stage2 d s).eeprom = s.eeprom ∧ (stage2 d s).tenth = s.tenth ∧ (stage2 d s).free = s.free ∧
      (stage2 d s).pending = s.pending := by simp [stage2, forHandlers]

@[simp] theorem enterDefrost_frame (h : Fin 2) :
    (enterDefrost h s).zr = s.zr ∧ (enterDefrost h s).pa = s.pa ∧ (enterDefrost h s).rs = s.rs ∧
      (enterDefrost h s).su = s.su ∧ (enterDefrost h s).ou = s.ou ∧ (enterDefrost h s).ml = s.ml ∧
      (enterDefrost h s).sc = s.sc ∧ (enterDefrost h s).pl = s.pl ∧ (enterDefrost h s).bus = s.bus ∧
      (enterDefrost h s).pins = s.pins ∧ (enterDefrost h s).eeprom = s.eeprom ∧ (enterDefrost h s).tenth = s.tenth ∧
      (enterDefrost h s).free = s.free ∧ (enterDefrost h s).pending = s.pending := by simp [enterDefrost]

@[simp] theorem abortDefrost_frame (h : Fin 2) :
    (abortDefrost h s).zr = s.zr ∧ (abortDefrost h s).pa = s.pa ∧ (abortDefrost h s).rs = s.rs ∧
      (abortDefrost h s).su = s.su ∧ (abortDefrost h s).ou = s.ou ∧ (abortDefrost h s).ml = s.ml ∧
      (abortDefrost h s).sc = s.sc ∧ (abortDefrost h s).pl = s.pl ∧ (abortDefrost h s).bus = s.bus ∧
      (abortDefrost h s).pins = s.pins ∧ (abortDefrost h s).eeprom = s.eeprom ∧ (abortDefrost h s).tenth = s.tenth ∧
      (abortDefrost h s).free = s.free ∧ (abortDefrost h s).pending = s.pending := by simp [abortDefrost]

@[simp] theorem stage4Mode_frame (x : AllotHandler) (h : Fin 2) :
    (stage4Mode x h s).zr = s.zr ∧ (stage4Mode x h s).pa = s.pa ∧ (stage4Mode x h s).rs = s.rs ∧
      (stage4Mode x h s).su = s.su ∧ (stage4Mode x h s).ou = s.ou ∧ (stage4Mode x h s).ml = s.ml ∧
      (stage4Mode x h s).sc = s.sc ∧ (stage4Mode x h s).pl = s.pl ∧ (stage4Mode x h s).bus = s.bus ∧
      (stage4Mode x h s).pins = s.pins ∧ (stage4Mode x h s).eeprom = s.eeprom ∧ (stage4Mode x h s).tenth = s.tenth ∧
      (stage4Mode x h s).free = s.free ∧ (stage4Mode x h s).pending = s.pending := by
  simp only [stage4Mode]
  repeat' split
  all_goals simp

@[simp] theorem stage4Command_frame (x : AllotHandler) (h : Fin 2) :
    (stage4Command x h s).zr = s.zr ∧ (stage4Command x h s).pa = s.pa ∧ (stage4Command x h s).rs = s.rs ∧
      (stage4Command x h s).su = s.su ∧ (stage4Command x h s).ou = s.ou ∧ (stage4Command x h s).ml = s.ml ∧
      (stage4Command x h s).sc = s.sc ∧ (stage4Command x h s).lu = s.lu ∧ (stage4Command x h s).pl = s.pl ∧
      (stage4Command x h s).bus = s.bus ∧ (stage4Command x h s).pins = s.pins ∧
      (stage4Command x h s).eeprom = s.eeprom ∧ (stage4Command x h s).tenth = s.tenth ∧
      (stage4Command x h s).free = s.free ∧ (stage4Command x h s).pending = s.pending := by
  simp [stage4Command]

@[simp] theorem stage4Air_frame (h : Fin 2) :
    (stage4Air h s).zr = s.zr ∧ (stage4Air h s).pa = s.pa ∧ (stage4Air h s).rs = s.rs ∧ (stage4Air h s).su = s.su ∧
      (stage4Air h s).ou = s.ou ∧ (stage4Air h s).ml = s.ml ∧ (stage4Air h s).sc = s.sc ∧ (stage4Air h s).lu = s.lu ∧
      (stage4Air h s).pl = s.pl ∧ (stage4Air h s).bus = s.bus ∧ (stage4Air h s).pins = s.pins ∧
      (stage4Air h s).eeprom = s.eeprom ∧ (stage4Air h s).tenth = s.tenth ∧ (stage4Air h s).free = s.free ∧
      (stage4Air h s).pending = s.pending := by
  simp [stage4Air]

@[simp] theorem setDampers_frame (h : Fin 2) :
    (setDampers h s).zr = s.zr ∧ (setDampers h s).pa = s.pa ∧ (setDampers h s).rs = s.rs ∧ (setDampers h s).su = s.su ∧
      (setDampers h s).ou = s.ou ∧ (setDampers h s).ml = s.ml ∧ (setDampers h s).sc = s.sc ∧ (setDampers h s).lu = s.lu ∧
      (setDampers h s).pl = s.pl ∧ (setDampers h s).bus = s.bus ∧ (setDampers h s).pins = s.pins ∧
      (setDampers h s).eeprom = s.eeprom ∧ (setDampers h s).tenth = s.tenth ∧ (setDampers h s).free = s.free ∧
      (setDampers h s).pending = s.pending := by
  simp only [setDampers]
  repeat' split
  all_goals simp

@[simp] theorem stage4Handler_frame (x : Allotment) (h : Fin 2) :
    (stage4Handler x h s).zr = s.zr ∧ (stage4Handler x h s).pa = s.pa ∧ (stage4Handler x h s).rs = s.rs ∧
      (stage4Handler x h s).su = s.su ∧ (stage4Handler x h s).ou = s.ou ∧ (stage4Handler x h s).ml = s.ml ∧
      (stage4Handler x h s).sc = s.sc ∧ (stage4Handler x h s).pl = s.pl ∧ (stage4Handler x h s).bus = s.bus ∧
      (stage4Handler x h s).pins = s.pins ∧ (stage4Handler x h s).eeprom = s.eeprom ∧
      (stage4Handler x h s).tenth = s.tenth ∧ (stage4Handler x h s).free = s.free ∧
      (stage4Handler x h s).pending = s.pending := by simp [stage4Handler]

@[simp] theorem handAir_frame (h : Fin 2) :
    (handAir h s).zr = s.zr ∧ (handAir h s).hs = s.hs ∧ (handAir h s).pa = s.pa ∧ (handAir h s).rs = s.rs ∧
      (handAir h s).su = s.su ∧ (handAir h s).ou = s.ou ∧ (handAir h s).ml = s.ml ∧ (handAir h s).sc = s.sc ∧
      (handAir h s).lu = s.lu ∧ (handAir h s).pl = s.pl ∧ (handAir h s).pins = s.pins ∧ (handAir h s).eeprom = s.eeprom ∧
      (handAir h s).tenth = s.tenth ∧ (handAir h s).free = s.free ∧ (handAir h s).pending = s.pending := by simp [handAir]

@[simp] theorem handZone_frame (x : Allotment) (z : Fin 12) :
    (handZone x z s).zr = s.zr ∧ (handZone x z s).hs = s.hs ∧ (handZone x z s).pa = s.pa ∧ (handZone x z s).rs = s.rs ∧
      (handZone x z s).su = s.su ∧ (handZone x z s).ou = s.ou ∧ (handZone x z s).ml = s.ml ∧ (handZone x z s).sc = s.sc ∧
      (handZone x z s).lu = s.lu ∧ (handZone x z s).pl = s.pl ∧ (handZone x z s).pins = s.pins ∧
      (handZone x z s).eeprom = s.eeprom ∧ (handZone x z s).tenth = s.tenth ∧ (handZone x z s).free = s.free ∧
      (handZone x z s).pending = s.pending := by
  simp only [handZone]
  repeat' split
  all_goals simp

@[simp] theorem driveDue_frame (h : Fin 2) :
    (driveDue h s).zr = s.zr ∧ (driveDue h s).hs = s.hs ∧ (driveDue h s).pa = s.pa ∧ (driveDue h s).rs = s.rs ∧
      (driveDue h s).su = s.su ∧ (driveDue h s).ou = s.ou ∧ (driveDue h s).sc = s.sc ∧ (driveDue h s).lu = s.lu ∧
      (driveDue h s).pl = s.pl ∧ (driveDue h s).bus = s.bus ∧ (driveDue h s).pins = s.pins ∧
      (driveDue h s).eeprom = s.eeprom ∧ (driveDue h s).tenth = s.tenth ∧ (driveDue h s).free = s.free ∧
      (driveDue h s).pending = s.pending := by
  simp only [driveDue]
  repeat' split
  all_goals simp

@[simp] theorem stage4_frame (x : Allotment) :
    (stage4 x s).zr = s.zr ∧ (stage4 x s).pa = s.pa ∧ (stage4 x s).su = s.su ∧ (stage4 x s).ou = s.ou ∧
      (stage4 x s).sc = s.sc ∧ (stage4 x s).pl = s.pl ∧ (stage4 x s).pins = s.pins ∧ (stage4 x s).eeprom = s.eeprom ∧
      (stage4 x s).tenth = s.tenth ∧ (stage4 x s).free = s.free ∧ (stage4 x s).pending = s.pending := by
  refine ⟨?_, ?_, ?_, ?_, ?_, ?_, ?_, ?_, ?_, ?_, ?_⟩
  · simp only [stage4, forHandlers, evaluate_frame, arbitrate_frame, driveDue_frame]
    rw [foldl_keeps (·.zr) _ (by intro s z; simp)]
    simp
  · simp only [stage4, forHandlers, evaluate_frame, arbitrate_frame, driveDue_frame]
    rw [foldl_keeps (·.pa) _ (by intro s z; simp)]
    simp
  · simp only [stage4, forHandlers, evaluate_frame, arbitrate_frame, driveDue_frame]
    rw [foldl_keeps (·.su) _ (by intro s z; simp)]
    simp
  · simp only [stage4, forHandlers, evaluate_frame, arbitrate_frame, driveDue_frame]
    rw [foldl_keeps (·.ou) _ (by intro s z; simp)]
    simp
  · simp only [stage4, forHandlers, evaluate_frame, arbitrate_frame, driveDue_frame]
    rw [foldl_keeps (·.sc) _ (by intro s z; simp)]
    simp
  · simp only [stage4, forHandlers, evaluate_frame, arbitrate_frame, driveDue_frame]
    rw [foldl_keeps (·.pl) _ (by intro s z; simp)]
    simp
  · simp only [stage4, forHandlers, evaluate_frame, arbitrate_frame, driveDue_frame]
    rw [foldl_keeps (·.pins) _ (by intro s z; simp)]
    simp
  · simp only [stage4, forHandlers, evaluate_frame, arbitrate_frame, driveDue_frame]
    rw [foldl_keeps (·.eeprom) _ (by intro s z; simp)]
    simp
  · simp only [stage4, forHandlers, evaluate_frame, arbitrate_frame, driveDue_frame]
    rw [foldl_keeps (·.tenth) _ (by intro s z; simp)]
    simp
  · simp only [stage4, forHandlers, evaluate_frame, arbitrate_frame, driveDue_frame]
    rw [foldl_keeps (·.free) _ (by intro s z; simp)]
    simp
  · simp only [stage4, forHandlers, evaluate_frame, arbitrate_frame, driveDue_frame]
    rw [foldl_keeps (·.pending) _ (by intro s z; simp)]
    simp

@[simp] theorem account_frame (h : Fin 2) :
    (account h s).zr = s.zr ∧ (account h s).pa = s.pa ∧ (account h s).rs = s.rs ∧ (account h s).su = s.su ∧
      (account h s).ou = s.ou ∧ (account h s).ml = s.ml ∧ (account h s).sc = s.sc ∧ (account h s).lu = s.lu ∧
      (account h s).pl = s.pl ∧ (account h s).bus = s.bus ∧ (account h s).pins = s.pins ∧
      (account h s).eeprom = s.eeprom ∧ (account h s).tenth = s.tenth ∧ (account h s).free = s.free ∧
      (account h s).pending = s.pending := by
  simp only [account]
  repeat' split
  all_goals simp

@[simp] theorem handlerLeavesRun_frame (h : Fin 2) :
    (handlerLeavesRun h s).zr = s.zr ∧ (handlerLeavesRun h s).pa = s.pa ∧ (handlerLeavesRun h s).rs = s.rs ∧
      (handlerLeavesRun h s).su = s.su ∧ (handlerLeavesRun h s).ou = s.ou ∧ (handlerLeavesRun h s).ml = s.ml ∧
      (handlerLeavesRun h s).sc = s.sc ∧ (handlerLeavesRun h s).pl = s.pl ∧ (handlerLeavesRun h s).bus = s.bus ∧
      (handlerLeavesRun h s).pins = s.pins ∧ (handlerLeavesRun h s).eeprom = s.eeprom ∧
      (handlerLeavesRun h s).tenth = s.tenth ∧ (handlerLeavesRun h s).free = s.free ∧
      (handlerLeavesRun h s).pending = s.pending := by simp [handlerLeavesRun]

@[simp] theorem handlersLeaveRun_frame :
    (handlersLeaveRun s).zr = s.zr ∧ (handlersLeaveRun s).pa = s.pa ∧ (handlersLeaveRun s).rs = s.rs ∧
      (handlersLeaveRun s).su = s.su ∧ (handlersLeaveRun s).ou = s.ou ∧ (handlersLeaveRun s).ml = s.ml ∧
      (handlersLeaveRun s).sc = s.sc ∧ (handlersLeaveRun s).pl = s.pl ∧ (handlersLeaveRun s).bus = s.bus ∧
      (handlersLeaveRun s).pins = s.pins ∧ (handlersLeaveRun s).eeprom = s.eeprom ∧
      (handlersLeaveRun s).tenth = s.tenth ∧ (handlersLeaveRun s).free = s.free ∧
      (handlersLeaveRun s).pending = s.pending := by simp [handlersLeaveRun, forHandlers]

@[simp] theorem handlersRestart_frame :
    (handlersRestart s).zr = s.zr ∧ (handlersRestart s).pa = s.pa ∧ (handlersRestart s).rs = s.rs ∧
      (handlersRestart s).su = s.su ∧ (handlersRestart s).ou = s.ou ∧ (handlersRestart s).ml = s.ml ∧
      (handlersRestart s).sc = s.sc ∧ (handlersRestart s).pl = s.pl ∧ (handlersRestart s).bus = s.bus ∧
      (handlersRestart s).pins = s.pins ∧ (handlersRestart s).eeprom = s.eeprom ∧ (handlersRestart s).tenth = s.tenth ∧
      (handlersRestart s).free = s.free ∧ (handlersRestart s).pending = s.pending := by simp [handlersRestart, forHandlers]

@[simp] theorem handlersLoaded_frame :
    (handlersLoaded s).zr = s.zr ∧ (handlersLoaded s).pa = s.pa ∧ (handlersLoaded s).rs = s.rs ∧
      (handlersLoaded s).su = s.su ∧ (handlersLoaded s).ou = s.ou ∧ (handlersLoaded s).ml = s.ml ∧
      (handlersLoaded s).sc = s.sc ∧ (handlersLoaded s).lu = s.lu ∧ (handlersLoaded s).pl = s.pl ∧
      (handlersLoaded s).bus = s.bus ∧ (handlersLoaded s).pins = s.pins ∧ (handlersLoaded s).eeprom = s.eeprom ∧
      (handlersLoaded s).tenth = s.tenth ∧ (handlersLoaded s).free = s.free ∧
      (handlersLoaded s).pending = s.pending := by simp [handlersLoaded, forHandlers]

@[simp] theorem handlersEnterRun_frame :
    (handlersEnterRun s).zr = s.zr ∧ (handlersEnterRun s).pa = s.pa ∧ (handlersEnterRun s).rs = s.rs ∧
      (handlersEnterRun s).su = s.su ∧ (handlersEnterRun s).ou = s.ou ∧ (handlersEnterRun s).ml = s.ml ∧
      (handlersEnterRun s).sc = s.sc ∧ (handlersEnterRun s).lu = s.lu ∧ (handlersEnterRun s).pl = s.pl ∧
      (handlersEnterRun s).bus = s.bus ∧ (handlersEnterRun s).pins = s.pins ∧ (handlersEnterRun s).eeprom = s.eeprom ∧
      (handlersEnterRun s).tenth = s.tenth ∧ (handlersEnterRun s).free = s.free ∧
      (handlersEnterRun s).pending = s.pending := by simp [handlersEnterRun]

/-! ### Zones -/

@[simp] theorem stage1_frame :
    (stage1 s).hs = s.hs ∧ (stage1 s).pa = s.pa ∧ (stage1 s).rs = s.rs ∧ (stage1 s).su = s.su ∧ (stage1 s).ou = s.ou ∧
      (stage1 s).ml = s.ml ∧ (stage1 s).sc = s.sc ∧ (stage1 s).lu = s.lu ∧ (stage1 s).pl = s.pl ∧
      (stage1 s).pins = s.pins ∧ (stage1 s).eeprom = s.eeprom ∧ (stage1 s).tenth = s.tenth ∧ (stage1 s).free = s.free ∧
      (stage1 s).pending = s.pending := by simp [stage1]

@[simp] theorem takeAllotment_frame (x : Allotment) :
    (takeAllotment x s).hs = s.hs ∧ (takeAllotment x s).pa = s.pa ∧ (takeAllotment x s).rs = s.rs ∧
      (takeAllotment x s).su = s.su ∧ (takeAllotment x s).ou = s.ou ∧ (takeAllotment x s).ml = s.ml ∧
      (takeAllotment x s).sc = s.sc ∧ (takeAllotment x s).lu = s.lu ∧ (takeAllotment x s).pl = s.pl ∧
      (takeAllotment x s).pins = s.pins ∧ (takeAllotment x s).eeprom = s.eeprom ∧ (takeAllotment x s).tenth = s.tenth ∧
      (takeAllotment x s).free = s.free ∧ (takeAllotment x s).pending = s.pending := by
  simp only [takeAllotment]
  repeat' split
  all_goals simp

@[simp] theorem zonesLeaveRun_frame :
    (zonesLeaveRun s).hs = s.hs ∧ (zonesLeaveRun s).pa = s.pa ∧ (zonesLeaveRun s).rs = s.rs ∧
      (zonesLeaveRun s).su = s.su ∧ (zonesLeaveRun s).ou = s.ou ∧ (zonesLeaveRun s).ml = s.ml ∧
      (zonesLeaveRun s).sc = s.sc ∧ (zonesLeaveRun s).lu = s.lu ∧ (zonesLeaveRun s).pl = s.pl ∧
      (zonesLeaveRun s).bus = s.bus ∧ (zonesLeaveRun s).pins = s.pins ∧ (zonesLeaveRun s).eeprom = s.eeprom ∧
      (zonesLeaveRun s).tenth = s.tenth ∧ (zonesLeaveRun s).free = s.free ∧
      (zonesLeaveRun s).pending = s.pending := by simp [zonesLeaveRun]

@[simp] theorem zonesRestart_frame :
    (zonesRestart s).hs = s.hs ∧ (zonesRestart s).pa = s.pa ∧ (zonesRestart s).rs = s.rs ∧ (zonesRestart s).su = s.su ∧
      (zonesRestart s).ou = s.ou ∧ (zonesRestart s).ml = s.ml ∧ (zonesRestart s).sc = s.sc ∧ (zonesRestart s).lu = s.lu ∧
      (zonesRestart s).pl = s.pl ∧ (zonesRestart s).bus = s.bus ∧ (zonesRestart s).pins = s.pins ∧
      (zonesRestart s).eeprom = s.eeprom ∧ (zonesRestart s).tenth = s.tenth ∧ (zonesRestart s).free = s.free ∧
      (zonesRestart s).pending = s.pending := by simp [zonesRestart]

@[simp] theorem zonesLoaded_frame :
    (zonesLoaded s).hs = s.hs ∧ (zonesLoaded s).pa = s.pa ∧ (zonesLoaded s).rs = s.rs ∧ (zonesLoaded s).su = s.su ∧
      (zonesLoaded s).ou = s.ou ∧ (zonesLoaded s).ml = s.ml ∧ (zonesLoaded s).sc = s.sc ∧ (zonesLoaded s).lu = s.lu ∧
      (zonesLoaded s).pl = s.pl ∧ (zonesLoaded s).bus = s.bus ∧ (zonesLoaded s).pins = s.pins ∧
      (zonesLoaded s).eeprom = s.eeprom ∧ (zonesLoaded s).tenth = s.tenth ∧ (zonesLoaded s).free = s.free ∧
      (zonesLoaded s).pending = s.pending := by simp [zonesLoaded]

@[simp] theorem zonesEnterRun_frame :
    (zonesEnterRun s).hs = s.hs ∧ (zonesEnterRun s).pa = s.pa ∧ (zonesEnterRun s).rs = s.rs ∧
      (zonesEnterRun s).su = s.su ∧ (zonesEnterRun s).ou = s.ou ∧ (zonesEnterRun s).ml = s.ml ∧
      (zonesEnterRun s).sc = s.sc ∧ (zonesEnterRun s).lu = s.lu ∧ (zonesEnterRun s).pl = s.pl ∧
      (zonesEnterRun s).bus = s.bus ∧ (zonesEnterRun s).pins = s.pins ∧ (zonesEnterRun s).eeprom = s.eeprom ∧
      (zonesEnterRun s).tenth = s.tenth ∧ (zonesEnterRun s).free = s.free ∧
      (zonesEnterRun s).pending = s.pending := by simp [zonesEnterRun]

/-! ### Operating states -/

@[simp] theorem beginPass_frame :
    (beginPass s).zr = s.zr ∧ (beginPass s).hs = s.hs ∧ (beginPass s).pa = s.pa ∧ (beginPass s).rs = s.rs ∧
      (beginPass s).ou = s.ou ∧ (beginPass s).ml = s.ml ∧ (beginPass s).sc = s.sc ∧ (beginPass s).lu = s.lu ∧
      (beginPass s).pl = s.pl ∧ (beginPass s).bus = s.bus ∧ (beginPass s).pins = s.pins ∧
      (beginPass s).eeprom = s.eeprom ∧ (beginPass s).tenth = s.tenth ∧ (beginPass s).free = s.free ∧
      (beginPass s).pending = s.pending := by simp [beginPass]

@[simp] theorem hurryPass_frame :
    (hurryPass s).zr = s.zr ∧ (hurryPass s).hs = s.hs ∧ (hurryPass s).pa = s.pa ∧ (hurryPass s).rs = s.rs ∧
      (hurryPass s).ou = s.ou ∧ (hurryPass s).ml = s.ml ∧ (hurryPass s).sc = s.sc ∧ (hurryPass s).lu = s.lu ∧
      (hurryPass s).pl = s.pl ∧ (hurryPass s).bus = s.bus ∧ (hurryPass s).pins = s.pins ∧
      (hurryPass s).eeprom = s.eeprom ∧ (hurryPass s).tenth = s.tenth ∧ (hurryPass s).free = s.free ∧
      (hurryPass s).pending = s.pending := by
  simp only [hurryPass]
  repeat' split
  all_goals simp

@[simp] theorem cutPass_frame :
    (cutPass s).zr = s.zr ∧ (cutPass s).hs = s.hs ∧ (cutPass s).pa = s.pa ∧ (cutPass s).rs = s.rs ∧
      (cutPass s).ou = s.ou ∧ (cutPass s).ml = s.ml ∧ (cutPass s).sc = s.sc ∧ (cutPass s).lu = s.lu ∧
      (cutPass s).pl = s.pl ∧ (cutPass s).bus = s.bus ∧ (cutPass s).pins = s.pins ∧ (cutPass s).eeprom = s.eeprom ∧
      (cutPass s).tenth = s.tenth ∧ (cutPass s).free = s.free ∧ (cutPass s).pending = s.pending := by simp [cutPass]

@[simp] theorem dropShortTrims_frame :
    (dropShortTrims s).zr = s.zr ∧ (dropShortTrims s).hs = s.hs ∧ (dropShortTrims s).pa = s.pa ∧
      (dropShortTrims s).rs = s.rs ∧ (dropShortTrims s).ou = s.ou ∧ (dropShortTrims s).ml = s.ml ∧
      (dropShortTrims s).sc = s.sc ∧ (dropShortTrims s).lu = s.lu ∧ (dropShortTrims s).pl = s.pl ∧
      (dropShortTrims s).bus = s.bus ∧ (dropShortTrims s).pins = s.pins ∧ (dropShortTrims s).eeprom = s.eeprom ∧
      (dropShortTrims s).tenth = s.tenth ∧ (dropShortTrims s).free = s.free ∧
      (dropShortTrims s).pending = s.pending := by simp [dropShortTrims]

@[simp] theorem queueFullTrims_frame :
    (queueFullTrims s).zr = s.zr ∧ (queueFullTrims s).hs = s.hs ∧ (queueFullTrims s).pa = s.pa ∧
      (queueFullTrims s).rs = s.rs ∧ (queueFullTrims s).ou = s.ou ∧ (queueFullTrims s).ml = s.ml ∧
      (queueFullTrims s).sc = s.sc ∧ (queueFullTrims s).lu = s.lu ∧ (queueFullTrims s).pl = s.pl ∧
      (queueFullTrims s).bus = s.bus ∧ (queueFullTrims s).pins = s.pins ∧ (queueFullTrims s).eeprom = s.eeprom ∧
      (queueFullTrims s).tenth = s.tenth ∧ (queueFullTrims s).free = s.free ∧
      (queueFullTrims s).pending = s.pending := by simp [queueFullTrims]

@[simp] theorem sensingEntersRun_frame :
    (sensingEntersRun s).zr = s.zr ∧ (sensingEntersRun s).hs = s.hs ∧ (sensingEntersRun s).pa = s.pa ∧
      (sensingEntersRun s).rs = s.rs ∧ (sensingEntersRun s).ou = s.ou ∧ (sensingEntersRun s).ml = s.ml ∧
      (sensingEntersRun s).sc = s.sc ∧ (sensingEntersRun s).lu = s.lu ∧ (sensingEntersRun s).pl = s.pl ∧
      (sensingEntersRun s).bus = s.bus ∧ (sensingEntersRun s).pins = s.pins ∧ (sensingEntersRun s).eeprom = s.eeprom ∧
      (sensingEntersRun s).tenth = s.tenth ∧ (sensingEntersRun s).free = s.free ∧
      (sensingEntersRun s).pending = s.pending := by simp [sensingEntersRun]

@[simp] theorem sensingLeavesRun_frame :
    (sensingLeavesRun s).zr = s.zr ∧ (sensingLeavesRun s).hs = s.hs ∧ (sensingLeavesRun s).pa = s.pa ∧
      (sensingLeavesRun s).rs = s.rs ∧ (sensingLeavesRun s).ou = s.ou ∧ (sensingLeavesRun s).ml = s.ml ∧
      (sensingLeavesRun s).sc = s.sc ∧ (sensingLeavesRun s).lu = s.lu ∧ (sensingLeavesRun s).pl = s.pl ∧
      (sensingLeavesRun s).bus = s.bus ∧ (sensingLeavesRun s).pins = s.pins ∧ (sensingLeavesRun s).eeprom = s.eeprom ∧
      (sensingLeavesRun s).tenth = s.tenth ∧ (sensingLeavesRun s).free = s.free ∧
      (sensingLeavesRun s).pending = s.pending := by simp [sensingLeavesRun]

@[simp] theorem enterRun_frame :
    (enterRun s).pa = s.pa ∧ (enterRun s).rs = s.rs ∧ (enterRun s).ou = s.ou ∧ (enterRun s).pl = s.pl ∧
      (enterRun s).bus = s.bus ∧ (enterRun s).pins = s.pins ∧ (enterRun s).eeprom = s.eeprom ∧
      (enterRun s).tenth = s.tenth ∧ (enterRun s).free = s.free ∧ (enterRun s).pending = s.pending := by simp [enterRun]

@[simp] theorem leaveRun_frame :
    (leaveRun s).pl = s.pl ∧ (leaveRun s).bus = s.bus.dropCascade ∧ (leaveRun s).pins = s.pins ∧ (leaveRun s).eeprom = s.eeprom ∧
      (leaveRun s).tenth = s.tenth ∧ (leaveRun s).free = s.free ∧ (leaveRun s).pending = s.pending := by simp [leaveRun]

@[simp] theorem enterWaking_frame :
    (enterWaking s).zr = s.zr ∧ (enterWaking s).hs = s.hs ∧ (enterWaking s).pa = s.pa ∧ (enterWaking s).rs = s.rs ∧
      (enterWaking s).ml = s.ml ∧ (enterWaking s).pl = s.pl ∧ (enterWaking s).bus = s.bus ∧
      (enterWaking s).pins = s.pins ∧ (enterWaking s).eeprom = s.eeprom ∧ (enterWaking s).tenth = s.tenth ∧
      (enterWaking s).free = s.free ∧ (enterWaking s).pending = s.pending := by simp [enterWaking]

@[simp] theorem enterParked_frame :
    (enterParked s).zr = s.zr ∧ (enterParked s).hs = s.hs ∧ (enterParked s).pa = s.pa ∧ (enterParked s).rs = s.rs ∧
      (enterParked s).ml = s.ml ∧ (enterParked s).pl = s.pl ∧ (enterParked s).bus = s.bus ∧
      (enterParked s).pins = s.pins ∧ (enterParked s).eeprom = s.eeprom ∧ (enterParked s).tenth = s.tenth ∧
      (enterParked s).free = s.free ∧ (enterParked s).pending = s.pending := by
  simp only [enterParked]
  repeat' split
  all_goals simp

@[simp] theorem restartEffect_frame :
    (restartEffect s).pl = s.pl ∧ (restartEffect s).pins = s.pins ∧ (restartEffect s).eeprom = s.eeprom ∧
      (restartEffect s).tenth = s.tenth ∧ (restartEffect s).free = s.free ∧
      (restartEffect s).pending = s.pending := by simp [restartEffect]

@[simp] theorem doorWake_frame :
    (doorWake s).pa = s.pa ∧ (doorWake s).rs = s.rs ∧ (doorWake s).ou = s.ou ∧ (doorWake s).pl = s.pl ∧
      (doorWake s).bus = s.bus ∧ (doorWake s).pins = s.pins ∧ (doorWake s).eeprom = s.eeprom ∧
      (doorWake s).tenth = s.tenth ∧ (doorWake s).free = s.free ∧ (doorWake s).pending = s.pending := by
  simp only [doorWake]
  repeat' split
  all_goals simp

@[simp] theorem wake_frame :
    (wake s).pa = s.pa ∧ (wake s).rs = s.rs ∧ (wake s).pl = s.pl ∧ (wake s).bus = s.bus ∧ (wake s).pins = s.pins ∧
      (wake s).eeprom = s.eeprom ∧ (wake s).tenth = s.tenth ∧ (wake s).free = s.free ∧ (wake s).pending = s.pending := by
  simp only [wake]
  repeat' split
  all_goals simp

/-! ### The scan pass -/

@[simp] theorem endPass_frame :
    (endPass s).pa = s.pa ∧ (endPass s).rs = s.rs ∧ (endPass s).ou = s.ou ∧ (endPass s).pl = s.pl ∧
      (endPass s).bus = s.bus ∧ (endPass s).pins = s.pins ∧ (endPass s).eeprom = s.eeprom ∧ (endPass s).tenth = s.tenth ∧
      (endPass s).free = s.free ∧ (endPass s).pending = s.pending := by
  simp only [endPass]
  repeat' split
  all_goals simp

@[simp] theorem listFrom_frame (l : List (Fin 24)) :
    (listFrom l s).pa = s.pa ∧ (listFrom l s).rs = s.rs ∧ (listFrom l s).ou = s.ou ∧ (listFrom l s).pl = s.pl ∧
      (listFrom l s).bus = s.bus ∧ (listFrom l s).pins = s.pins ∧ (listFrom l s).eeprom = s.eeprom ∧
      (listFrom l s).tenth = s.tenth ∧ (listFrom l s).free = s.free ∧ (listFrom l s).pending = s.pending := by
  simp only [listFrom]
  repeat' split
  all_goals simp

@[simp] theorem beginList_frame (b : Option (Fin 3)) (l : List (Fin 24)) :
    (beginList b l s).pa = s.pa ∧ (beginList b l s).rs = s.rs ∧ (beginList b l s).ou = s.ou ∧
      (beginList b l s).pl = s.pl ∧ (beginList b l s).bus = s.bus ∧ (beginList b l s).pins = s.pins ∧
      (beginList b l s).eeprom = s.eeprom ∧ (beginList b l s).tenth = s.tenth ∧ (beginList b l s).free = s.free ∧
      (beginList b l s).pending = s.pending := by
  simp only [beginList]
  repeat' split
  all_goals simp

@[simp] theorem beginTrim_frame (l : List (Fin 24)) :
    (beginTrim l s).pa = s.pa ∧ (beginTrim l s).rs = s.rs ∧ (beginTrim l s).ou = s.ou ∧ (beginTrim l s).pl = s.pl ∧
      (beginTrim l s).bus = s.bus ∧ (beginTrim l s).pins = s.pins ∧ (beginTrim l s).eeprom = s.eeprom ∧
      (beginTrim l s).tenth = s.tenth ∧ (beginTrim l s).free = s.free ∧ (beginTrim l s).pending = s.pending := by
  simp only [beginTrim]
  repeat' split
  all_goals simp

@[simp] theorem supplyWatch_frame (n : Nat) :
    (supplyWatch n s).zr = s.zr ∧ (supplyWatch n s).hs = s.hs ∧ (supplyWatch n s).pa = s.pa ∧
      (supplyWatch n s).rs = s.rs ∧ (supplyWatch n s).ou = s.ou ∧ (supplyWatch n s).ml = s.ml ∧
      (supplyWatch n s).sc = s.sc ∧ (supplyWatch n s).pl = s.pl ∧ (supplyWatch n s).bus = s.bus ∧
      (supplyWatch n s).pins = s.pins ∧ (supplyWatch n s).eeprom = s.eeprom ∧ (supplyWatch n s).tenth = s.tenth ∧
      (supplyWatch n s).free = s.free ∧ (supplyWatch n s).pending = s.pending := by
  simp only [supplyWatch]
  repeat' split
  all_goals simp

@[simp] theorem afterTrim_frame (b : Fin 3) (l : List (Fin 24)) :
    (afterTrim b l s).pa = s.pa ∧ (afterTrim b l s).rs = s.rs ∧ (afterTrim b l s).ou = s.ou ∧
      (afterTrim b l s).pl = s.pl ∧ (afterTrim b l s).bus = s.bus ∧ (afterTrim b l s).pins = s.pins ∧
      (afterTrim b l s).eeprom = s.eeprom ∧ (afterTrim b l s).tenth = s.tenth ∧ (afterTrim b l s).free = s.free ∧
      (afterTrim b l s).pending = s.pending := by
  simp only [afterTrim]
  repeat' split
  all_goals simp

@[simp] theorem forPoints_takeRaw_t_r_frame (t : Fin 24) (r : Nat) :
    (forPoints (takeRaw t r) s).zr = s.zr ∧ (forPoints (takeRaw t r) s).hs = s.hs ∧
      (forPoints (takeRaw t r) s).pa = s.pa ∧ (forPoints (takeRaw t r) s).rs = s.rs ∧
      (forPoints (takeRaw t r) s).ou = s.ou ∧ (forPoints (takeRaw t r) s).ml = s.ml ∧
      (forPoints (takeRaw t r) s).sc = s.sc ∧ (forPoints (takeRaw t r) s).pl = s.pl ∧
      (forPoints (takeRaw t r) s).bus = s.bus ∧ (forPoints (takeRaw t r) s).pins = s.pins ∧
      (forPoints (takeRaw t r) s).eeprom = s.eeprom ∧ (forPoints (takeRaw t r) s).tenth = s.tenth ∧
      (forPoints (takeRaw t r) s).free = s.free ∧ (forPoints (takeRaw t r) s).pending = s.pending :=
  ⟨forPoints_keeps (·.zr) (by simp) s, forPoints_keeps (·.hs) (by simp) s, forPoints_keeps (·.pa) (by simp) s,
      forPoints_keeps (·.rs) (by simp) s, forPoints_keeps (·.ou) (by simp) s, forPoints_keeps (·.ml) (by simp) s,
      forPoints_keeps (·.sc) (by simp) s, forPoints_keeps (·.pl) (by simp) s, forPoints_keeps (·.bus) (by simp) s,
      forPoints_keeps (·.pins) (by simp) s, forPoints_keeps (·.eeprom) (by simp) s,
      forPoints_keeps (·.tenth) (by simp) s, forPoints_keeps (·.free) (by simp) s, forPoints_keeps (·.pending) (by simp) s⟩

/-! ### The profile -/

@[simp] theorem loadProfile_frame (b : Bool) :
    (loadProfile b s).zr = s.zr ∧ (loadProfile b s).hs = s.hs ∧ (loadProfile b s).pa = s.pa ∧
      (loadProfile b s).rs = s.rs ∧ (loadProfile b s).su = s.su ∧ (loadProfile b s).ou = s.ou ∧
      (loadProfile b s).ml = s.ml ∧ (loadProfile b s).sc = s.sc ∧ (loadProfile b s).bus = s.bus ∧
      (loadProfile b s).pins = s.pins ∧ (loadProfile b s).eeprom = s.eeprom ∧ (loadProfile b s).tenth = s.tenth ∧
      (loadProfile b s).free = s.free ∧ (loadProfile b s).pending = s.pending := by
  simp only [loadProfile]
  repeat' split
  all_goals simp

@[simp] theorem blocksLoaded_frame :
    (blocksLoaded s).pa = s.pa ∧ (blocksLoaded s).ml = s.ml ∧ (blocksLoaded s).sc = s.sc ∧ (blocksLoaded s).pl = s.pl ∧
      (blocksLoaded s).bus = s.bus ∧ (blocksLoaded s).pins = s.pins ∧ (blocksLoaded s).eeprom = s.eeprom ∧
      (blocksLoaded s).tenth = s.tenth ∧ (blocksLoaded s).free = s.free ∧
      (blocksLoaded s).pending = s.pending := by simp [blocksLoaded]

@[simp] theorem paramWritten_frame (w : WorkingMemory) (n : Nat) :
    (paramWritten w n s).zr = s.zr ∧ (paramWritten w n s).pa = s.pa ∧ (paramWritten w n s).rs = s.rs ∧
      (paramWritten w n s).sc = s.sc ∧ (paramWritten w n s).pl = s.pl ∧ (paramWritten w n s).bus = s.bus ∧
      (paramWritten w n s).pins = s.pins ∧ (paramWritten w n s).eeprom = s.eeprom ∧
      (paramWritten w n s).tenth = s.tenth ∧ (paramWritten w n s).free = s.free ∧
      (paramWritten w n s).pending = s.pending := by
  simp only [paramWritten]
  repeat' split
  all_goals simp only [zoneChannelChanged_frame, applyPointChange_frame, roleChanged_frame, modulusChanged_frame,
    stepChanged_frame, polarityChanged_frame, slotKindChanged_frame, and_self]

@[simp] theorem endSave_frame (k : EventKind) (n : Nat) (v : Int) :
    (endSave k n v s).zr = s.zr ∧ (endSave k n v s).hs = s.hs ∧ (endSave k n v s).pa = s.pa ∧
      (endSave k n v s).rs = s.rs ∧ (endSave k n v s).su = s.su ∧ (endSave k n v s).ou = s.ou ∧
      (endSave k n v s).ml = s.ml ∧ (endSave k n v s).sc = s.sc ∧ (endSave k n v s).bus = s.bus ∧
      (endSave k n v s).pins = s.pins ∧ (endSave k n v s).eeprom = s.eeprom ∧ (endSave k n v s).tenth = s.tenth ∧
      (endSave k n v s).free = s.free ∧ (endSave k n v s).pending = s.pending := by simp [endSave]

@[simp] theorem mixPage_frame (w : WorkingMemory) :
    (mixPage w s).zr = s.zr ∧ (mixPage w s).hs = s.hs ∧ (mixPage w s).pa = s.pa ∧ (mixPage w s).rs = s.rs ∧
      (mixPage w s).su = s.su ∧ (mixPage w s).ou = s.ou ∧ (mixPage w s).ml = s.ml ∧ (mixPage w s).sc = s.sc ∧
      (mixPage w s).lu = s.lu ∧ (mixPage w s).pl = s.pl ∧ (mixPage w s).bus = s.bus ∧ (mixPage w s).pins = s.pins ∧
      (mixPage w s).tenth = s.tenth ∧ (mixPage w s).pending = s.pending := by simp [mixPage]

@[simp] theorem saveUnanswered_frame (w : WorkingMemory) :
    (saveUnanswered w s).zr = s.zr ∧ (saveUnanswered w s).hs = s.hs ∧ (saveUnanswered w s).pa = s.pa ∧
      (saveUnanswered w s).rs = s.rs ∧ (saveUnanswered w s).su = s.su ∧ (saveUnanswered w s).ou = s.ou ∧
      (saveUnanswered w s).ml = s.ml ∧ (saveUnanswered w s).sc = s.sc ∧ (saveUnanswered w s).bus = s.bus ∧
      (saveUnanswered w s).pins = s.pins ∧ (saveUnanswered w s).tenth = s.tenth ∧
      (saveUnanswered w s).pending = s.pending := by simp [saveUnanswered]

@[simp] theorem savePageRead_frame (w : WorkingMemory) (v : Vector Byte 64) :
    (savePageRead w v s).zr = s.zr ∧ (savePageRead w v s).hs = s.hs ∧ (savePageRead w v s).pa = s.pa ∧
      (savePageRead w v s).rs = s.rs ∧ (savePageRead w v s).su = s.su ∧ (savePageRead w v s).ou = s.ou ∧
      (savePageRead w v s).ml = s.ml ∧ (savePageRead w v s).sc = s.sc ∧ (savePageRead w v s).bus = s.bus ∧
      (savePageRead w v s).pins = s.pins ∧ (savePageRead w v s).tenth = s.tenth ∧ (savePageRead w v s).free = s.free ∧
      (savePageRead w v s).pending = s.pending := by
  simp only [savePageRead]
  repeat' split
  all_goals simp

/-! ### The link -/

@[simp] theorem rejectDue_frame (x y : Byte) :
    (rejectDue x y s).zr = s.zr ∧ (rejectDue x y s).hs = s.hs ∧ (rejectDue x y s).pa = s.pa ∧
      (rejectDue x y s).rs = s.rs ∧ (rejectDue x y s).su = s.su ∧ (rejectDue x y s).ou = s.ou ∧
      (rejectDue x y s).ml = s.ml ∧ (rejectDue x y s).sc = s.sc ∧ (rejectDue x y s).pl = s.pl ∧
      (rejectDue x y s).bus = s.bus ∧ (rejectDue x y s).pins = s.pins ∧ (rejectDue x y s).eeprom = s.eeprom ∧
      (rejectDue x y s).tenth = s.tenth ∧ (rejectDue x y s).free = s.free ∧
      (rejectDue x y s).pending = s.pending := by simp [rejectDue]

@[simp] theorem keepReceiving_frame (l : List Byte) :
    (keepReceiving l s).zr = s.zr ∧ (keepReceiving l s).hs = s.hs ∧ (keepReceiving l s).pa = s.pa ∧
      (keepReceiving l s).rs = s.rs ∧ (keepReceiving l s).su = s.su ∧ (keepReceiving l s).ou = s.ou ∧
      (keepReceiving l s).ml = s.ml ∧ (keepReceiving l s).sc = s.sc ∧ (keepReceiving l s).pl = s.pl ∧
      (keepReceiving l s).bus = s.bus ∧ (keepReceiving l s).pins = s.pins ∧ (keepReceiving l s).eeprom = s.eeprom ∧
      (keepReceiving l s).tenth = s.tenth ∧ (keepReceiving l s).free = s.free ∧
      (keepReceiving l s).pending = s.pending := by simp [keepReceiving]

@[simp] theorem stopReceiving_frame :
    (stopReceiving s).zr = s.zr ∧ (stopReceiving s).hs = s.hs ∧ (stopReceiving s).pa = s.pa ∧
      (stopReceiving s).rs = s.rs ∧ (stopReceiving s).su = s.su ∧ (stopReceiving s).ou = s.ou ∧
      (stopReceiving s).ml = s.ml ∧ (stopReceiving s).sc = s.sc ∧ (stopReceiving s).pl = s.pl ∧
      (stopReceiving s).bus = s.bus ∧ (stopReceiving s).pins = s.pins ∧ (stopReceiving s).eeprom = s.eeprom ∧
      (stopReceiving s).tenth = s.tenth ∧ (stopReceiving s).free = s.free ∧
      (stopReceiving s).pending = s.pending := by simp [stopReceiving]

end Sys2Proof.Machine
end

