-- ==== Sys2Proof/Laws/Link.lean ====
section
/-! SUPPORT. The Link Unit's laws: what an event, a notice, a request and an answer do, said once for each shared operation. -/

namespace Sys2Proof.Machine

/-! ### The notice queue (R154, R155) -/

/-- Queuing a notice: what the queue then is. -/
theorem LU.queueNotice_queue (l : LU) (k : EventKind) :
    (l.queueNotice k).queue = if k ∈ l.queue ∨ 8 ≤ l.queue.length then l.queue else l.queue ++ [k] := by
  simp only [LU.queueNotice]
  split
  · simp [*]
  · split
    · next h1 h2 => simp [h1]; omega
    · next h1 h2 => simp; omega

/-- Queuing a notice changes nothing but the queue. -/
@[simp] theorem LU.queueNotice_frame (l : LU) (k : EventKind) :
    (l.queueNotice k).rate = l.rate ∧ (l.queueNotice k).receiver = l.receiver ∧ (l.queueNotice k).gap = l.gap ∧
    (l.queueNotice k).inHand = l.inHand ∧ (l.queueNotice k).overrun = l.overrun ∧ (l.queueNotice k).answer = l.answer ∧
    (l.queueNotice k).overrunReject = l.overrunReject ∧ (l.queueNotice k).transmitter = l.transmitter ∧
    (l.queueNotice k).after = l.after ∧ (l.queueNotice k).events = l.events := by
  simp only [LU.queueNotice]
  repeat' split
  all_goals simp

/-- The bound of R154: at most eight entries, no two of one kind. -/
def LU.QueueOk (l : LU) : Prop := l.queue.length ≤ 8 ∧ l.queue.Nodup

/-- Queuing a notice keeps the bound. -/
theorem LU.queueNotice_ok {l : LU} (h : l.QueueOk) (k : EventKind) : (l.queueNotice k).QueueOk := by
  simp only [LU.QueueOk, LU.queueNotice_queue]
  split
  · exact h
  · next hn =>
    simp only [not_or, Nat.not_le] at hn
    refine ⟨by simp; omega, ?_⟩
    rw [List.nodup_append]
    refine ⟨h.2, List.nodup_singleton k, fun a ha b hb => ?_⟩
    rw [List.mem_singleton] at hb
    subst hb
    exact fun e => hn.1 (e ▸ ha)

/-- Removing a notice keeps the bound. -/
theorem LU.dropNotice_ok {l : LU} (h : l.QueueOk) (k : EventKind) : (l.dropNotice k).QueueOk :=
  ⟨le_trans (List.length_filter_le _ _) h.1, h.2.filter _⟩

/-- Writing an event record keeps the queue. -/
@[simp] theorem LU.setEvent_queue (l : LU) (k : EventKind) (r : EventRecord) : (l.setEvent k r).queue = l.queue := rfl

/-- The record written reads as written. -/
@[simp] theorem LU.event_setEvent_same (l : LU) (k : EventKind) (r : EventRecord) : (l.setEvent k r).event k = r := by
  simp [LU.event, LU.setEvent]

/-- Two kinds with one number are one kind. -/
theorem EventKind.index_injective {k j : EventKind} (h : k.index = j.index) : k = j := by
  cases k <;> cases j <;> first | rfl | exact absurd h (by decide)

/-- Every other record reads as before. -/
theorem LU.event_setEvent_other {k j : EventKind} (h : k ≠ j) (l : LU) (r : EventRecord) :
    (l.setEvent k r).event j = l.event j := by
  have h' : k.index.val ≠ j.index.val := fun e => h (EventKind.index_injective (Fin.ext e))
  simp [LU.event, LU.setEvent, h']

/-- What an occurrence leaves in the record of its kind (R152). -/
theorem LU.event_occur_same (l : LU) (k : EventKind) (n : Nat) (v : Int) :
    (l.occur k n v).event k =
      { l.event k with latched := true, subject := n, value := clampInt (-32768) 32767 v } := by
  simp only [LU.occur]
  split
  · simp only [LU.event, LU.queueNotice_frame]
    exact LU.event_setEvent_same l k _
  · exact LU.event_setEvent_same l k _

/-- An occurrence leaves every other record as it was. -/
theorem LU.event_occur_other {k j : EventKind} (h : k ≠ j) (l : LU) (n : Nat) (v : Int) :
    (l.occur k n v).event j = l.event j := by
  simp only [LU.occur]
  split
  · simp only [LU.event, LU.queueNotice_frame]
    exact LU.event_setEvent_other h l _
  · exact LU.event_setEvent_other h l _

/-- An occurrence keeps the bound of the queue. -/
theorem LU.occur_ok {l : LU} (h : l.QueueOk) (k : EventKind) (n : Nat) (v : Int) : (l.occur k n v).QueueOk := by
  simp only [LU.occur]
  split
  · exact LU.queueNotice_ok (l := l.setEvent k _) h k
  · exact h

/-- An occurrence changes nothing of the Link Unit but the record and the queue. -/
@[simp] theorem LU.occur_frame (l : LU) (k : EventKind) (n : Nat) (v : Int) :
    (l.occur k n v).rate = l.rate ∧ (l.occur k n v).receiver = l.receiver ∧ (l.occur k n v).gap = l.gap ∧
    (l.occur k n v).inHand = l.inHand ∧ (l.occur k n v).overrun = l.overrun ∧ (l.occur k n v).answer = l.answer ∧
    (l.occur k n v).overrunReject = l.overrunReject ∧ (l.occur k n v).transmitter = l.transmitter ∧
    (l.occur k n v).after = l.after := by
  simp only [LU.occur]
  split <;> simp [LU.setEvent]

/-- An event that a block latches reads so (R152). -/
theorem latch_event (k : EventKind) (n : Nat) (v : Int) (s : State) :
    (latch k n v s).lu.event k =
      { s.lu.event k with latched := true, subject := n, value := clampInt (-32768) 32767 v } := LU.event_occur_same s.lu k n v

/-! ### The transmitter (R150) -/

/-- A busy transmitter takes nothing. -/
theorem LU.takeNext_busy {l : LU} {w : Sending} {f : Frame} {r : List Frame} (h : l.transmitter = .sending w f r) : l.takeNext = l := by
  simp [LU.takeNext, h]

/-- An idle transmitter takes the answer due first. -/
theorem LU.takeNext_answer {l : LU} {f : Frame} {r : List Frame} (h : l.transmitter = .idle) (ha : l.answer = some (f, r)) :
    l.takeNext = { l with answer := none, transmitter := .sending .answer f r } := by
  simp [LU.takeNext, h, ha]

/-- Taking the next frame leaves the events, the frame in hand and the receiver as they were. -/
@[simp] theorem LU.takeNext_frame (l : LU) :
    l.takeNext.rate = l.rate ∧ l.takeNext.receiver = l.receiver ∧ l.takeNext.gap = l.gap ∧ l.takeNext.inHand = l.inHand ∧
    l.takeNext.overrun = l.overrun ∧ l.takeNext.after = l.after ∧ l.takeNext.events = l.events := by
  simp only [LU.takeNext]
  repeat' split
  all_goals simp

/-- The queue after the transmitter has looked: as before, or without its oldest entry. -/
theorem LU.takeNext_queue (l : LU) : l.takeNext.queue = l.queue ∨ l.takeNext.queue = l.queue.tail := by
  simp only [LU.takeNext]
  repeat' split
  all_goals simp_all

/-- Taking the next frame keeps the bound of the queue. -/
theorem LU.takeNext_ok {l : LU} (h : l.QueueOk) : l.takeNext.QueueOk := by
  rcases l.takeNext_queue with e | e
  · simpa [LU.QueueOk, e] using h
  · refine ⟨?_, ?_⟩
    · rw [e, List.length_tail]; exact le_trans (Nat.sub_le _ _) h.1
    · rw [e]; exact h.2.tail

/-! ### Requests (R147 to R150) -/

/-- Outside PARKED the transmitter looks for its next frame (R150). -/
theorem kick_awake {s : State} (h : s.sc.opState ≠ .parked) : kick s = s.setLu s.lu.takeNext := if_neg h

/-- In PARKED nothing is sent (R150). -/
theorem kick_parked {s : State} (h : s.sc.opState = .parked) : kick s = s := if_pos h

/-- An answer that falls due and is looked for at once (R150). -/
theorem kick_answerDue {s : State} (h : s.sc.opState ≠ .parked) (k : Byte) (p c : List Byte) (hi : s.lu.inHand = some ⟨k, p⟩) :
    kick (answerDue k c s) = s.setLu (s.lu.replied k p c) := by
  rw [kick_awake (s := answerDue k c s) h]
  simp only [answerDue, State.setLu_lu, State.setLu_setLu]
  cases ht : s.lu.transmitter with
  | idle => simp only [LU.takeNext, LU.replied, ht, ← hi]
  | sending w f r => simp only [LU.takeNext, LU.replied, ht, ← hi]

/-- In PARKED a request changes nothing (R147). -/
theorem request_parked {s : State} (h : s.sc.opState = .parked) (k : Byte) (p : List Byte) (act : State → State) :
    request k p act s = .next s := by simp [request, h]

/-- A request behind a frame in hand is dropped and marked (R148). -/
theorem request_dropped {s : State} (h : s.sc.opState ≠ .parked) (hi : s.lu.inHand.isSome) (k : Byte) (p : List Byte)
    (act : State → State) :
    request k p act s = .next (s.setLu { s.lu with overrun := some (s.lu.overrun.getD k) }) := by
  simp [request, h, takeFrame, hi]

/-- The state in which a served request's owner takes it. -/
def State.withInHand (s : State) (k : Byte) (p : List Byte) : State := s.setLu { s.lu with inHand := some ⟨k, p⟩ }

/-- A served request is taken by its owner, whose answer falls due (R149). -/
theorem request_served {s : State} (h : s.Served) (k : Byte) (p : List Byte) (always : Bool) (owner : State → State × List Byte) :
    request k p (dispatch k always owner) s =
      .next (kick (answerDue k (owner (s.withInHand k p)).2 (owner (s.withInHand k p)).1)) := by
  obtain ⟨hs, hi⟩ := h
  rcases hs with hs | hs <;> simp [request, takeFrame, dispatch, State.withInHand, hs, hi]

/-- In LOADING and WAKING a request is answered NOT_READY and nothing else changes (R149). -/
theorem request_notReady {s : State} (h : s.sc.opState = .loading ∨ s.sc.opState = .waking) (hi : s.lu.inHand = none) (k : Byte)
    (p : List Byte) (owner : State → State × List Byte) :
    request k p (dispatch k false owner) s = .next (s.setLu (s.lu.replied k p [codeNotReady])) := by
  have hp : s.sc.opState ≠ .parked := by rcases h with h | h <;> simp [h]
  have hd : dispatch k false owner (s.withInHand k p) = answerDue k [codeNotReady] (s.withInHand k p) := by
    simp [dispatch, State.withInHand, h]
  have hk := kick_answerDue (s := s.withInHand k p) (by simpa [State.withInHand] using hp) k p [codeNotReady] rfl
  simp only [request, if_neg hp, takeFrame, hi, Option.isSome_none, Bool.false_eq_true, if_false]
  rw [State.withInHand] at hd hk
  rw [hd, hk]
  simp only [State.setLu_setLu, State.setLu_lu, LU.replied]

/-- An owner that leaves the Link Unit alone: its state with the answer due (R149, R150). -/
theorem served_answer {s : State} (h : s.Served) (k : Byte) (p : List Byte) (always : Bool) (owner : State → State × List Byte)
    (hl : (owner (s.withInHand k p)).1.lu = (s.withInHand k p).lu)
    (hc : (owner (s.withInHand k p)).1.sc.opState ≠ .parked) :
    request k p (dispatch k always owner) s =
      .next ((owner (s.withInHand k p)).1.setLu (s.lu.replied k p (owner (s.withInHand k p)).2)) := by
  rw [request_served h]
  rw [kick_answerDue hc k p _ (by rw [hl]; rfl), hl]
  congr 2

end Sys2Proof.Machine
end

