-- ==== Sys2Proof/Laws/Handlers.lean ====
section
/-! SUPPORT. The Handler Sequencer's laws: what its shared operations leave in a handler's record, said once for each. -/

namespace Sys2Proof.Machine

variable (s : State)

/-! ### Records read through an event -/

@[simp] theorem latch_handler (k : EventKind) (n : Nat) (v : Int) (h : Fin 2) : (latch k n v s).handler h = s.handler h := rfl
@[simp] theorem latch_zone (k : EventKind) (n : Nat) (v : Int) (z : Fin 12) : (latch k n v s).zone z = s.zone z := rfl
@[simp] theorem latch_renewal (k : EventKind) (n : Nat) (v : Int) (h : Fin 2) : (latch k n v s).renewal h = s.renewal h := rfl
@[simp] theorem latch_bank (k : EventKind) (n : Nat) (v : Int) (b : Fin 3) : (latch k n v s).bank b = s.bank b := rfl
@[simp] theorem latch_point (k : EventKind) (n : Nat) (v : Int) (p : Fin 32) : (latch k n v s).point p = s.point p := rfl
@[simp] theorem latch_door (k : EventKind) (n : Nat) (v : Int) (d : Fin 4) : (latch k n v s).door d = s.door d := rfl
@[simp] theorem latch_channel (k : EventKind) (n : Nat) (v : Int) (c : Fin 16) : (latch k n v s).channel c = s.channel c := rfl
@[simp] theorem latch_slot (k : EventKind) (n : Nat) (v : Int) (i : Fin 8) : (latch k n v s).slot i = s.slot i := rfl
@[simp] theorem latch_wm (k : EventKind) (n : Nat) (v : Int) : (latch k n v s).wm = s.wm := rfl

/-! ### Settings read (R22) -/

@[simp] theorem readAir_handler (h : Fin 2) : (readAir s).handler h = s.handler h := rfl
@[simp] theorem readAir_air : (readAir s).hs.air = s.wm.airSettings := rfl
@[simp] theorem readAir_hs : (readAir s).hs = { s.hs with air := s.wm.airSettings } := rfl

@[simp] theorem timerStart_handler (b : Bool) (h : Fin 2) : (timerStart b s).handler h = s.handler h := by
  cases b <;> rfl

/-- A timer's start reads the airflow settings; without one they stay as they were read (R22). -/
@[simp] theorem timerStart_hs (b : Bool) :
    (timerStart b s).hs = { s.hs with air := if b then s.wm.airSettings else s.hs.air } := by cases b <;> rfl

/-! ### Modes (R27, R28) -/

/-- A mode taken: the handler's mode is the new one, the rest of its record stays (R27). -/
@[simp] theorem takeMode_handler (h : Fin 2) (m : Mode) : (takeMode h m s).handler h = { s.handler h with mode := m } := by
  simp only [takeMode]
  split
  · next e => rw [← e]
  · simp

/-- The other handler stays. -/
theorem takeMode_other {h g : Fin 2} (hg : h ≠ g) (m : Mode) : (takeMode h m s).handler g = s.handler g := by
  simp only [takeMode]
  split
  · rfl
  · exact State.putHandler_handler_other s hg _

/-- The end of a defrost, in its handler's record. -/
@[simp] theorem endDefrost_handler (h : Fin 2) (r : DefrostEnd) : (endDefrost h r s).handler h = { s.handler h with lastEnd := r } := by
  simp [endDefrost]

/-- The other handler stays. -/
theorem endDefrost_other {h g : Fin 2} (hg : h ≠ g) (r : DefrostEnd) : (endDefrost h r s).handler g = s.handler g :=
  State.putHandler_handler_other s hg _

/-- A handler stopped has Q 0 and a compressor STOPPED (R29). -/
@[simp] theorem Handler.stop_q (n : Nat) (x : Handler) : (x.stop n).q = 0 := by simp only [Handler.stop]; split <;> rfl

@[simp] theorem Handler.stop_comp (n : Nat) (x : Handler) : (x.stop n).comp = .stopped := by
  simp only [Handler.stop]
  split
  · rfl
  · next h => cases e : x.comp with
    | stopped => rfl
    | running => exact absurd e h

/-- Stopping restarts the rest timer of a running compressor alone (R29). -/
@[simp] theorem Handler.stop_rest (n : Nat) (x : Handler) : (x.stop n).rest = if x.comp = .running then sec n else x.rest := by
  simp only [Handler.stop]
  split <;> simp_all

/-- What stopping leaves. -/
theorem Handler.stop_eq (n : Nat) (x : Handler) :
    x.stop n = { x with q := 0, comp := .stopped, rest := if x.comp = .running then sec n else x.rest } := by
  cases e : x.comp <;> simp [Handler.stop, e]

/-- What leaving a mode records (R28). -/
theorem Handler.leaveMode_eq (n : Nat) (x : Handler) :
    x.leaveMode n = { x with
      lastMode := if x.mode = .heat ∨ x.mode = .defrost then .heat else if x.mode = .cool then .cool else x.lastMode
      dwell := if x.mode = .heat ∨ x.mode = .defrost ∨ x.mode = .cool then sec n else x.dwell } := by
  obtain ⟨mode⟩ := x
  cases mode <;> simp [Handler.leaveMode]

/-- A handler that leaves for VENT or IDLE (R27, R28): stopped, the leaving recorded, a running defrost ended. -/
theorem leaveTo_handler (h : Fin 2) (m : Mode) (r : DefrostEnd) :
    (leaveTo h m r s).handler h =
      { ((s.handler h).leaveMode s.wm.reversalDwell).stop s.wm.restTime with
        mode := m, lastEnd := if (s.handler h).mode = .defrost then r else (s.handler h).lastEnd } := by
  simp only [leaveTo, timerStart_handler, takeMode_handler, State.putHandler_handler_same]
  split <;> simp [Handler.stop_eq, Handler.leaveMode_eq]

/-- The other handler stays. -/
theorem leaveTo_other {h g : Fin 2} (hg : h ≠ g) (m : Mode) (r : DefrostEnd) : (leaveTo h m r s).handler g = s.handler g := by
  simp only [leaveTo, timerStart_handler]
  split
  · rw [takeMode_other _ hg, State.putHandler_handler_other _ hg, endDefrost_other _ hg]
  · rw [takeMode_other _ hg, State.putHandler_handler_other _ hg]

/-! ### Drives (R24) -/

/-- What a handler is after it has been told of its drive (R24). -/
def Handler.told (restTime : Nat) (slot : Option (Fin 8)) (ready : Bool) (x : Handler) : Handler :=
  { if x.driveAvailable && !ready then x.stop restTime else x with driveSlot := slot, driveAvailable := ready }

@[simp] theorem tellDrive_handler (h : Fin 2) :
    (tellDrive h s).handler h = (s.handler h).told s.wm.restTime (s.wm.driveSlotOf h) (s.driveReady h) := by
  simp only [tellDrive, timerStart_handler, State.putHandler_handler_same, Handler.told]

theorem tellDrive_other {h g : Fin 2} (hg : h ≠ g) : (tellDrive h s).handler g = s.handler g := by
  simp only [tellDrive, timerStart_handler]
  exact State.putHandler_handler_other s hg _

/-- Both handlers told (R24). -/
@[simp] theorem tellDrives_handler (h : Fin 2) :
    (tellDrives s).handler h = (s.handler h).told s.wm.restTime (s.wm.driveSlotOf h) (s.driveReady h) := by
  simp only [tellDrives, forHandlers]
  have e : ∀ g, (tellDrive 0 s).wm = s.wm ∧ (tellDrive 0 s).driveReady g = s.driveReady g := fun g => by
    simp [State.wm, State.driveReady, State.slot]
  obtain rfl | rfl : h = 0 ∨ h = 1 := by omega
  · rw [tellDrive_other _ (by decide), tellDrive_handler]
  · rw [tellDrive_handler, tellDrive_other _ (by decide), (e 1).1, (e 1).2]

/-! ### Leaving RUN (R23) -/

/-- A handler after the leaving of RUN. -/
theorem handlerLeavesRun_handler (h : Fin 2) :
    (handlerLeavesRun h s).handler h =
      { ((s.handler h).leaveMode s.wm.reversalDwell).stop s.wm.restTime with
        mode := .idle, lastEnd := if (s.handler h).mode = .defrost then .aborted else (s.handler h).lastEnd
        counted := 0, net := 0, qReq := 0, candidate := false, baseBlower := 0, blower := 0, fresh := 0 } := by
  simp only [handlerLeavesRun, State.putHandler_handler_same, leaveTo_handler]

theorem handlerLeavesRun_other {h g : Fin 2} (hg : h ≠ g) : (handlerLeavesRun h s).handler g = s.handler g := by
  simp only [handlerLeavesRun]
  rw [State.putHandler_handler_other _ hg, leaveTo_other _ hg]

/-- Both handlers after the leaving of RUN (R23). -/
theorem handlersLeaveRun_handler (h : Fin 2) :
    (handlersLeaveRun s).handler h =
      { ((s.handler h).leaveMode s.wm.reversalDwell).stop s.wm.restTime with
        mode := .idle, lastEnd := if (s.handler h).mode = .defrost then .aborted else (s.handler h).lastEnd
        counted := 0, net := 0, qReq := 0, candidate := false, baseBlower := 0, blower := 0, fresh := 0 } := by
  have hw : (handlerLeavesRun 0 s).wm = s.wm := by simp [State.wm]
  have e : (handlersLeaveRun s).handler h = (handlerLeavesRun 1 (handlerLeavesRun 0 s)).handler h := by
    simp only [handlersLeaveRun, forHandlers, State.handler, State.setHs_hs]
  rw [e]
  obtain rfl | rfl : h = 0 ∨ h = 1 := by omega
  · rw [handlerLeavesRun_other _ (by decide), handlerLeavesRun_handler]
  · rw [handlerLeavesRun_handler, handlerLeavesRun_other _ (by decide), hw]

/-! ### Dampers (R37, R39) -/

@[simp] theorem setDampers_handler (h g : Fin 2) : (setDampers h s).handler g = s.handler g := by
  simp only [setDampers]
  split <;> rfl

/-- The handler's own zones take their damper values as the settings then stand; the other zones keep theirs (R37). -/
theorem setDampers_dampers {d : DemandSet} (hd : s.hs.lastDemand = some d) (h : Fin 2) (z : Fin 12) :
    (setDampers h s).hs.dampers[z] = if (d.zones[z]).handler = h then s.damperOf d.zones[z] else s.hs.dampers[z] := by
  simp [setDampers, hd]

/-- Without a demand set there is no damper value to compute. -/
theorem setDampers_none (hd : s.hs.lastDemand = none) (h : Fin 2) : setDampers h s = s := by simp [setDampers, hd]

end Sys2Proof.Machine
end

