-- ==== Sys2Proof/Laws/Memory.lean ====
section
/-! SUPPORT. The EEPROM's laws: a read gives what the last write to the address wrote, and every write keeps the canonical form. -/

namespace Sys2Proof.Machine

/-- The byte a list of cells gives at an address. -/
def cellAt (l : List Host.Cell) (a : Nat) : Byte := ((l.find? fun c => c.1 == a).map (·.2)).getD Memory.blankByte

theorem cellAt_cons (c : Host.Cell) (l : List Host.Cell) (a : Nat) : cellAt (c :: l) a = if c.1 = a then c.2 else cellAt l a := by
  by_cases h : c.1 = a <;> simp [cellAt, h]

/-- Cells above a bound hold nothing listed below it. -/
theorem cellAt_below {n a : Nat} {l : List Host.Cell} (h : cellsWf n l = true) (ha : a < n) : cellAt l a = Memory.blankByte := by
  induction l generalizing n with
  | nil => rfl
  | cons c cs ih =>
    simp only [cellsWf, Bool.and_eq_true, decide_eq_true_eq] at h
    have hne : c.1 ≠ a := by omega
    rw [cellAt_cons, if_neg hne]
    exact ih h.2 (by omega)

/-- A smaller bound holds as well. -/
theorem cellsWf_mono {m n : Nat} {l : List Host.Cell} (h : cellsWf n l = true) (hm : m ≤ n) : cellsWf m l = true := by
  cases l with
  | nil => rfl
  | cons c cs =>
    simp only [cellsWf, Bool.and_eq_true, decide_eq_true_eq] at h ⊢
    exact ⟨⟨by omega, h.1.2⟩, h.2⟩

/-- A write keeps the canonical form. -/
theorem writeCells_wf {n a : Nat} (b : Byte) {l : List Host.Cell} (h : cellsWf n l = true) (ha : n ≤ a) :
    cellsWf n (writeCells a b l) = true := by
  induction l generalizing n with
  | nil => simp only [writeCells]; split <;> simp_all [cellsWf]
  | cons c cs ih =>
    have hw := h
    simp only [cellsWf, Bool.and_eq_true, decide_eq_true_eq] at h
    simp only [writeCells]
    split
    · split
      · exact hw
      · simp [cellsWf, *]
    · split
      · split
        · exact cellsWf_mono h.2 (by omega)
        · next he _ => subst he; simp [cellsWf, *]
      · have := ih h.2 (by omega)
        simp [cellsWf, *]

/-- What a list of cells reads after a write. -/
theorem cellAt_writeCells {n : Nat} (a x : Nat) (b : Byte) {l : List Host.Cell} (h : cellsWf n l = true) :
    cellAt (writeCells a b l) x = if x = a then b else cellAt l x := by
  induction l generalizing n with
  | nil =>
    simp only [writeCells]
    by_cases hb : b = Memory.blankByte
    · by_cases hx : x = a <;> simp [hb, hx, cellAt]
    · by_cases hx : x = a
      · simp [hb, hx, cellAt_cons]
      · simp [hb, hx, cellAt_cons, Ne.symm hx]
  | cons c cs ih =>
    simp only [cellsWf, Bool.and_eq_true, decide_eq_true_eq] at h
    simp only [writeCells]
    split
    · next hlt =>
      have hblank : cellAt (c :: cs) a = Memory.blankByte :=
        cellAt_below (n := c.1) (by simp [cellsWf, h]) hlt
      by_cases hx : x = a
      · subst hx
        by_cases hb : b = Memory.blankByte
        · rw [if_pos hb, if_pos rfl, hblank, hb]
        · rw [if_neg hb, cellAt_cons]
      · by_cases hb : b = Memory.blankByte
        · rw [if_pos hb, if_neg hx]
        · rw [if_neg hb, if_neg hx, cellAt_cons, if_neg (Ne.symm hx)]
    · split
      · next _ he =>
        subst he
        have hblank : cellAt cs c.1 = Memory.blankByte := cellAt_below h.2 (by omega)
        by_cases hx : x = c.1
        · by_cases hb : b = Memory.blankByte
          · rw [if_pos hb, if_pos hx, hx, hblank, hb]
          · rw [if_neg hb, if_pos hx, cellAt_cons, if_pos hx.symm]
        · by_cases hb : b = Memory.blankByte
          · rw [if_pos hb, if_neg hx, cellAt_cons, if_neg (Ne.symm hx)]
          · rw [if_neg hb, if_neg hx, cellAt_cons, cellAt_cons, if_neg (Ne.symm hx), if_neg (Ne.symm hx)]
      · next hlt hne =>
        rw [cellAt_cons, cellAt_cons, ih h.2]
        by_cases hc : c.1 = x
        · have : x ≠ a := by omega
          simp [hc, this]
        · simp [hc]

/-- A read after a write: the byte written at its address, every other address as before. -/
theorem Memory.read_write {m : Memory} (h : m.wf = true) (a x : Nat) (b : Byte) :
    (m.write a b).read x = if x = a then b else m.read x := cellAt_writeCells a x b h

/-- A write of one byte keeps the canonical form. -/
theorem Memory.wf_write {m : Memory} (h : m.wf = true) (a : Nat) (b : Byte) : (m.write a b).wf = true :=
  writeCells_wf b h (Nat.zero_le a)

/-- A write of bytes keeps the canonical form. -/
theorem Memory.wf_writeBytes {m : Memory} (h : m.wf = true) (a : Nat) (l : List Byte) : (m.writeBytes a l).wf = true := by
  induction l generalizing m a with
  | nil => exact h
  | cons b bs ih => exact ih (Memory.wf_write h a b) (a + 1)

/-- A read after a write of bytes. -/
theorem Memory.read_writeBytes {m : Memory} (h : m.wf = true) (a x : Nat) (l : List Byte) :
    (m.writeBytes a l).read x = if a ≤ x ∧ x < a + l.length then l[x - a]?.getD 0 else m.read x := by
  induction l generalizing m a with
  | nil =>
    have : ¬ (a ≤ x ∧ x < a + 0) := by omega
    simp only [Memory.writeBytes, List.length_nil, if_neg this]
  | cons b bs ih =>
    simp only [Memory.writeBytes, List.length_cons]
    rw [ih (Memory.wf_write h a b) (a + 1), Memory.read_write h]
    by_cases hxa : x = a
    · subst hxa
      have h1 : ¬ (x + 1 ≤ x ∧ x < x + 1 + bs.length) := by omega
      have h2 : x ≤ x ∧ x < x + (bs.length + 1) := by omega
      rw [if_neg h1, if_pos rfl, if_pos h2]
      simp
    · by_cases h1 : a + 1 ≤ x ∧ x < a + 1 + bs.length
      · have h2 : a ≤ x ∧ x < a + (bs.length + 1) := by omega
        rw [if_pos h1, if_pos h2]
        have h3 : x - a = (x - (a + 1)) + 1 := by omega
        rw [h3, List.getElem?_cons_succ]
      · have h2 : ¬ (a ≤ x ∧ x < a + (bs.length + 1)) := by omega
        rw [if_neg h1, if_neg hxa, if_neg h2]

/-- Two memories in canonical form that read alike below a bound list alike there: canonical cells are fixed by what they read. -/
theorem cells_ext {n : Nat} {l k : List Host.Cell} (hl : cellsWf n l = true) (hk : cellsWf n k = true)
    (h : ∀ a, cellAt l a = cellAt k a) : l = k := by
  induction l generalizing n k with
  | nil =>
    cases k with
    | nil => rfl
    | cons d ds =>
      simp only [cellsWf, Bool.and_eq_true, decide_eq_true_eq] at hk
      exact absurd (by simpa [cellAt_cons, cellAt] using (h d.1).symm) hk.1.2
  | cons c cs ih =>
    have hl' := hl
    simp only [cellsWf, Bool.and_eq_true, decide_eq_true_eq] at hl
    cases k with
    | nil => exact absurd (by simpa [cellAt_cons, cellAt] using h c.1) hl.1.2
    | cons d ds =>
      have hk' := hk
      simp only [cellsWf, Bool.and_eq_true, decide_eq_true_eq] at hk
      have hcd : c.1 = d.1 := by
        rcases Nat.lt_trichotomy c.1 d.1 with hlt | heq | hgt
        · have h1 : cellAt (d :: ds) c.1 = Memory.blankByte := cellAt_below (n := d.1) (by simp [cellsWf, hk]) hlt
          have h2 := h c.1
          rw [cellAt_cons, if_pos rfl, h1] at h2
          exact absurd h2 hl.1.2
        · exact heq
        · have h1 : cellAt (c :: cs) d.1 = Memory.blankByte := cellAt_below (n := c.1) (by simp [cellsWf, hl]) hgt
          have h2 := h d.1
          rw [h1, cellAt_cons, if_pos rfl] at h2
          exact absurd h2.symm hk.1.2
      have hv : c.2 = d.2 := by
        have h2 := h c.1
        rwa [cellAt_cons, if_pos rfl, cellAt_cons, if_pos hcd.symm] at h2
      have hrest : cs = ds := by
        refine ih hl.2 (by rw [hcd]; exact hk.2) fun a => ?_
        by_cases ha : a < c.1 + 1
        · rw [cellAt_below hl.2 ha, cellAt_below (n := d.1 + 1) hk.2 (by omega)]
        · have h2 := h a
          have hne : c.1 ≠ a := by omega
          have hne' : d.1 ≠ a := by omega
          rwa [cellAt_cons, if_neg hne, cellAt_cons, if_neg hne'] at h2
      rw [Prod.ext hcd hv, hrest]

/-- Memories in canonical form that read alike are equal. -/
theorem Memory.ext_of_read {m k : Memory} (hm : m.wf = true) (hk : k.wf = true) (h : ∀ a, m.read a = k.read a) : m = k := by
  cases m; cases k
  exact congrArg Memory.mk (cells_ext hm hk h)

/-- A hard reset leaves the EEPROM in canonical form where it was before it. -/
theorem State.reset_eeprom_wf : State.reset.eeprom.wf = true := rfl

/-- Reading `n` bytes gives `n` bytes. -/
@[simp] theorem Memory.readBytes_length (m : Memory) (a n : Nat) : (m.readBytes a n).length = n := by simp [Memory.readBytes]

end Sys2Proof.Machine
end

