-- ==== Sys2Proof/Laws/PerInstr.lean ====
section
/-! SUPPORT. Statements about every command as syntax, one lemma for each constructor: a well-formed request's payload fits a frame
(R146, R171). -/

namespace Sys2Proof.Laws

/-- If a well-formed command is a request, its payload has at most 127 bytes. -/
def FitsFrame.Statement (i : Instr) : Prop :=
  ∀ (k : Byte) (p : List Byte), encodeRequest i = some (k, p) → i.wellFormed = true → p.length ≤ 127

/-- A pair takes three payload bytes. -/
theorem FitsFrame.pairPayload_length (pairs : List (Byte × Word16)) : (pairPayload pairs).length = 3 * pairs.length := by
  induction pairs with
  | nil => rfl
  | cons p ps ih =>
    have h : pairPayload (p :: ps) = p.1 :: (Machine.wordBytes p.2 ++ pairPayload ps) := rfl
    rw [h, List.length_cons, List.length_append, ih, List.length_cons]
    simp only [Machine.wordBytes, List.length_cons, List.length_nil]
    omega

/-- A command that is no request fits trivially. -/
theorem FitsFrame.of_none {i : Instr} (h : encodeRequest i = none) : FitsFrame.Statement i :=
  fun _ _ he _ => by simp [h] at he

/-- A request of known bytes fits where they are few. -/
theorem FitsFrame.of_some {i : Instr} {k : Byte} {p : List Byte} (h : encodeRequest i = some (k, p)) (hp : p.length ≤ 127) :
    FitsFrame.Statement i := fun k' p' he _ => by
  rw [h, Option.some.injEq, Prod.mk.injEq] at he
  exact he.2 ▸ hp

theorem FitsFrame.hardReset (strap : LinkRate) : FitsFrame.Statement (.hardReset strap) := FitsFrame.of_none rfl

theorem FitsFrame.profileLoadComplete (acknowledged : Bool) : FitsFrame.Statement (.profileLoadComplete acknowledged) := FitsFrame.of_none rfl

theorem FitsFrame.rxByte (b : Byte) : FitsFrame.Statement (.rxByte b) := FitsFrame.of_none rfl

theorem FitsFrame.gapTimeout : FitsFrame.Statement (.gapTimeout) := FitsFrame.of_none rfl

theorem FitsFrame.txFrameEnd : FitsFrame.Statement (.txFrameEnd) := FitsFrame.of_none rfl

theorem FitsFrame.parkEntry : FitsFrame.Statement (.parkEntry) := FitsFrame.of_none rfl

theorem FitsFrame.restartEffect : FitsFrame.Statement (.restartEffect) := FitsFrame.of_none rfl

theorem FitsFrame.identify : FitsFrame.Statement (.identify) := FitsFrame.of_some rfl (Nat.le_of_ble_eq_true rfl)

theorem FitsFrame.status : FitsFrame.Statement (.status) := FitsFrame.of_some rfl (Nat.le_of_ble_eq_true rfl)

theorem FitsFrame.setReports (mask : Word16) : FitsFrame.Statement (.setReports mask) := FitsFrame.of_some rfl (Nat.le_of_ble_eq_true rfl)

theorem FitsFrame.clearEvents (mask : Word16) : FitsFrame.Statement (.clearEvents mask) := FitsFrame.of_some rfl (Nat.le_of_ble_eq_true rfl)

theorem FitsFrame.setSetpoints (pairs : List (Byte × Word16)) : FitsFrame.Statement (.setSetpoints pairs) := fun k p he hw => by
  simp only [encodeRequest, Option.some.injEq, Prod.mk.injEq] at he
  have h : pairs.length ≤ 42 := of_decide_eq_true hw
  rw [← he.2, FitsFrame.pairPayload_length]
  omega

theorem FitsFrame.setZoneEnable (zone enable : Byte) : FitsFrame.Statement (.setZoneEnable zone enable) := FitsFrame.of_some rfl (Nat.le_of_ble_eq_true rfl)

theorem FitsFrame.readZones (first count : Byte) : FitsFrame.Statement (.readZones first count) := FitsFrame.of_some rfl (Nat.le_of_ble_eq_true rfl)

theorem FitsFrame.readHandlers (selector : Byte) : FitsFrame.Statement (.readHandlers selector) := FitsFrame.of_some rfl (Nat.le_of_ble_eq_true rfl)

theorem FitsFrame.grant (watts : Word16) (lifetime : Byte) : FitsFrame.Statement (.grant watts lifetime) := FitsFrame.of_some rfl (Nat.le_of_ble_eq_true rfl)

theorem FitsFrame.readAllotment : FitsFrame.Statement (.readAllotment) := FitsFrame.of_some rfl (Nat.le_of_ble_eq_true rfl)

theorem FitsFrame.airHold (hold : Byte) : FitsFrame.Statement (.airHold hold) := FitsFrame.of_some rfl (Nat.le_of_ble_eq_true rfl)

theorem FitsFrame.renewNow (handler : Byte) : FitsFrame.Statement (.renewNow handler) := FitsFrame.of_some rfl (Nat.le_of_ble_eq_true rfl)

theorem FitsFrame.readRenewals : FitsFrame.Statement (.readRenewals) := FitsFrame.of_some rfl (Nat.le_of_ble_eq_true rfl)

theorem FitsFrame.trim (bank : Byte) : FitsFrame.Statement (.trim bank) := FitsFrame.of_some rfl (Nat.le_of_ble_eq_true rfl)

theorem FitsFrame.mapPoint (point enabled source kind curve shift : Byte) : FitsFrame.Statement (.mapPoint point enabled source kind curve shift) := FitsFrame.of_some rfl (Nat.le_of_ble_eq_true rfl)

theorem FitsFrame.readPoints (first count : Byte) : FitsFrame.Statement (.readPoints first count) := FitsFrame.of_some rfl (Nat.le_of_ble_eq_true rfl)

theorem FitsFrame.override (channel action : Byte) (value : Word16) : FitsFrame.Statement (.override channel action value) := FitsFrame.of_some rfl (Nat.le_of_ble_eq_true rfl)

theorem FitsFrame.readOutputs (first count : Byte) : FitsFrame.Statement (.readOutputs first count) := FitsFrame.of_some rfl (Nat.le_of_ble_eq_true rfl)

theorem FitsFrame.pass (slot operation item : Byte) (value : Word16) : FitsFrame.Statement (.pass slot operation item value) := FitsFrame.of_some rfl (Nat.le_of_ble_eq_true rfl)

theorem FitsFrame.passResult : FitsFrame.Statement (.passResult) := FitsFrame.of_some rfl (Nat.le_of_ble_eq_true rfl)

theorem FitsFrame.lineEnable (value : Byte) : FitsFrame.Statement (.lineEnable value) := FitsFrame.of_some rfl (Nat.le_of_ble_eq_true rfl)

theorem FitsFrame.readModules : FitsFrame.Statement (.readModules) := FitsFrame.of_some rfl (Nat.le_of_ble_eq_true rfl)

theorem FitsFrame.standby : FitsFrame.Statement (.standby) := FitsFrame.of_some rfl (Nat.le_of_ble_eq_true rfl)

theorem FitsFrame.resume : FitsFrame.Statement (.resume) := FitsFrame.of_some rfl (Nat.le_of_ble_eq_true rfl)

theorem FitsFrame.park : FitsFrame.Statement (.park) := FitsFrame.of_some rfl (Nat.le_of_ble_eq_true rfl)

theorem FitsFrame.cadence (value : Byte) : FitsFrame.Statement (.cadence value) := FitsFrame.of_some rfl (Nat.le_of_ble_eq_true rfl)

theorem FitsFrame.restart : FitsFrame.Statement (.restart) := FitsFrame.of_some rfl (Nat.le_of_ble_eq_true rfl)

theorem FitsFrame.getParam (number : Word16) : FitsFrame.Statement (.getParam number) := FitsFrame.of_some rfl (Nat.le_of_ble_eq_true rfl)

theorem FitsFrame.setParam (number value : Word16) : FitsFrame.Statement (.setParam number value) := FitsFrame.of_some rfl (Nat.le_of_ble_eq_true rfl)

theorem FitsFrame.saveProfile : FitsFrame.Statement (.saveProfile) := FitsFrame.of_some rfl (Nat.le_of_ble_eq_true rfl)

theorem FitsFrame.savePageComplete (page : PageResult) : FitsFrame.Statement (.savePageComplete page) := FitsFrame.of_none rfl

theorem FitsFrame.savePollTimeout : FitsFrame.Statement (.savePollTimeout) := FitsFrame.of_none rfl

theorem FitsFrame.regulationTimerExpiry : FitsFrame.Statement (.regulationTimerExpiry) := FitsFrame.of_none rfl

theorem FitsFrame.demandSetReceived : FitsFrame.Statement (.demandSetReceived) := FitsFrame.of_none rfl

theorem FitsFrame.requestSetReceived : FitsFrame.Statement (.requestSetReceived) := FitsFrame.of_none rfl

theorem FitsFrame.allotmentAtHs : FitsFrame.Statement (.allotmentAtHs) := FitsFrame.of_none rfl

theorem FitsFrame.allotmentAtZr : FitsFrame.Statement (.allotmentAtZr) := FitsFrame.of_none rfl

theorem FitsFrame.ouValueReceived : FitsFrame.Statement (.ouValueReceived) := FitsFrame.of_none rfl

theorem FitsFrame.accountTimerExpiry : FitsFrame.Statement (.accountTimerExpiry) := FitsFrame.of_none rfl

theorem FitsFrame.restTimerExpiry (h : Fin 2) : FitsFrame.Statement (.restTimerExpiry h) := FitsFrame.of_none rfl

theorem FitsFrame.dwellTimerExpiry (h : Fin 2) : FitsFrame.Statement (.dwellTimerExpiry h) := FitsFrame.of_none rfl

theorem FitsFrame.lifetimeExpiry : FitsFrame.Statement (.lifetimeExpiry) := FitsFrame.of_none rfl

theorem FitsFrame.intervalExpiry (h : Fin 2) : FitsFrame.Statement (.intervalExpiry h) := FitsFrame.of_none rfl

theorem FitsFrame.renewalComplete (h : Fin 2) : FitsFrame.Statement (.renewalComplete h) := FitsFrame.of_none rfl

theorem FitsFrame.doorInputChange (d : Fin 4) (level : DoorLevel) : FitsFrame.Statement (.doorInputChange d level) := FitsFrame.of_none rfl

theorem FitsFrame.doorDebounceExpiry (d : Fin 4) : FitsFrame.Statement (.doorDebounceExpiry d) := FitsFrame.of_none rfl

theorem FitsFrame.doorTimerExpiry (d : Fin 4) : FitsFrame.Statement (.doorTimerExpiry d) := FitsFrame.of_none rfl

theorem FitsFrame.wakeInputChange (level : WakeLevel) : FitsFrame.Statement (.wakeInputChange level) := FitsFrame.of_none rfl

theorem FitsFrame.wakeDebounceExpiry : FitsFrame.Statement (.wakeDebounceExpiry) := FitsFrame.of_none rfl

theorem FitsFrame.scanGapExpiry : FitsFrame.Statement (.scanGapExpiry) := FitsFrame.of_none rfl

theorem FitsFrame.supplyConversion (code : Code) : FitsFrame.Statement (.supplyConversion code) := FitsFrame.of_none rfl

theorem FitsFrame.fullTrim (low high : Vector Code 32) : FitsFrame.Statement (.fullTrim low high) := FitsFrame.of_none rfl

theorem FitsFrame.shortTrim (low high : Vector Code 4) : FitsFrame.Statement (.shortTrim low high) := FitsFrame.of_none rfl

theorem FitsFrame.tapReading (raw : Code) : FitsFrame.Statement (.tapReading raw) := FitsFrame.of_none rfl

theorem FitsFrame.trimIntervalExpiry : FitsFrame.Statement (.trimIntervalExpiry) := FitsFrame.of_none rfl

theorem FitsFrame.pointStale (p : Fin 32) : FitsFrame.Statement (.pointStale p) := FitsFrame.of_none rfl

theorem FitsFrame.periodEnd (c : Fin 16) : FitsFrame.Statement (.periodEnd c) := FitsFrame.of_none rfl

theorem FitsFrame.compareReached (c : Fin 16) : FitsFrame.Statement (.compareReached c) := FitsFrame.of_none rfl

theorem FitsFrame.moduleAnswerReceived (frame : List Byte) : FitsFrame.Statement (.moduleAnswerReceived frame) := FitsFrame.of_none rfl

theorem FitsFrame.moduleResponseTimeout : FitsFrame.Statement (.moduleResponseTimeout) := FitsFrame.of_none rfl

theorem FitsFrame.moduleAnswerGap : FitsFrame.Statement (.moduleAnswerGap) := FitsFrame.of_none rfl

theorem FitsFrame.probeTimerExpiry (slot : Fin 8) : FitsFrame.Statement (.probeTimerExpiry slot) := FitsFrame.of_none rfl

theorem FitsFrame.readTimerExpiry (slot : Fin 8) : FitsFrame.Statement (.readTimerExpiry slot) := FitsFrame.of_none rfl

theorem FitsFrame.moduleRequestSent : FitsFrame.Statement (.moduleRequestSent) := FitsFrame.of_none rfl

end Sys2Proof.Laws
end

