-- ==== Sys2Proof/Tests/Slice0.lean ====
section
/-! SUPPORT. The model's own tests: what the checks refuse, the spec's worked examples, and for every statement a state and operands that
meet its hypotheses. Expected values come from the spec's text, whose place each test names. -/

open Sys2Proof Sys2Proof.Machine

namespace Sys2Proof.Tests

-- Each theorem here is checked before the next begins, so that few threads wait at once.
set_option Elab.async false

/-! ### Small states to test on -/

/-- Working memory with the given parameters, and 0 everywhere else. -/
def memoryOf (l : List (Nat × Int)) : WorkingMemory := l.foldl (fun w x => w.put x.1 (BitVec.ofInt 16 x.2)) WorkingMemory.blank

/-- The part after its load, in an operating state, with the given parameters. -/
def inState (o : OpState) (l : List (Nat × Int)) : State :=
  { State.reset with
    pl := { State.reset.pl with wm := memoryOf l, loadState := .loaded }
    sc := { State.reset.sc with opState := o } }

/-- RUN and STANDBY with every parameter 0. -/
def inRun : State := inState .run []
def inStandby : State := inState .standby []

/-- What one command leaves, seen through `f`. -/
def look {α : Type} (c : Instr) (s : State) (f : State → α) : Option α :=
  match exec c s with
  | .next t => some (f t)
  | _ => none

/-- A demand set with one counted zone on handler 0 with a demand, or with no counted zone. -/
def demands (counted : Bool) (d : Int) : DemandSet :=
  ⟨5, Vector.ofFn fun z => ⟨0, 4, .active, counted && z == 0, if z = 0 then d else 0, z == 0, 1500⟩⟩

/-- A request set of two handlers and one reheat zone on handler 0. -/
def requests (a b : RequestHandler) (reheat : Nat) : RequestSet :=
  ⟨5, #v[a, b], Vector.ofFn fun z => ⟨if z = 2 then reheat else 0, 1500⟩, demands true 400⟩

/-- An allotment of cycle 5 that gives handler 0 an outcome and a command. -/
def allotmentOf (o : FixedOutcome) (q : Nat) : Allotment :=
  ⟨5, #v[⟨o, q⟩, ⟨.none, 0⟩], Vector.replicate 12 ⟨10, .heating⟩⟩

/-- A state with handler 0's record. -/
def withHandler (x : Handler) (s : State) : State := s.putHandler 0 x

/-! ### What well-formedness refuses -/

theorem test_wf_setpoints_43_pairs : (Instr.setSetpoints (List.replicate 43 (0, 210))).wellFormed = false := by decide
theorem test_wf_setpoints_42_pairs : (Instr.setSetpoints (List.replicate 42 (0, 210))).wellFormed = true := by decide
theorem test_wf_answer_5_bytes : (Instr.moduleAnswerReceived (List.replicate 5 0)).wellFormed = false := by decide
theorem test_wf_answer_262_bytes : (Instr.moduleAnswerReceived (List.replicate 262 0)).wellFormed = false := by decide +kernel
theorem test_wf_answer_261_bytes : (Instr.moduleAnswerReceived (List.replicate 261 0)).wellFormed = true := by decide +kernel

/-! ### Requests as the spec's bytes (R146, R171) -/

/-- No word of the opcode table spells a command: the table gives no bits. -/
theorem test_table_word : decodeTableWord 16 0x0001 = none := by decide
/-- GRANT 9000 W with lifetime 30 s: 9000 is 0x2328. -/
theorem test_decode_grant : decodeRequest 0x20 [0x23, 0x28, 30] = .request (.grant 9000 30) := by decide
/-- SET_SETPOINTS, zone 3 to 215 and zone 11 to -1: two pairs of three bytes. -/
theorem test_decode_setpoints :
    decodeRequest 0x10 [3, 0, 215, 11, 0xFF, 0xFF] = .request (.setSetpoints [(3, 215), (11, 0xFFFF)]) := by decide
/-- SET_PARAM 0 (Kp) = 24 (10.5). -/
theorem test_decode_setParam : decodeRequest 0x51 [0, 0, 0, 24] = .request (.setParam 0 24) := by decide
/-- PASS: slot, operation, item, value. -/
theorem test_decode_pass : decodeRequest 0x40 [4, 1, 9, 0x12, 0x34] = .request (.pass 4 1 9 0x1234) := by decide
/-- The kinds of the part's own frames are no requests (R171). -/
theorem test_decode_own_kinds : decodeRequest 0xF1 [] = .badKind ∧ decodeRequest 0x81 [] = .badKind := by decide
/-- The CRC of R146 over the digits 1 to 9 (the published check value of this CRC, PRESUMED). -/
theorem test_crc16 : crc16 [0x31, 0x32, 0x33, 0x34, 0x35, 0x36, 0x37, 0x38, 0x39] = 0x29B1 := by decide +kernel
/-- The CRC of R161 over the digits 1 to 9 (the published check value of this CRC, PRESUMED). -/
theorem test_crc32 : crc32 [0x31, 0x32, 0x33, 0x34, 0x35, 0x36, 0x37, 0x38, 0x39] = 0xCBF43926 := by decide +kernel

/-! ### Zones (1.7) -/

/-- Zone 0 before cycle 120 of 1.7.1, its point at 198, at a cadence. -/
def zone120 (c : Cadence) : State :=
  let s := inState .run [(0, 20), (1, 8), (2, 5), (3, 30), (85, -1), (86, -1)]
  { s with
    sc := { s.sc with cadence := c }
    zr := { s.zr with
      cycleTimer := some 1
      zones := s.zr.zones.set 0 { Zone.reset with
        enabled := true, setpoint := 215, state := .active, tempUsed := some 199, integral := 3200, demand := 440 } }
    su := { s.su with points := s.su.points.set 0 ⟨198, .valid, 0, 0⟩ } }

/-- 1.7.1, cycle 120: I = 3296 and D = 446. -/
theorem test_zone_full : look .regulationTimerExpiry (zone120 .full) (fun t => ((t.zone 0).integral, (t.zone 0).demand)) =
    some (3296, 446) := by decide +kernel
/-- 1.7.3, the same at HALF cadence: I = 3392 and D = 452. -/
theorem test_zone_half : look .regulationTimerExpiry (zone120 .half) (fun t => ((t.zone 0).integral, (t.zone 0).demand)) =
    some (3392, 452) := by decide +kernel
/-- 1.7.1: the mean of 213 and 204 rounds half away from zero to 209; 614 / 3 rounds to 205. -/
theorem test_zone_means : roundHalfAway 417 2 = 209 ∧ roundHalfAway 614 3 = 205 := by decide
/-- 1.7.1: trunc(-480 / 16) = -30; 1.7.2: the demand -1742 is brought to -1000. -/
theorem test_demand_law : demandOf 20 0 (-480) = -30 ∧ demandOf 20 (-85) (-680) = -1000 := by decide

/-! ### Power (3.6) -/

/-- A handler in HEAT that asks for `q`. -/
def heating (rating q : Nat) (candidate : Bool) : RequestHandler := ⟨.heat, q, rating, candidate, false⟩

/-- 3.6.2: S = 659, commands 527 and 329, S2 = 26, zone 2 at 10, 11,999,000 in total. -/
theorem test_allot_short :
    let r := requests (heating 14000 800 false) (heating 14000 500 false) 400
    let m := allot 12000 250 700 r
    m.scale = 659 ∧ m.command = #v[527, 329] ∧ m.scale2 = 26 ∧ m.duty[2] = 10 ∧ m.total r = 11999000 := by decide +kernel
/-- 3.6.3: the sweep stops handler 0 and raises handler 1. -/
theorem test_allot_sweep :
    let r := requests (heating 14000 300 false) (heating 14000 300 false) 0
    (allot 4000 250 700 r).scale = 476 ∧ (allot 4000 250 700 r).command = #v[0, 250] := by decide +kernel
/-- 3.6.4: handler 0's defrost is admitted, handler 1's refused, and handler 1's command swept to 0. -/
theorem test_allot_candidates :
    let m := allot 12000 250 700 (requests (heating 14000 600 true) (heating 14000 500 true) 0)
    m.fixed.outcome = #v[.admitted, .refused] ∧ m.fixed.power = 9800000 ∧ m.scale = 314 ∧ m.command = #v[700, 0] := by decide +kernel
/-- 3.6.5: the running defrost is kept at 15000 W and aborted at 9000 W. -/
theorem test_allot_running_defrost :
    let r := requests ⟨.defrost, 700, 14000, false, true⟩ (heating 12000 600 false) 300
    (allot 15000 250 700 r).command = #v[700, 433] ∧ (allot 15000 250 700 r).duty[2] = 2 ∧
      (allot 9000 250 700 r).fixed.outcome[0] = .aborted ∧ (allot 9000 250 700 r).command = #v[0, 600] ∧
      (allot 9000 250 700 r).total r = 7650000 := by decide +kernel

/-! ### Handlers and renewals (2.5, 4.6) -/

/-- 2.5.1: the account reaches 2400 and the defrost is due. -/
theorem test_account_due :
    look .accountTimerExpiry { (withHandler { Handler.reset with mode := .heat, q := 620, icing := 2399 }
        (inState .run [(12, 2400), (14, -30), (20, -1), (75, -1)])) with
      hs := { (withHandler { Handler.reset with mode := .heat, q := 620, icing := 2399 } inRun).hs with accountTimer := some 1 } }
      (fun t => ((t.handler 0).icing, (t.handler 0).defrostDue)) = some (2400, true) := by decide +kernel
/-- 6.8.1: a largest heating demand of 446 makes the base blower 612. -/
theorem test_base_blower : baseBlowerOf 300 .heat [180, 446, -20] = 612 := by decide
/-- 4.6.1, time 400: handler 1 at -7 under a SOFT hold falls to -8 and starts a FORCED renewal. -/
theorem test_renewal_forced :
    look (.intervalExpiry 1)
      { inState .run [(17, 800), (22, 300), (23, 90)] with
        hs := { inRun.hs with handlers := inRun.hs.handlers.set 1 { Handler.reset with mode := .heat } }
        rs := ⟨inRun.rs.renewals.set 1 { Renewal.reset with balance := -7 }, .soft⟩ }
      (fun t => ((t.renewal 1).balance, (t.renewal 1).state, (t.renewal 1).kind, (t.handler 1).fresh)) =
      some (-8, .forced, some .forced, 1000) := by decide +kernel
/-- 4.6.2: at +8 a RENEW_NOW is answered OK with nothing started. -/
theorem test_renewNow_full_credit :
    look (.renewNow 0)
      { inRun with
        hs := { inRun.hs with handlers := inRun.hs.handlers.set 0 { Handler.reset with mode := .heat } }
        rs := ⟨inRun.rs.renewals.set 0 { Renewal.reset with balance := 8 }, .none⟩ }
      (fun t => t.lu.transmitter) = some (.sending .answer ⟨0xA9, [0, 0, 0, 8, 0]⟩ []) := by decide +kernel

/-! ### Sensing (5.7) -/

/-- 5.7.1: the conversions install O = -12 and G = 30. -/
theorem test_full_trim :
    look (.fullTrim (Vector.ofFn fun i => if i.val < 10 then 519 else 520) (Vector.replicate 32 3570))
      { inRun with su := { inRun.su with pass := .trim 1 true [] } } (fun t => t.bank 1) =
      some ⟨-12, 30, false, .idle, .full, .installed, 520, 3570⟩ := by decide +kernel
/-- 5.7.2: a short trim moves O to -13 and G to 29. -/
theorem test_short_trim :
    look (.shortTrim #v[523, 523, 524, 524] #v[3575, 3575, 3576, 3576])
      { inRun with su := { inRun.su with
          pass := .trim 1 false [], banks := inRun.su.banks.set 1 { Bank.reset with offset := -12, gain := 30 } } }
      (fun t => ((t.bank 1).offset, (t.bank 1).gain, (t.bank 1).mLo, (t.bank 1).mHi)) = some (-13, 29, 524, 3576) := by decide +kernel
/-- 5.7.3: raw 1575 on tap 9 reads 338 through curve B, and the filter takes 330 to 332. -/
theorem test_tap_reading :
    look (.tapReading 1575)
      { inState .run [(245, 1), (246, 9), (248, 1), (249, 2), (477, 350), (478, 310)] with
        su := { inRun.su with
          pass := .list [9], banks := inRun.su.banks.set 1 { Bank.reset with offset := -12, gain := 30 }
          points := inRun.su.points.set 9 ⟨330, .valid, 7, 0⟩ } }
      (fun t => t.point 9) = some ⟨332, .valid, 0, 0⟩ := by decide +kernel
/-- 5.7.5: a code of 1070 is LOW, latched with SUPPLY_LOW; 1105 stays LOW. -/
theorem test_supply_dip :
    look (.supplyConversion 1070) { inRun with su := { inRun.su with pass := .supply [] } }
      (fun t => (t.su.supply, t.lu.event .supplyLow)) = some (.low, ⟨true, 0, 1070, false⟩) ∧
    look (.supplyConversion 1105) { inRun with su := { inRun.su with pass := .supply [], supply := .low } } (fun t => t.su.supply) =
      some .low := by decide +kernel

/-! ### Outputs, the link, the profile (6.8, 9.8, 10.5) -/

/-- R109's table. -/
theorem test_compares : compareOf 612 64 = 39 ∧ compareOf 10 16 = 0 ∧ compareOf 150 256 = 38 ∧ compareOf 1000 32 = 32 := by decide
/-- 6.8.2: an override of 250 on a reheat channel that received 400, at modulus 64, leaves a pending compare of 16. -/
theorem test_override_caps :
    look (.override 12 0 250)
      { inRun with ou := ⟨inRun.ou.channels.set 12 { Channel.reset with role := .zoneReheat 2, modulus := 64, received := 400 }⟩ }
      (fun t => ((t.channel 12).effective, (t.channel 12).pendingCompare)) = some (250, 16) := by decide +kernel
/-- 6.8.3: a period end recomputes 440 at modulus 16 to 7 before it is installed. -/
theorem test_period_end_modulus :
    ({ Channel.reset with role := .spare, modulus := 256, effective := 440, pendingCompare := 113, newModulus := some 16 }).endPeriod.compare
      = 7 := by decide
/-- 9.8.1: behind a frame in hand a GRANT is dropped and marked, and a later frame leaves the mark. -/
theorem test_dropped_frame :
    look (.grant 9000 30) { inRun with lu := { inRun.lu with inHand := some ⟨0x32, []⟩ } } (fun t => (t.lu.overrun, t.pa.live)) =
      some (some 0x20, false) ∧
    look .status { inRun with lu := { inRun.lu with inHand := some ⟨0x32, []⟩, overrun := some 0x20 } } (fun t => t.lu.overrun) =
      some (some 0x20) := by decide +kernel
/-- 10.5: with one lock the image has 993 bytes and 16 pages. -/
theorem test_save_answer :
    look .saveProfile { inRun with pl := { inRun.pl with wm := { inRun.wm with locks := [2] } } } (fun t => t.lu.transmitter) =
      some (.sending .answer ⟨0xD2, [0, 0x03, 0xE1, 16]⟩ []) := by decide +kernel
/-- 10.5: parameter 2 locked, SET_PARAM 2 = 8 is LOCKED and the answer carries the value that stands. -/
theorem test_setParam_locked :
    look (.setParam 2 8) { inState .run [(2, 5)] with pl := { (inState .run [(2, 5)]).pl with wm := { memoryOf [(2, 5)] with locks := [2] } } }
      (fun t => t.lu.transmitter) = some (.sending .answer ⟨0xD1, [6, 0, 2, 0, 5]⟩ []) := by decide +kernel
/-- 10.5: structural parameter 360 in RUN is WRONG_STATE. -/
theorem test_setParam_structural :
    look (.setParam 360 1) inRun (fun t => t.lu.transmitter) = some (.sending .answer ⟨0xD1, [4, 1, 0x68, 0, 0]⟩ []) := by decide +kernel

/-! ### Times at which a setting or a run begins afresh -/

/-- R36: an abort restarts the rest timer although a drive loss has stopped the compressor before (180 s). -/
theorem test_abort_restarts_rest :
    look .allotmentAtHs
      { withHandler { Handler.reset with mode := .defrost, rest := 5 } (inState .run [(10, 180)]) with
        bus := { inRun.bus with allotHS := [allotmentOf .aborted 0] }
        hs := { (withHandler { Handler.reset with mode := .defrost, rest := 5 } inRun).hs with cycleNo := 5, outstanding := true } }
      (fun t => ((t.handler 0).mode, (t.handler 0).rest)) = some (.vent, 18000000) := by decide +kernel
/-- R37: each zone's damper is computed in its handler's turn. The rest timer of handler 1 that starts in its own turn makes the HS read
the lowest damper opening 300 written since; the zones of handler 0 keep the 100 read before it. -/
theorem test_dampers_in_handler_order :
    let d : DemandSet := ⟨5, Vector.ofFn fun z => ⟨if z = 0 then 0 else 1, 4, .active, true, 0, false, 1500⟩⟩
    let s := inState .run [(18, 300)]
    look .allotmentAtHs
      { s with
        bus := { s.bus with allotHS := [allotmentOf .none 0] }
        hs := { s.hs with
          handlers := #v[{ Handler.reset with mode := .vent }, { Handler.reset with mode := .heat, comp := .running, q := 250 }]
          cycleNo := 5, outstanding := true, lastDemand := some d, air := ⟨300, 650, 100, 150⟩ } }
      (fun t => (t.hs.dampers[(0 : Fin 12)], t.hs.dampers[(1 : Fin 12)])) = some (100, 300) := by decide +kernel
/-- R22: a renewal takes the renewal blower as it was last read, 650, not the 900 written since. -/
theorem test_renewal_blower_as_read :
    look (.renewNow 0)
      { inState .run [(17, 900)] with
        hs := { (withHandler { Handler.reset with mode := .vent } inRun).hs with air := ⟨300, 650, 100, 150⟩ } }
      (fun t => (t.handler 0).blower) = some 650 := by decide +kernel
/-- R78: the gap after a pass is the one it began with, 10 ms, not the 20 ms written since. -/
theorem test_gap_as_begun :
    look (.supplyConversion 1070)
      { inState .run [(27, 20)] with su := { inRun.su with pass := .supply [], scanGap := 10 } } (fun t => t.su.gapTimer) =
      some (some 1000) := by decide +kernel
/-- R88: a FAILED point with two good readings behind it starts again at run count 0 when its bank fails. -/
theorem test_bank_failure_ends_runs :
    look (.fullTrim (Vector.replicate 32 600) (Vector.replicate 32 600))
      { inState .run [(355, 1), (356, 23)] with
        su := { inRun.su with pass := .trim 2 true [], points := inRun.su.points.set 31 ⟨200, .failed, 0, 2⟩ } }
      (fun t => t.point 31) = some ⟨200, .failed, 0, 0⟩ := by decide +kernel
/-- R170: the channels of READ_OUTPUTS begin with their count. -/
theorem test_readOutputs_count :
    look (.readOutputs 15 1) inRun (fun t => match t.lu.transmitter with
      | .sending _ f _ => f.payload.take 2
      | .idle => []) = some [0, 1] := by decide +kernel

/-! ### For every statement a state and operands that meet its hypotheses

Where a statement has several clauses, its theorem meets the hypotheses of each, at the ends of their ranges. -/

/-- A demand set, a request set and an allotment on their way. -/
def withDemand (before : Bool) (d : DemandSet) (s : State) : State := { s with bus := { s.bus with demandSets := [⟨before, d⟩] } }
def withRequest (before : Bool) (s : State) : State :=
  { s with bus := { s.bus with requestSets := [⟨before, requests (heating 14000 800 false) (heating 14000 500 false) 400⟩] } }
def withAllotment (a : Allotment) (s : State) : State :=
  { s with bus := { s.bus with allotHS := [a], allotZR := [a] }, hs := { s.hs with cycleNo := 5, outstanding := true }
           zr := { s.zr with cycleNo := 5, outstanding := true } }

theorem witness_StepTakesTheFrontCommand :
    ({ inRun with pending := [.status, .gapTimeout] } : State).pending = .status :: [.gapTimeout] := rfl

theorem witness_IdleStepHandsOnOrTicks :
    State.reset.pending = [] ∧ State.reset.lu.after = .none ∧ State.reset.bus = ⟨[], [], [], [], []⟩ ∧
    (withDemand false (demands true 1) inRun).pending = [] ∧ (withDemand false (demands true 1) inRun).bus.demandSets ≠ [] ∧
    (let due (a : AfterAnswer) : State := { inStandby with lu := { inStandby.lu with after := a } }
     (due .park).lu.transmitter = .idle ∧ (due .park).lu.answer = none ∧ (due .restart).pending = [] ∧
       ({ due .park with lu := { (due .park).lu with transmitter := .sending .answer ⟨0xCA, [0]⟩ [] } } : State).lu.transmitter ≠ .idle) ∧
    ((withRequest false inRun).bus.demandSets = [] ∧ (withRequest false inRun).bus.requestSets ≠ []) ∧
    (let s := withAllotment (allotmentOf .none 0) inRun
     let last : State := { s with bus := { s.bus with allotHS := [] } }
     s.bus.requestSets = [] ∧ s.bus.allotHS ≠ [] ∧ last.bus.allotHS = [] ∧ last.bus.allotZR ≠ []) ∧
    ({ inRun with bus := { inRun.bus with ouValues := [(.blower 1, 1000)] } } : State).bus.allotZR = [] := by decide +kernel

theorem witness_ExecKeepsTheQueue : exec .gapTimeout State.reset = .next State.reset := rfl

theorem witness_RequestsOutsideServiceHaveNoEffect :
    encodeRequest (.grant 9000 30) = some (0x20, [0x23, 0x28, 30]) ∧
    decodeRequest 0x20 [0x23, 0x28, 30] = .request (.grant 9000 30) ∧ (inState .parked []).sc.opState = .parked ∧
    ({ inRun with lu := { inRun.lu with inHand := some ⟨1, []⟩ } } : State).lu.inHand.isSome ∧ inRun.sc.opState ≠ .parked ∧
    State.reset.sc.opState = .loading ∧ (inState .waking []).sc.opState = .waking ∧ State.reset.lu.inHand = none ∧
    Instr.grant 9000 30 ≠ .identify ∧ Instr.grant 9000 30 ≠ .status := by decide +kernel

theorem witness_RequestDecodesFromItsEncoding :
    encodeRequest (.setSetpoints (List.replicate 12 (11, 300))) = some (0x10, pairPayload (List.replicate 12 (11, 300))) ∧
    encodeRequest (.setSetpoints [(0, 120)]) = some (0x10, [0, 0, 120]) ∧ encodeRequest .identify = some (0x01, []) ∧
    (List.replicate 12 ((11, 300) : Byte × Word16)).length = 12 := by decide

theorem witness_DecodedRequestEncodesBack :
    decodeRequest 0x52 [] = .request .saveProfile ∧ decodeRequest 0x05 [] = .badKind := by decide

theorem witness_FrameOnTheLineIsItsRequest :
    encodeRequest (.readZones 0 12) = some (0x12, [0, 12]) ∧ decodeRequest 0x12 [0, 12] = .request (.readZones 0 12) ∧
    inRun.sc.opState ≠ .parked ∧ inRun.lu.receiver = .hunting ∧ inRun.lu.gap = none := by decide +kernel

theorem witness_FramesRefusedByTheChecks :
    inRun.sc.opState ≠ .parked ∧ inRun.lu.receiver = .hunting ∧ inRun.lu.gap = none ∧ inRun.lu.inHand = none ∧
    (List.replicate 127 (0 : Byte)).length ≤ 127 ∧ ([0, 0] : List Byte) ≠ wordBytes (crc16 [1, 0x02]) ∧
    (∃ x y : Byte, [x, y] = wordBytes (crc16 [1, 0x05])) ∧ decodeRequest 0x05 [] = .badKind ∧
    (∃ x y : Byte, [x, y] = wordBytes (crc16 [2, 0x02, 7])) ∧ decodeRequest 0x02 [7] = .badLength :=
  ⟨by decide, rfl, rfl, rfl, by decide +kernel, by decide +kernel, ⟨_, _, rfl⟩, by decide, ⟨_, _, rfl⟩, by decide⟩

/-- RUN with the receiver in a state. -/
def receiving (r : Receiver) : State := { inRun with lu := { inRun.lu with receiver := r } }

theorem witness_ReceiverAssemblesFrames :
    (inState .parked []).sc.opState = .parked ∧ inRun.sc.opState ≠ .parked ∧ (receiving .hunting).lu.receiver = .hunting ∧
    (receiving (.receiving [])).lu.receiver = .receiving [] ∧ (receiving (.receiving [1])).lu.receiver = .receiving (1 :: []) ∧
    ([] : List Byte).length + 2 < (1 : Byte).toNat + 3 ∧
    (receiving (.receiving (128 :: List.replicate 128 0))).lu.receiver = .receiving (128 :: List.replicate 128 0) ∧
    (List.replicate 128 (0 : Byte)).length + 2 < (128 : Byte).toNat + 3 := by decide +kernel

/-- RUN with the transmitter sending. -/
def sending (w : Sending) (pieces : List Frame) (answer : Option (Frame × List Frame)) (overrun : Option Byte) (q : List EventKind)
    (after : AfterAnswer) : State :=
  { inRun with lu := { inRun.lu with transmitter := .sending w ⟨0x82, []⟩ pieces, answer := answer, overrun := overrun, queue := q, after := after } }

theorem witness_TransmitterSendsInOrder :
    inRun.sc.opState ≠ .parked ∧
    (sending .answer [⟨0x82, [1]⟩] none none [] .none).lu.transmitter = .sending .answer ⟨0x82, []⟩ [⟨0x82, [1]⟩] ∧
    ((sending .answer [] none none [] .none).lu.after = .none ∧ (sending .answer [] none none [] .none).lu.answer = none ∧
      (sending .answer [] none none [] .none).lu.overrun = none ∧ (sending .answer [] none none [] .none).lu.overrunReject = none ∧
      (sending .answer [] none none [] .none).lu.queue = []) ∧
    (sending .answer [] none (some 0x20) [.modeChange] .none).lu.overrun = some 0x20 ∧
    (sending .answer [] none none [] .park).lu.after ≠ .none ∧
    (sending .notice [] (some (⟨0x82, []⟩, [])) none [] .none).lu.answer = some (⟨0x82, []⟩, []) ∧
    ((sending .notice [] none none [.modeChange] .none).lu.queue = .modeChange :: [] ∧ Sending.notice ≠ .answer) ∧
    ((sending .answer [] none none [.modeChange] .none).lu.queue = .modeChange :: [] ∧
      (sending .answer [] none none [.modeChange] .none).lu.overrun = none) ∧
    ((sending .notice [] none none [] .none).lu.overrunReject = none ∧ (sending .notice [] none none [] .none).lu.queue = []) ∧
    (let s : State := { sending .notice [] none none [] .none with
        lu := { (sending .notice [] none none [] .none).lu with overrunReject := some 0x20 } }
     s.lu.answer = none ∧ s.lu.overrunReject = some 0x20) := by decide +kernel

theorem witness_IdentifyAndStatusAnswer :
    State.reset.sc.opState ≠ .parked ∧ State.reset.lu.inHand = none ∧ inRun.pl.loadState = .loaded := by decide +kernel

theorem served_inRun : inRun.Served := ⟨.inl rfl, rfl⟩
theorem served_inStandby : inStandby.Served := ⟨.inr rfl, rfl⟩

theorem witness_SetReportsEnablesAndQueues :
    let s : State := { inRun with lu := { inRun.lu with queue := EventKind.all.take 8 } }
    s.Served ∧ s.lu.queue.length ≤ 8 ∧ s.lu.queue.length = 8 := ⟨⟨.inl rfl, rfl⟩, by decide, by decide⟩

theorem witness_ClearEventsClears : inStandby.Served := served_inStandby

theorem witness_ZoneRequestsWriteZones :
    inRun.Served ∧ ¬ (1 ≤ ([] : List (Byte × Word16)).length ∧ ([] : List (Byte × Word16)).length ≤ 12) ∧
    ¬ (1 ≤ (List.replicate 13 ((0, 210) : Byte × Word16)).length ∧ (List.replicate 13 ((0, 210) : Byte × Word16)).length ≤ 12) ∧
    (∃ p ∈ ([(12, 210)] : List (Byte × Word16)), 12 ≤ p.1.toNat) ∧
    (∀ p ∈ ([(0, 119), (11, 301)] : List (Byte × Word16)), p.1.toNat < 12) ∧ 12 ≤ (12 : Byte).toNat ∧ 2 ≤ (2 : Byte).toNat :=
  ⟨served_inRun, by decide, by decide +kernel, ⟨(12, 210), List.mem_singleton_self _, by decide⟩, by simp, by decide, by decide⟩

theorem witness_RegulationTimerBeginsACycle :
    inRun.zr.cycleTimer = none ∧ ((zone120 .full).zr.cycleTimer.isSome ∧ (zone120 .full).zr.outstanding = false) ∧
    (let s : State := { zone120 .half with zr := { (zone120 .half).zr with outstanding := true } }
     s.zr.cycleTimer.isSome ∧ s.zr.outstanding = true) := by decide +kernel

/-- Zone 0 of `zone120` with another error, and with its door 1 open. -/
def zone120With (value : Int) (x : Zone) (doorOpen : Bool) : State :=
  let s := zone120 .full
  { s with
    pl := { s.pl with wm := memoryOf [(0, 20), (1, 8), (2, 5), (3, 30), (85, -1), (86, if doorOpen then 1 else -1)] }
    zr := { s.zr with zones := s.zr.zones.set 0 x }
    su := { s.su with
      points := s.su.points.set 0 ⟨value, .valid, 0, 0⟩
      doors := s.su.doors.set 1 { Door.reset with state := .opened } } }

theorem witness_ActiveZoneFollowsTheDemandLaw :
    let ready (s : State) : Prop := s.zr.cycleTimer.isSome ∧ s.zr.outstanding = false ∧ (s.zone 0).enabled = true ∧
      s.wm.zonePoint 0 = some 0 ∧ s.wm.pointKind 0 = .temp ∧ (s.point 0).state = .valid
    ready (zone120 .full) ∧ ready (zone120With 198 ((zone120 .full).zone 0) true) ∧
    (∃ d, (zone120With 198 ((zone120 .full).zone 0) true).wm.zoneDoor 0 = some d ∧
      ((zone120With 198 ((zone120 .full).zone 0) true).door d).state = .opened) ∧
    ready (zone120With 235 { Zone.reset with enabled := true, setpoint := 200, state := .active, demand := -1000 } false) ∧
    ready (zone120With 205 { Zone.reset with enabled := true, setpoint := 210, limited := .heating } false) := by decide +kernel

/-- RUN at a stage 1 with zone 0's point in a state, its age, and the return-air point 2 of handler 0. -/
def zoneWith (enabled : Bool) (p : Point) (other : Point) (ret : Point) : State :=
  let s := inState .run [(3, 30), (74, 2), (94, 1)]
  { s with
    zr := { s.zr with
      cycleTimer := some 1
      zones := (s.zr.zones.set 0 { Zone.reset with enabled := enabled, setpoint := 210 }).set 1 { Zone.reset with enabled := true, setpoint := 210 } }
    su := { s.su with points := ((s.su.points.set 0 p).set 1 other).set 2 ret } }

theorem witness_OtherZonesByTheirState :
    let bad : Point := ⟨200, .failed, 0, 0⟩
    let s := zoneWith true ⟨200, .held, 300, 0⟩ bad bad
    let late := zoneWith true ⟨200, .held, 301, 0⟩ ⟨213, .valid, 0, 0⟩ bad
    let lost := zoneWith true bad bad ⟨190, .valid, 0, 0⟩
    let none' := zoneWith true bad bad bad
    (s.zr.cycleTimer.isSome ∧ s.zr.outstanding = false) ∧ ((zoneWith false bad bad bad).zone 0).enabled = false ∧
    ((s.zone 0).enabled = true ∧ s.wm.zonePoint 0 = some 0 ∧ s.wm.pointKind 0 = .temp ∧ (s.point 0).state = .held ∧
      (s.point 0).age ≤ 10 * s.wm.holdLimit) ∧
    (10 * late.wm.holdLimit < (late.point 0).age ∧ (late.zone 1).enabled = true ∧ late.wm.zonePoint 1 = some 1 ∧
      late.wm.zoneHandler 1 = late.wm.zoneHandler 0 ∧ (late.point 1).state = .valid) ∧
    ((lost.point 0).state = .failed ∧ (lost.point 1).state ≠ .valid ∧ lost.usable (lost.wm.returnPoint 0) = some 190) ∧
    none'.usable (none'.wm.returnPoint 0) = none := by decide +kernel

theorem witness_AllotmentReturnsToTheZones :
    let a := allotmentOf .none 0
    (withAllotment a inStandby).bus.allotZR = a :: [] ∧ (withAllotment a inStandby).sc.opState ≠ .run ∧
    ((withAllotment a inRun).sc.opState = .run ∧ (withAllotment a inRun).zr.outstanding = true ∧
      a.cycleNo = (withAllotment a inRun).zr.cycleNo ∧ (withAllotment a inRun).zr.deferred = false) ∧
    (let s : State := { withAllotment a (zone120 .full) with zr := { (withAllotment a (zone120 .full)).zr with deferred := true } }
     s.sc.opState = .run ∧ s.zr.outstanding = true ∧ a.cycleNo = s.zr.cycleNo ∧ s.zr.deferred = true ∧ (s.zone 0).enabled = true ∧
       s.wm.zonePoint 0 = some 0 ∧ s.wm.pointKind 0 = .temp ∧ (s.point 0).state = .valid ∧
       (a.zones[(0 : Fin 12)]).limited = .heating ∧ (s.zone 0).limited ≠ .heating) := by
  decide +kernel

theorem witness_HandlerTimersExpire :
    inRun.hs.accountTimer = none ∧
    (let s : State := { withHandler { Handler.reset with mode := .heat, q := 250, icing := 7200 }
        (inState .run [(12, 2400), (14, -30), (20, -1), (75, -1)]) with
        hs := { (withHandler { Handler.reset with mode := .heat, q := 250, icing := 7200 } inRun).hs with accountTimer := some 1 } }
     s.hs.accountTimer.isSome ∧ (s.handler 0).mode = .heat ∧ 0 < (s.handler 0).q ∧ s.usable (s.wm.coilPoint 0) = none ∧
       s.usable s.wm.outdoorPoint = none) := by decide +kernel

theorem witness_DemandSetMakesARequestSet :
    let d := demands true 400
    ((withDemand false d inStandby).bus.demandSets = ⟨false, d⟩ :: [] ∧ (withDemand false d inStandby).sc.opState ≠ .run ∧
      (withDemand false d inStandby).lu.takeNext = (withDemand false d inStandby).lu) ∧
    ((withDemand true d inRun).bus.demandSets = ⟨true, d⟩ :: [] ∧ (withDemand true d inRun).sc.opState = .run) ∧
    (withDemand false d inRun).sc.opState = .run ∧
    look .demandSetReceived (withDemand false d inRun) (fun t => ((t.handler 0).mode, t.bus.requestSets.map fun r => (r.set.zones[0], r.set.zones[1])))
      = some (.vent, [(⟨400, 1500⟩, ⟨0, 1500⟩)]) := by decide +kernel

/-- RUN with a demand set of one demand on handler 0, whose record is given; the thresholds are the defaults. -/
def atStageTwo (counted : Bool) (n : Int) (x : Handler) : State :=
  withDemand false (demands counted n) (withHandler x
    (inState .run [(4, 150), (5, 20), (6, 150), (7, 20), (8, 250), (9, 700), (10, 60), (11, 180), (13, 600), (74, -1), (75, 0)]))

theorem witness_HandlerModesAtStageTwo :
    let x := { Handler.reset with driveAvailable := true }
    let zs (s : State) := (List.finRange 12).filter fun z =>
      ((s.bus.demandSets.map fun d => (d.set.zones[z]).counted && (d.set.zones[z]).handler == 0) == [true])
    (zs (atStageTwo false 0 { x with mode := .heat }) = []) ∧ zs (atStageTwo true 150 { x with mode := .vent }) ≠ [] ∧
    ((atStageTwo true 150 { x with mode := .vent }).wm.heatOn ≤ 150 ∧ ¬ (x.comp = .stopped ∧ x.rest ≠ 0) ∧ x.dwell = 0) ∧
    (-150 ≤ -(atStageTwo true (-150) { x with mode := .vent }).wm.coolOn) ∧
    (-(atStageTwo true 149 x).wm.coolOn < 149 ∧ 149 < (atStageTwo true 149 x).wm.heatOn) ∧
    ((atStageTwo true 21 { x with mode := .heat }).wm.heatOff < 21 ∧ (20 : Int) ≤ (atStageTwo true 20 { x with mode := .heat }).wm.heatOff) ∧
    (-(atStageTwo true (-20) { x with mode := .cool }).wm.coolOff ≤ -20) ∧
    (let s : State := { atStageTwo true 100 { x with mode := .defrost } with
        su := { inRun.su with points := inRun.su.points.set 0 ⟨120, .valid, 0, 0⟩ } }
     s.usable (s.wm.coilPoint 0) = some 120) ∧
    zs (atStageTwo false 0 Handler.reset) = [] ∧ ((atStageTwo true 0 Handler.reset).handler 0).mode = .idle ∧
    (let resting := (atStageTwo true 150 { x with mode := .vent, rest := 1 }).handler 0
     resting.comp = .stopped ∧ resting.rest ≠ 0) ∧
    (let held := (atStageTwo true 150 { x with mode := .vent, dwell := 1, lastMode := .cool }).handler 0
     held.dwell ≠ 0 ∧ held.lastMode = .cool) ∧
    ((atStageTwo true 149 { x with mode := .vent, dwell := 1, lastMode := .heat }).handler 0).lastMode = .heat ∧
    ((atStageTwo true 400 { Handler.reset with mode := .heat }).handler 0).driveAvailable = false ∧
    -21 < -(atStageTwo true (-21) { x with mode := .cool }).wm.coolOff ∧
    (let frosted (n : Nat) := atStageTwo true 100 { x with mode := .defrost, defrostTimer := n }
     (frosted 0).usable ((frosted 0).wm.coilPoint 0) = none ∧ (frosted 600).wm.defrostMaximum ≤ ((frosted 600).handler 0).defrostTimer ∧
       ((frosted 599).handler 0).defrostTimer < (frosted 599).wm.defrostMaximum) := by decide +kernel

/-- RUN with an allotment for handler 0, whose record is given, and its renewal state. -/
def atStageFour (o : FixedOutcome) (q : Nat) (x : Handler) (r : RenewalState) : State :=
  let s := withHandler x (withAllotment (allotmentOf o q) inRun)
  { s with rs := { s.rs with renewals := s.rs.renewals.set 0 { Renewal.reset with state := r } } }

theorem witness_AllotmentCommandsTheHandlers :
    let heat := { Handler.reset with mode := .heat, driveAvailable := true, qReq := 620 }
    let accepted (s : State) (a : Allotment) : Prop := s.bus.allotHS = a :: [] ∧ s.sc.opState = .run ∧ s.hs.outstanding = true ∧
      a.cycleNo = s.hs.cycleNo
    ((withAllotment (allotmentOf .none 0) inStandby).sc.opState ≠ .run ∧
      (withAllotment (allotmentOf .none 0) inStandby).lu.takeNext = (withAllotment (allotmentOf .none 0) inStandby).lu) ∧
    accepted (atStageFour .none 250 heat .idle) (allotmentOf .none 250) ∧
    accepted (atStageFour .none 0 { heat with mode := .cool } .idle) (allotmentOf .none 0) ∧
    accepted (atStageFour .none 250 { heat with mode := .vent } .idle) (allotmentOf .none 250) ∧
    accepted (atStageFour .admitted 700 heat .idle) (allotmentOf .admitted 700) ∧
    accepted (atStageFour .admitted 700 heat .forced) (allotmentOf .admitted 700) ∧
    accepted (atStageFour .aborted 0 { heat with mode := .defrost } .idle) (allotmentOf .aborted 0) ∧
    ¬ (heat.comp = .stopped ∧ heat.rest ≠ 0) ∧ ((atStageFour .admitted 700 heat .forced).renewal 0).state ≠ .idle ∧
    (let s := atStageFour .none 250 heat .idle
     let drive : Exchange := ⟨.drive 0, 7, .driveCommand true .heat 620, false, .sending, false, false⟩
     let on (e : Option Exchange) : State := { withHandler { heat with driveSlot := some 7 } s with
       hs := { (withHandler { heat with driveSlot := some 7 } s).hs with lastDemand := some (demands true 400) }
       ml := { s.ml with line := .on, exchange := e, slots := s.ml.slots.set 7 { Slot.reset with state := .present } } }
     s.hs.lastDemand = none ∧ s.ml.line ≠ .on ∧ (on none).hs.lastDemand = some (demands true 400) ∧ (on (some drive)).ml.exchange.isSome ∧
       ((on none).ml.line = .on ∧ (on none).ml.exchange = none ∧ ((on none).handler 0).driveSlot = some 7 ∧ ((on none).slot 7).state = .present)) ∧
    (let s := atStageFour .aborted 0 { heat with mode := .defrost } .idle
     let debt : State := { s with rs := ⟨s.rs.renewals.set 0 { Renewal.reset with balance := -8 }, .none⟩ }
     look .allotmentAtHs debt (fun t => (t.renewal 0).state) = some .forced) := by decide +kernel

theorem witness_GrantTakesForceAndExpires :
    inRun.Served ∧ inRun.pa.timer = none ∧
    ({ inRun with pa := { inRun.pa with live := true, timer := some 1, liveGrant := 60000 } } : State).pa.timer.isSome :=
  ⟨served_inRun, rfl, rfl⟩

theorem witness_RequestSetMakesAnAllotment :
    (withRequest false inStandby).bus.requestSets.length = 1 ∧ (withRequest false inStandby).sc.opState ≠ .run ∧
    (withRequest true inRun).bus.requestSets.map (·.dropped) = [true] ∧
    (withRequest false inRun).bus.requestSets.map (·.dropped) = [false] ∧ (withRequest false inRun).sc.opState = .run := by
  decide +kernel

theorem witness_AllotmentAtItsLimits :
    let r := requests (heating 14000 250 false) (heating 14000 0 false) 1000
    (∀ h : Fin 2, (r.handlers[h]).candidate = false ∧ (r.handlers[h]).runningDefrost = false ∧
        ((r.handlers[h]).mode = .heat ∨ (r.handlers[h]).mode = .cool ∨ (r.handlers[h]).qReq = 0) ∧
        ((r.handlers[h]).qReq = 0 ∨ 250 ≤ (r.handlers[h]).qReq)) ∧
    ((List.finRange 2).map fun h => (r.handlers[h]).rating * (r.handlers[h]).qReq).sum
      + ((List.finRange 12).map fun z => (r.zones[z]).rating * (r.zones[z]).request).sum = 1000 * 5000 ∧
    (∀ h : Fin 2, 0 < (r.handlers[h]).rating) ∧ (∀ z : Fin 12, 0 < (r.zones[z]).rating) ∧
    (let x : RequestHandler := ⟨.defrost, 700, 14000, false, true⟩
     x.runningDefrost = true ∧ x.candidate = false ∧ x.mode ≠ .heat ∧ x.mode ≠ .cool) := by decide +kernel

/-- A served state with handler 0's mode, its renewal and the air hold. -/
def renewalState (o : OpState) (m : Mode) (r : RenewalState) (b : Int) (hold : AirHold) : State :=
  let s := withHandler { Handler.reset with mode := m } (inState o [])
  { s with rs := ⟨s.rs.renewals.set 0 { Renewal.reset with state := r, balance := b }, hold⟩ }

/-- The same with renewal conditions to read: point 30 outdoors, point 31 in the return air, point 29 for the CO2 of zone 0, whose setpoint
is 21.0 °C. -/
def airState (m : Mode) (hold : AirHold) (b out ret co2 : Int) : State :=
  let s := renewalState .run m .idle b hold
  { s with
    pl := { s.pl with wm := memoryOf [(20, 30), (25, 1000), (74, 31), (85, 29), (347, 1)] }
    hs := { s.hs with lastDemand := some (demands true 400) }
    zr := { s.zr with zones := s.zr.zones.set 0 { s.zone 0 with setpoint := 210 } }
    su := { s.su with points := ((s.su.points.set 30 ⟨out, .valid, 0, 0⟩).set 31 ⟨ret, .valid, 0, 0⟩).set 29 ⟨co2, .valid, 0, 0⟩ } }

theorem witness_AirHoldStopsRenewals :
    inRun.Served ∧ 3 ≤ (3 : Byte).toNat ∧ inStandby.Served ∧ inRun.rs.airHold = .none ∧
    (renewalState .run .heat .forced (-8) .none).Served ∧
    ((renewalState .run .heat .forced (-8) .none).rs.airHold ≠ .hard ∧ ((renewalState .run .heat .forced (-8) .none).renewal 0).state ≠ .idle) ∧
    (((renewalState .run .heat .renewing (-7) .none).renewal 0).state = .renewing ∧
      ((renewalState .run .heat .renewing (-7) .none).renewal 0).balance ≠ -8) ∧
    (((renewalState .run .cool .renewing (-8) .none).renewal 0).state = .renewing ∧
      ((renewalState .run .cool .renewing (-8) .none).renewal 0).balance = -8 ∧ ((renewalState .run .vent .idle (-8) .hard).renewal 0).state = .idle) ∧
    (airState .cool .soft 0 170 200 0).Served ∧
    (let s := airState .cool .soft 0 170 200 0
     s.rs.airHold ≠ .none ∧ s.sc.opState = .run ∧ (s.renewal 0).state = .idle ∧ (s.renewal 0).balance = 0 ∧
       s.usable s.wm.outdoorPoint = some 170 ∧ s.usable (s.wm.returnPoint 0) = some 200 ∧ (170 : Int) ≤ 200 - 30) ∧
    (∀ b ∈ [-7, -1, 8], -8 < ((airState .heat .hard b 0 0 0).renewal 0).balance ∧ ((airState .heat .hard b 0 0 0).handler 0).mode = .heat) ∧
    (let s := airState .heat .soft 7 229 200 1001
     (s.renewal 0).balance < 8 ∧ s.usable s.wm.outdoorPoint = some 229 ∧ s.usable (s.wm.returnPoint 0) = some 200 ∧ ¬ (200 : Int) + 30 ≤ 229 ∧
       s.wm.zoneCo2Point 0 = some 29 ∧ s.wm.pointKind 29 = .co2 ∧ (s.point 29).state = .valid ∧ s.wm.co2Limit < (s.point 29).value) ∧
    ((airState .vent .hard 0 231 0 1000).handler 0).mode = .vent ∧ ((renewalState .run .idle .idle 0 .hard).handler 0).mode = .idle ∧
    ((renewalState .run .defrost .idle (-8) .hard).handler 0).mode = .defrost :=
  ⟨served_inRun, by decide, served_inStandby, rfl, ⟨.inl rfl, rfl⟩, by decide +kernel, by decide +kernel, by decide +kernel,
    ⟨.inl rfl, rfl⟩, by decide +kernel, by decide +kernel, by decide +kernel, by decide, by decide, by decide⟩

theorem witness_RenewNowStartsAHostRenewal :
    inRun.Served ∧ 2 ≤ (2 : Byte).toNat ∧ inStandby.Served ∧ (renewalState .run .heat .idle 0 .soft).rs.airHold ≠ .none ∧
    ((renewalState .run .heat .forced (-8) .none).renewal 0).state ≠ .idle ∧ ((renewalState .run .defrost .idle 0 .none).handler 0).mode = .defrost ∧
    ((renewalState .run .idle .idle 0 .none).handler 0).mode = .idle ∧ ((renewalState .run .vent .idle 8 .none).renewal 0).balance = 8 ∧
    ((renewalState .run .vent .idle 7 .none).renewal 0).balance ≠ 8 ∧ (renewalState .run .vent .idle 7 .none).Served :=
  ⟨served_inRun, by decide, served_inStandby, by decide, by decide, by decide, by decide, by decide, by decide, ⟨.inl rfl, rfl⟩⟩

theorem witness_RenewalsCountTheBalance :
    let at8 := renewalState .run .heat .idle (-8) .none
    ((renewalState .run .vent .idle 0 .none).renewal 0).state = .idle ∧ ((renewalState .run .vent .forced 8 .none).renewal 0).state ≠ .idle ∧
    inRun.intervalPaused 0 = true ∧ (inRun.handler 0).mode = .idle ∧ (at8.sc.opState = .run ∧ (at8.handler 0).mode ≠ .idle ∧ (at8.renewal 0).balance = -8) ∧
    ((renewalState .run .vent .idle (-7) .hard).lu.takeNext = (renewalState .run .vent .idle (-7) .hard).lu ∧
      -8 < ((renewalState .run .vent .idle (-7) .hard).renewal 0).balance) ∧
    ((renewalState .run .vent .idle (-7) .none).renewal 0).balance ≤ 0 ∧ ((renewalState .run .vent .idle 0 .none).renewal 0).balance ≤ 0 ∧
    (let air (m : Mode) (b out ret co2 : Int) := airState m .none b out ret co2
     (0 < ((air .cool 1 170 200 0).renewal 0).balance ∧ (air .cool 1 170 200 0).usable (air .cool 1 170 200 0).wm.outdoorPoint = some 170 ∧
       (air .cool 1 170 200 0).usable ((air .cool 1 170 200 0).wm.returnPoint 0) = some 200 ∧ (170 : Int) ≤ 200 - 30) ∧
     ((air .heat 8 230 200 0).handler 0).mode = .heat ∧ ((air .vent 8 230 200 0).handler 0).mode = .vent ∧
     roundHalfAway ([210] : List Int).sum ([210] : List Int).length = 210 ∧
     ((air .heat 8 229 200 1001).wm.zoneCo2Point 0 = some 29 ∧ (air .heat 8 229 200 1001).wm.pointKind 29 = .co2 ∧
       ((air .heat 8 229 200 1001).point 29).state = .valid ∧
       (air .heat 8 229 200 1001).wm.co2Limit < ((air .heat 8 229 200 1001).point 29).value)) := by
  decide +kernel

/-- A state with bank 1's trim state, and one with a pass under way. -/
def bankState (t : TrimState) (s : State) : State := { s with su := { s.su with banks := s.su.banks.set 1 { Bank.reset with trim := t } } }
/-- The three banks IDLE. -/
def banksIdle (s : State) : State := { s with su := { s.su with banks := Vector.replicate 3 { Bank.reset with trim := .idle } } }
def passState (p : Pass) (s : State) : State := { s with su := { s.su with pass := p } }

theorem witness_SensingMomentsAndTrimRequests :
    inRun.Served ∧ 4 ≤ (4 : Byte).toNat ∧ (3 : Byte).toNat ≤ 3 ∧ (∃ b, ((bankState .running (banksIdle inRun)).bank b).trim ≠ .idle) ∧
    ((banksIdle inRun).Served ∧ ∀ b, ((banksIdle inRun).bank b).trim = .idle) ∧ inRun.su.trimTimer = none ∧ inRun.su.gapTimer = none ∧
    ({ inRun with su := { inRun.su with trimTimer := some 1, gapTimer := some 1 } } : State).su.gapTimer.isSome ∧
    (inRun.point 0).state ≠ .valid ∧ ((zone120 .full).point 0).state = .valid :=
  ⟨served_inRun, by decide, by decide, ⟨1, by decide⟩, ⟨⟨.inl rfl, rfl⟩, by decide⟩, rfl, rfl, rfl, by decide, by decide +kernel⟩

theorem witness_SupplyWatch :
    let s := passState (.supply [0, 23]) (banksIdle inRun)
    let low : State := { s with su := { s.su with supply := .low } }
    s.su.pass = .supply [0, 23] ∧ s.sc.opState = .run ∧ s.su.passCut = false ∧ s.su.passNext = false ∧
    (s.su.supply = .normal ∧ (1074 : Code).toNat < 1075 ∧ 1075 ≤ (1075 : Code).toNat) ∧
    (low.su.supply = .low ∧ 1112 ≤ (1112 : Code).toNat ∧ (1111 : Code).toNat < 1112) ∧
    (∀ b, (s.bank b).trim ≠ .fullQueued ∧ (s.bank b).trim ≠ .shortQueued) ∧ (∀ b, (s.bank b).failed = false) ∧
    (let first : State := passState (.supply []) State.reset
     first.sc.opState = .loading ∧ first.su.passCut = false ∧ (first.bank 0).trim = .fullQueued) ∧
    ((bankState .shortQueued s).bank 1).trim = .shortQueued ∧ ((bankState .shortQueued s).bank 0).trim = .idle ∧
    ((inState .waking []).sc.opState = .waking ∧ ∀ b, ((banksIdle (inState .waking [])).bank b).trim = .idle) ∧
    (let cut : State := { inState .parked [] with su := { inRun.su with pass := .supply [0], passCut := true } }
     cut.su.pass = .supply [0] ∧ cut.su.passCut = true ∧ cut.sc.opState = .parked) ∧
    inStandby.sc.opState = .standby ∧ ({ s with su := { s.su with passNext := true } } : State).su.passNext = true := by decide +kernel

theorem witness_TrimsEnd :
    (passState (.trim 2 true []) inRun).su.pass = .trim 2 true [] ∧ (passState (.trim 0 false [8]) inRun).su.pass = .trim 0 false [8] ∧
    inRun.sc.opState = .run ∧
    ((inState .run [(355, 1), (356, 23)]).wm.pointEnabled 31 = true ∧ (inState .run [(355, 1), (356, 23)]).wm.pointSource 31 = .tap 23 ∧
      (23 : Fin 24).val / 8 = (2 : Fin 3).val) ∧
    (let last : State := passState (.trim 2 true []) (banksIdle (inState .waking []))
     last.sc.opState = .waking ∧ (∀ b, b ≠ 2 → (last.bank b).trim = .idle) ∧ (last.ml.line = .off ∧ last.ml.hostEnable = .on)) ∧
    ((passState (.trim 0 true []) State.reset).sc.opState = .loading ∧ ((passState (.trim 0 true []) State.reset).bank 1).trim ≠ .idle) ∧
    ([8] : List (Fin 24)).filter (fun i => decide (i.val / 8 ≠ (0 : Fin 3).val) && !(inRun.bank ⟨i.val / 8, by omega⟩).failed) = [8] ∧
    inRun.su.passCut = false ∧ inRun.su.passNext = false := by decide +kernel

/-- RUN at the last tap of a list, with point 31 on it in a state. -/
def pointOnTap (x : PointState) (n : Nat) (shift : Int) : State :=
  let s := inState .run [(355, 1), (356, 23), (359, shift)]
  { s with su := { s.su with pass := .list (23 :: []), points := s.su.points.set 31 ⟨200, x, 9, n⟩ } }

theorem witness_TapReadingsReachTheirPoints :
    let taken (s : State) : Prop := s.su.pass = .list (23 :: []) ∧ s.sc.opState = .run ∧ s.wm.pointEnabled 31 = true ∧
      s.wm.pointSource 31 = .tap 23
    (16 ≤ (16 : Code).toNat ∧ (4079 : Code).toNat ≤ 4079 ∧ ¬ 16 ≤ (15 : Code).toNat ∧ ¬ (4080 : Code).toNat ≤ 4079) ∧
    taken (pointOnTap .pending 0 0) ∧ (taken (pointOnTap .held 0 0) ∧ (pointOnTap .held 0 0).wm.pointShift 31 = 0) ∧
    (taken (pointOnTap .valid 0 6) ∧ (pointOnTap .valid 0 6).wm.pointShift 31 = 5 + 1) ∧
    (taken (pointOnTap .failed 1 0) ∧ ((pointOnTap .failed 1 0).point 31).run < 2) ∧ ((pointOnTap .failed 2 0).point 31).run = 2 ∧
    (pointOnTap .failed 2 0).wm.pointEnabled 0 = false ∧
    ((pointOnTap .pending 0 0).su.passCut = false ∧ (pointOnTap .pending 0 0).su.passNext = false) ∧
    ((passState (.list [0]) inStandby).su.pass = .list (0 :: []) ∧ inStandby.sc.opState ≠ .loading ∧ inStandby.sc.opState ≠ .waking ∧
      inStandby.sc.opState = .standby) ∧
    (let s := passState (.list [0, 1]) inRun
     s.su.pass = .list (0 :: [1]) ∧ s.su.passCut = false ∧ ({ s with su := { s.su with passNext := true } } : State).su.passNext = true) ∧
    (let cut : State := { inState .parked [] with su := { inRun.su with pass := .list [0, 1], passCut := true } }
     cut.su.pass = .list (0 :: [1]) ∧ cut.su.passCut = true ∧ cut.sc.opState = .parked) := by decide +kernel

/-- STANDBY or RUN with point 31 enabled on tap 23. -/
def mapState (o : OpState) (locks : List Nat) : State :=
  let w := memoryOf [(355, 1), (356, 23), (359, 2)]
  let s := inState o []
  { s with pl := { s.pl with wm := { w with locks := locks } } }

theorem witness_MapPointChangesAPoint :
    let s := mapState .standby []
    (s.sc.opState = .standby ∧ s.lu.inHand = none ∧ ¬ (64 : Byte).toNat ≤ 63 ∧ 32 ≤ (32 : Byte).toNat) ∧
    (359 = 200 + 5 * (31 : Fin 32).val + 4 ∧ 359 ∈ (mapState .run [359]).wm.locks) ∧
    ((mapState .run []).sc.opState = .run ∧ (mapState .run []).wm.word 355 ≠ 0) ∧
    ((mapState .run []).wm.word 355 = 1 ∧ (mapState .run []).wm.word 356 = 23 ∧ (mapState .run []).wm.word 357 = 0 ∧
      (mapState .run []).wm.word 358 = 0 ∧ (mapState .run []).wm.word 359 = 2) ∧
    s.sourceFailed 31 = none ∧ (mapState .standby []).wm.pointSource 31 = .tap 23 := by decide +kernel

/-- Working memory with every assigned parameter at the lowest value of its range. -/
def lowMemory : WorkingMemory := { params := Vector.ofFn fun n => BitVec.ofInt 16 (paramRange n).1, locks := [] }

theorem lowMemory_word {n : Nat} (h : n < 512) : lowMemory.word n = BitVec.ofInt 16 (paramRange n).1 := by
  simp [WorkingMemory.word, lowMemory, h]

theorem lowest_inRange : ∀ n < 512, assigned n = true → inRange n (BitVec.ofInt 16 (paramRange n).1) = true := by decide +kernel

theorem lowMemory_valid : lowMemory.valid = true := by
  simp only [WorkingMemory.valid, Bool.and_eq_true, List.all_eq_true, List.mem_range, Bool.or_eq_true, Bool.not_eq_true']
  refine ⟨⟨fun n h => ?_, by decide⟩, fun _ h => nomatch h⟩
  cases ha : assigned n
  · exact .inl rfl
  · exact .inr (by rw [lowMemory_word h]; exact lowest_inRange n h ha)

/-- A state with door 2's record and input level. -/
def doorState (o : OpState) (x : Door) (level : DoorLevel) : State :=
  let s := inState o [(24, 20)]
  { s with su := { s.su with doors := s.su.doors.set 2 x }, pins := { s.pins with doors := s.pins.doors.set 2 level } }

theorem witness_DoorsAreDebouncedAndCounted :
    let waiting : Door := { Door.reset with debounce := some 1 }
    let open19 : Door := ⟨.opened, none, 19, false, some 1⟩
    ((doorState .run Door.reset .closed).door 2).debounce = none ∧ ((doorState .run Door.reset .closed).door 2).timer = none ∧
    (((doorState .run waiting .opened).door 2).debounce.isSome ∧ (doorState .run waiting .opened).pins.doors[2] ≠ .closed ∧
      (doorState .run waiting .opened).sc.opState ≠ .standby ∧ (doorState .run waiting .opened).lu.takeNext = (doorState .run waiting .opened).lu) ∧
    ((doorState .standby waiting .opened).sc.opState = .standby ∧ (doorState .standby waiting .opened).sc.parkRequest = false) ∧
    (((doorState .run open19 .opened).door 2).timer.isSome ∧ (doorState .run open19 .opened).wm.doorCreditTime ≤ min 65535 (19 + 1)) ∧
    ¬ (doorState .run open19 .opened).wm.doorCreditTime ≤ min 65535 (18 + 1) := by decide +kernel

/-- A state with channel 15's record. -/
def channelState (o : OpState) (x : Channel) : State := { inState o [] with ou := ⟨inRun.ou.channels.set 15 x⟩ }

theorem witness_OverrideSetsTheEffectiveValue :
    let x : Channel := { Channel.reset with role := .zoneReheat 11, received := 400 }
    inRun.sc.opState = .run ∧ 16 ≤ (16 : Byte).toNat ∧ 2 ≤ (2 : Byte).toNat ∧ ((inRun.channel 15).role = .none) ∧ 1000 < (1001 : Word16).toNat ∧
    ¬ 1000 < (1000 : Word16).toNat ∧ ((channelState .standby x).sc.opState = .standby ∧ ((channelState .standby x).channel 15).role ≠ .none) ∧
    ((channelState .run x).channel 15).role ≠ .none := by decide +kernel

theorem witness_ValuesReachTheirChannels :
    let values (s : State) : State := { s with bus := { s.bus with ouValues := [(.blower 1, 1000)] } }
    let x : Channel := { Channel.reset with role := .blower 1, bound := true }
    ((values inStandby).bus.ouValues = (.blower 1, 1000) :: [] ∧ (values inStandby).sc.opState ≠ .run) ∧
    ((values (channelState .run x)).sc.opState = .run ∧ ((values (channelState .run x)).channel 15).role = .blower 1 ∧
      ((values (channelState .run x)).channel 15).bound = true) := by decide +kernel

theorem witness_PeriodsEndAndCompare :
    let x : Channel := { Channel.reset with role := .spare, compare := 15, counter := 14 }
    State.reset.pl.loadState ≠ .loaded ∧ (channelState .run x).pl.loadState = .loaded ∧
    (((channelState .run x).channel 15).counter < ((channelState .run x).channel 15).compare ∧
      ((channelState .run x).channel 15).compare < ((channelState .run x).channel 15).modulus) ∧
    (inRun.channel 15).compare ≤ (inRun.channel 15).counter := by decide +kernel

/-- RUN with the module line ON, slot 8 of a kind and record, an exchange and a pass-through record. -/
def lineState (kind : Int) (x : Slot) (e : Option Exchange) (p : PassRecord) : State :=
  let s := inState .run [(431, kind)]
  { s with ml := { s.ml with line := .on, slots := s.ml.slots.set 7 x, exchange := e, pass := p } }

/-- An exchange with slot 8. -/
def exchangeOf (c : ExchangeClass) (r : ModuleRequest) (second : Bool) (p : TryPhase) : Exchange := ⟨c, 7, r, second, p, false, false⟩

def presentSlot (n : Nat) : Slot := { Slot.reset with state := .present, failed := n, drive := some ⟨.ready, 0, 0, 0⟩ }

theorem witness_PassRequestsUseTheRecord :
    let done : PassRecord := ⟨.done, some 7, some .write, some 9, some 5, some .answered, some .accepted, some 6⟩
    inRun.Served ∧ ¬ (1 ≤ (0 : Byte).toNat) ∧ ¬ (9 : Byte).toNat ≤ 8 ∧ ¬ (2 : Byte).toNat ≤ 1 ∧ inRun.wm.slotKind 7 = .none ∧
    ((inState .run [(431, 4)]).wm.slotKind 7 ≠ .none ∧ (inState .run [(431, 4)]).ml.line ≠ .on) ∧
    ((lineState 4 (presentSlot 0) none done).ml.line = .on ∧ (lineState 4 (presentSlot 0) none done).ml.pass.state ≠ .empty) ∧
    ((withHandler { Handler.reset with mode := .defrost } (lineState 2 (presentSlot 0) none PassRecord.empty)).wm.slotKind 7 = .compressorDrive 1 ∧
      (withHandler { Handler.reset with mode := .defrost } (lineState 1 (presentSlot 0) none PassRecord.empty)).wm.slotKind 7 = .compressorDrive 0 ∧
      ((withHandler { Handler.reset with mode := .defrost } (lineState 1 (presentSlot 0) none PassRecord.empty)).handler 0).mode = .defrost) ∧
    ((lineState 4 (presentSlot 0) (some (exchangeOf .probe .probe false .sending)) PassRecord.empty).ml.exchange.isSome ∧
      (lineState 4 (presentSlot 0) none PassRecord.empty).ml.exchange = none ∧
      (lineState 4 (presentSlot 0) none PassRecord.empty).ml.drivePending = Vector.replicate 2 false ∧
      (lineState 4 (presentSlot 0) none PassRecord.empty).ml.pass.state = .empty) ∧
    (lineState 4 (presentSlot 0) none { done with state := .inFlight }).ml.pass.state = .inFlight ∧
    (lineState 4 (presentSlot 0) none done).ml.pass = ⟨.done, some 7, some .write, some 9, some 5, some .answered, some .accepted, some 6⟩ :=
  ⟨served_inRun, by decide, by decide, by decide, by decide +kernel, by decide +kernel, by decide +kernel, by decide +kernel, by decide +kernel,
    by decide +kernel, by decide +kernel⟩

theorem witness_LineEnableOpensAndCloses :
    let queued : PassRecord := ⟨.queued, some 7, some .read, some 9, none, none, none, none⟩
    inStandby.Served ∧ 2 ≤ (2 : Byte).toNat ∧ inStandby.sc.opState ≠ .run ∧ inRun.ml.line = .off ∧ inRun.Served ∧
    (inState .run [(431, 3)]).wm.slotKind 7 = .airMonitor ∧
    ((lineState 1 (presentSlot 0) none queued).ml.line = .on ∧ (lineState 1 (presentSlot 0) none queued).ml.pass.state = .queued ∧
      (lineState 1 (presentSlot 0) none queued).ml.pass.slot = some 7) ∧
    (let silent (s : State) (h : Fin 2) : Bool := match s.wm.driveSlotOf h with
       | some i => decide ((s.slot i).state ≠ .present)
       | none => true
     let left : List (Fin 2) := [0, 1]
     (lineState 1 (presentSlot 0) (some (exchangeOf .probe .probe false .sending)) queued).ml.exchange.isSome ∧
       left.dropWhile (silent (lineState 1 (presentSlot 0) none queued)) = 0 :: [1] ∧
       left.dropWhile (silent (lineState 2 (presentSlot 0) none queued)) = 1 :: [] ∧
       (lineState 2 (presentSlot 0) none queued).wm.driveSlotOf 1 = some 7 ∧
       left.dropWhile (silent (lineState 2 Slot.reset none queued)) = [] ∧ (lineState 2 Slot.reset none queued).ml.exchange = none) :=
  ⟨served_inStandby, by decide, by decide, rfl, served_inRun, by decide +kernel, by decide +kernel, by decide +kernel⟩

/-- RUN with the line ON and free: slot 8 of a kind and PRESENT with both timers running, both drives asking for it, what waits for it. -/
def freeLine (kind : Int) (d0 d1 : Bool) (p : PassRecord) (due : Slot → Slot) : State :=
  let s := lineState kind (due { presentSlot 0 with probeTimer := some 1, readTimer := some 1 }) none p
  { s with
    hs := { s.hs with handlers := s.hs.handlers.map fun x => { x with mode := .heat, driveSlot := some 7 } }
    ml := { s.ml with drivePending := #v[d0, d1] } }

/-- A CLOSING line at a second try's end, with closing stops left for handlers that have slot 8 as their drive's. -/
def closingLine (left : List (Fin 2)) (x : Slot) : State :=
  let s := lineState 1 x (some (exchangeOf (.closingStop 0) (.driveCommand false .heat 0) true .awaiting)) PassRecord.empty
  { s with
    hs := { s.hs with handlers := s.hs.handlers.map fun x => { x with driveSlot := some 7 } }
    ml := { s.ml with line := .closing, closingLeft := left } }

theorem witness_ExchangesAreTriedTwice :
    let drive (second : Bool) (p : TryPhase) := some (exchangeOf (.drive 0) (.driveCommand true .heat 620) second p)
    inRun.ml.exchange = none ∧ (lineState 1 (presentSlot 0) (drive false .sending) PassRecord.empty).ml.exchange = drive false .sending ∧
    (lineState 1 (presentSlot 0) (drive false .awaiting) PassRecord.empty).ml.exchange = drive false .awaiting ∧
    (((lineState 1 (presentSlot 1) (drive true .awaiting) PassRecord.empty).slot 7).failed < 2 ∧
      ((lineState 1 (presentSlot 1) (drive true .awaiting) PassRecord.empty).slot 7).state = .present) ∧
    2 ≤ ((lineState 1 (presentSlot 2) (drive true .abandoned) PassRecord.empty).slot 7).failed ∧
    ((lineState 1 Slot.reset (some (exchangeOf .probe .probe true .awaiting)) PassRecord.empty).slot 7).state ≠ .present ∧
    (exchangeOf .passThrough (.itemRead 0) true .awaiting).cls = .passThrough ∧ (inRun.slot 7).probeTimer = none ∧ (inRun.slot 7).readTimer = none ∧
    (let s : State := { inRun with ml := { inRun.ml with slots := inRun.ml.slots.set 7 { Slot.reset with probeTimer := some 1, readTimer := some 1 } } }
     (s.slot 7).probeTimer.isSome ∧ (s.slot 7).readTimer.isSome ∧ s.ml.line ≠ .on ∧ s.lu.takeNext = s.lu) ∧
    (let queued : PassRecord := ⟨.queued, some 7, some .write, some 9, some 5, none, none, none⟩
     let free (d0 d1 : Bool) := freeLine 1 d0 d1 queued id
     let drives (s : State) (h : Fin 2) : Prop := s.ml.drivePending[h] = true ∧ (s.handler h).driveSlot = some 7 ∧ (s.slot 7).state = .present
     ((free true true).ml.line = .on ∧ (free true true).ml.exchange = none ∧ ((free true true).slot 7).probeTimer.isSome ∧
       ((free true true).slot 7).readTimer.isSome ∧ drives (free true true) 0) ∧
     ((free false true).ml.drivePending[(0 : Fin 2)] = false ∧ drives (free false true) 1) ∧
     ((free false false).ml.drivePending = #v[false, false] ∧ (free false false).ml.pass.state = .queued ∧
       (free false false).wm.slotKind 7 = .compressorDrive 0 ∧ ((free false false).handler 0).mode = .heat) ∧
     ((freeLine 4 false false queued id).wm.slotKind 7 = .generic ∧ (freeLine 4 false false queued id).ml.pass.slot = some 7) ∧
     (freeLine 3 false false PassRecord.empty id).ml.pass.state ≠ .queued ∧
     ((freeLine 3 false false PassRecord.empty fun x => { x with readDue := true }).slot 7).readDue = true ∧
     ((freeLine 3 false false PassRecord.empty fun x => { x with probeDue := true }).slot 7).readDue = false) ∧
    (let left (s : State) := s.ml.closingLeft.dropWhile fun h => match (s.handler h).driveSlot with
       | some i => decide ((s.slot i).state ≠ .present)
       | none => true
     left (closingLine [1] (presentSlot 1)) = 1 :: [] ∧ left (closingLine [] (presentSlot 1)) = [] ∧
       ((closingLine [1] (presentSlot 1)).slot 7).failed < 2 ∧ (closingLine [1] (presentSlot 1)).ml.line = .closing) := by decide +kernel

theorem witness_GoodModuleAnswersTakeEffect :
    let drive := exchangeOf (.drive 0) (.driveCommand true .heat 620) false .awaiting
    let probe := exchangeOf .probe .probe false .awaiting
    (lineState 1 (presentSlot 0) (some drive) PassRecord.empty).ml.exchange = some drive ∧ drive.phase = .awaiting ∧ drive.detached = false ∧
    ((lineState 1 (presentSlot 0) (some drive) PassRecord.empty).slot 7).state = .present ∧
    ((lineState 1 (presentSlot 0) (some drive) PassRecord.empty).slot 7).drive = some ⟨.ready, 0, 0, 0⟩ ∧ DriveState.ready ≠ .fault ∧
    (exchangeOf .monitorRead .readItems false .awaiting).request = .readItems ∧
    ((lineState 3 Slot.reset (some probe) PassRecord.empty).wm.slotKind probe.slot = .airMonitor ∧ (2 : Byte).toNat ≤ 2 ∧
      ((lineState 3 Slot.reset (some probe) PassRecord.empty).slot 7).state ≠ .present) ∧
    (exchangeOf .passThrough (.itemRead 255) false .awaiting).request = .itemRead 255 ∧
    (exchangeOf .passThrough (.itemWrite 3 0x8000) false .awaiting).request = .itemWrite 3 0x8000 ∧
    ((lineState 1 (presentSlot 0) (some drive) PassRecord.empty).ml.line = .on ∧
      (lineState 1 (presentSlot 0) (some drive) PassRecord.empty).wm.driveSlotOf 0 = some 7) ∧
    ((lineState 1 Slot.reset (some probe) PassRecord.empty).wm.slotKind 7 = .compressorDrive 0 ∧
      (lineState 3 Slot.reset (some probe) PassRecord.empty).wm.slotKind 7 ≠ .generic ∧ ModuleType.drive ≠ .monitor) ∧
    ([0, 1, 2, 3, 4] : List Byte).length ≠ 6 ∧ 3 ≤ (3 : Byte).toNat ∧ 2 ≤ (2 : Byte).toNat ∧
    ((let s := lineState 4 (presentSlot 2) (some (exchangeOf .passThrough (.itemWrite 3 0x8000) false .awaiting)) PassRecord.empty
      s.wm.slotKind 7 = .generic ∧ (s.slot 7).state = .present ∧ (3 : Byte).toNat = (3 : Fin 4).val)) ∧
    (inState .run [(355, 1), (356, 63)]).wm.pointSource 31 = .slot 7 3 := by decide +kernel

theorem witness_StandbyAndResume :
    inStandby.Served ∧ inRun.Served ∧ inStandby.sc.opState = .standby ∧ inRun.sc.opState = .run ∧ inStandby.sc.parkRequest = false ∧
    ({ inStandby with sc := { inStandby.sc with parkRequest := true } } : State).sc.parkRequest = true ∧
    (inStandby.ml.line = .off ∧ inStandby.ml.hostEnable = .on) ∧ inRun.lu.transmitter = .idle ∧
    ((atStageFour .none 700 { Handler.reset with mode := .defrost, comp := .running } .forced).handler 0).mode = .defrost :=
  ⟨served_inStandby, served_inRun, rfl, rfl, rfl, rfl, ⟨rfl, rfl⟩, rfl, by decide +kernel⟩

theorem witness_ParkCadenceAndRestartAreChecked :
    inRun.Served ∧ inStandby.Served ∧ (∃ b, (inStandby.bank b).trim ≠ .idle) ∧
    (¬ (∃ b, ((banksIdle inStandby).bank b).trim ≠ .idle) ∧ (banksIdle inStandby).pl.saveState ≠ .saving ∧ (banksIdle inStandby).ml.line ≠ .closing) ∧
    2 ≤ (2 : Byte).toNat ∧ ({ inStandby with pl := { inStandby.pl with saveState := .saving } } : State).pl.saveState = .saving ∧
    inStandby.pl.saveState = .idle := ⟨served_inRun, served_inStandby, ⟨0, by decide⟩, by decide, by decide, rfl, rfl⟩

theorem witness_ParkingAndWaking :
    let parked (held : Bool) : State := { inStandby with lu := { inStandby.lu with after := .park }, sc := { inStandby.sc with wakeHeld := held } }
    let woken (o : OpState) (request : Bool) : State :=
      { inState o [] with
        sc := { (inState o []).sc with wakeDebounce := some 1, parkRequest := request }, pins := { inRun.pins with wake := .active } }
    inStandby.lu.after ≠ .park ∧ (parked false).lu.after = .park ∧ (parked true).sc.wakeHeld = true ∧ inRun.sc.wakeDebounce = none ∧
    ((woken .run false).sc.wakeDebounce.isSome ∧ (woken .run false).sc.wakeLine = .inactive ∧ (woken .run false).pins.wake = .active ∧
      (woken .run false).lu.takeNext = (woken .run false).lu) ∧
    (woken .standby true).sc.parkRequest = true ∧ (woken .standby false).sc.parkRequest = false ∧ (woken .parked false).sc.opState = .parked ∧
    ({ woken .run false with pins := inRun.pins } : State).pins.wake = .inactive ∧
    (let s : State := { woken .parked false with lu := { (woken .parked false).lu with queue := [.moduleLost] } }
     s.sc.opState = .parked ∧ s.sc.wakeDebounce.isSome ∧ s.lu.queue = [.moduleLost] ∧ s.lu.transmitter = .idle) := by decide +kernel

theorem witness_RestartTakesEffect :
    inRun.lu.after ≠ .restart ∧ ({ inRun with lu := { inRun.lu with after := .restart } } : State).lu.after = .restart ∧
    inRun.su.pass = .none ∧ (passState (.supply [0]) inRun).su.pass ≠ .none := by decide +kernel

/-- STANDBY with a save at a page. -/
def savingAt (page : Nat) : State :=
  { inStandby with pl := { inStandby.pl with saveState := .saving, snapshot := some WorkingMemory.blank, savePage := page } }

theorem witness_HardResetStartsAfresh :
    inStandby.pl.saveState = .idle ∧ (savingAt 15).MemoryCanonical ∧ (savingAt 15).pl.snapshot = some WorkingMemory.blank :=
  ⟨rfl, rfl, rfl⟩

theorem witness_LoadInstallsAProfile :
    inRun.pl.loadState ≠ .loading ∧ State.reset.pl.loadState = .loading ∧ State.reset.eeprom.loadFault false = some 1 ∧
    (∃ cause, State.reset.eeprom.loadFault true = some cause) ∧
    (State.reset.sc.opState = .loading ∧ (∀ k, (State.reset.lu.event k).enable = false) ∧ State.reset.lu.queue = [] ∧
      State.reset.lu.after = .none ∧ State.reset.lu.answer = none ∧ State.reset.lu.overrunReject = none) ∧
    (State.reset.lu.transmitter = .idle ∧ State.reset.su.pass = .none) ∧
    look (.profileLoadComplete false) State.reset
      (fun t => EventKind.all.filter fun k => (t.lu.event k).latched && (t.wm.word 29).getLsbD k.index) = some [.profileFault] :=
  ⟨by decide, rfl, rfl, ⟨2, by decide +kernel⟩, ⟨rfl, fun k => by cases k <;> rfl, rfl, rfl, rfl, rfl⟩, ⟨rfl, rfl⟩, by decide +kernel⟩

theorem witness_SetParamWritesOneParameter :
    let s := inStandby
    s.Served ∧ inRange 512 0 = false ∧ inRange 0 101 = false ∧ (inRange 0 100 = true ∧ (0 : Nat) ∈ (mapState .run [0]).wm.locks) ∧
    (inRange 424 4 = true ∧ structural 424 = true ∧ inRun.sc.opState = .run ∧ 424 ∉ inRun.wm.locks) ∧
    (inRange 361 256 = true ∧ 361 ∉ s.wm.locks ∧ s.sc.opState = .standby ∧ s.wm.word 361 ≠ 256) ∧
    (inRange 0 0 = true ∧ structural 0 = false ∧ s.wm.word 0 = 0) ∧ (inRange 420 51 = true ∧ 420 = 360 + 4 * (15 : Fin 16).val) ∧
    431 = 424 + (7 : Fin 8).val ∧
    ((∀ n ∈ [87, 88, 197, 198], inRange n 15 = true ∧ n ∉ s.wm.locks ∧ s.wm.word n ≠ 15 ∧ (n % 10 = 7 ∨ n % 10 = 8)) ∧
      (inRange 421 256 = true ∧ 421 = 360 + 4 * (15 : Fin 16).val + (1 : Fin 4).val) ∧ (inRange 422 3 = true ∧ inRange 423 1 = true) ∧
      (inRange 355 1 = true ∧ 355 = 200 + 5 * (31 : Fin 32).val + (0 : Fin 5).val ∧ s.wm.pointEnabled 31 = false) ∧
      (inRange 359 6 = true ∧ 359 = 200 + 5 * (31 : Fin 32).val + (4 : Fin 5).val ∧ (mapState .standby []).wm.pointEnabled 31 = true ∧
        (mapState .standby []).sourceFailed 31 = none) ∧
      (inRange 356 63 = true ∧ ({ mapState .standby [] with
        pl := { (mapState .standby []).pl with wm := (mapState .standby []).wm.put 356 63 } } : State).sourceFailed 31 ≠ none)) :=
  ⟨served_inStandby, by decide, by decide, by decide +kernel, by decide +kernel, by decide +kernel, by decide +kernel, by decide, rfl,
    by decide +kernel⟩

theorem witness_SavesWriteTheSnapshot :
    inStandby.Served ∧ inStandby.pl.saveState = .idle ∧ (savingAt 0).Served ∧ (savingAt 0).pl.saveState = .saving ∧
    ((savingAt 15).MemoryCanonical ∧ (savingAt 15).pl.snapshot = some WorkingMemory.blank ∧ (savingAt 15).pl.savePage = 15) ∧
    15 + 1 = (991 + 2 * WorkingMemory.blank.locks.length + 63) / 64 ∧ 14 + 1 < (991 + 2 * WorkingMemory.blank.locks.length + 63) / 64 :=
  ⟨served_inStandby, rfl, ⟨.inr rfl, rfl⟩, rfl, ⟨rfl, rfl, rfl⟩, rfl, by decide⟩

/-- The part before its load, with a valid image in its EEPROM. -/
def stored : State := { State.reset with eeprom := (⟨[]⟩ : Memory).writeBytes 0 lowMemory.image }

theorem stored_reads {i : Nat} {b : Byte} (h : lowMemory.image[i]? = some b) : stored.eeprom.read i = b := by
  have hi := (List.getElem?_eq_some_iff.mp h).1
  rw [stored, Memory.read_writeBytes rfl, if_pos ⟨Nat.zero_le i, by omega⟩, Nat.sub_zero, h]
  rfl

theorem witness_SavedImageLoads :
    lowMemory.valid = true ∧ ∃ m : Memory, ∀ i b, lowMemory.image[i]? = some b → m.read i = b :=
  ⟨lowMemory_valid, stored.eeprom, fun _ _ h => stored_reads h⟩

/-- A valid profile with nothing latched leaves no notice due at the load; a frame may be under way then. -/
theorem witness_LoadInstallsAStoredProfile :
    stored.pl.loadState = .loading ∧ (Obligations.SavedImageLoads → stored.eeprom.loadFault true = none) ∧
    (∀ k, (stored.lu.event k).latched = false) ∧
    ({ stored with lu := { stored.lu with transmitter := .sending .answer ⟨0x81, [0]⟩ [] } } : State).lu.transmitter ≠ .idle :=
  ⟨rfl, fun saved => (saved stored.eeprom lowMemory lowMemory_valid fun _ _ h => stored_reads h).1, fun k => by cases k <;> rfl, nofun⟩

theorem witness_ReadRequestsAnswerTheirRecords :
    inRun.Served ∧ (let run (first count : Byte) (n : Nat) := first.toNat < n ∧ 1 ≤ count.toNat ∧ first.toNat + count.toNat ≤ n
      run 0 12 12 ∧ run 11 1 12 ∧ ¬ run 11 2 12 ∧ ¬ run 12 1 12 ∧ ¬ run 0 0 12 ∧ run 0 32 32 ∧ run 31 1 32 ∧ ¬ run 0 33 32 ∧ run 0 16 16 ∧
        run 15 1 16 ∧ ¬ run 15 2 16) ∧ (31 : Word16).toNat ≤ 31 ∧ 40 ≤ (40 : Word16).toNat ∧ (497 : Word16).toNat ≤ 497 ∧
    (¬ ((79 : Word16).toNat ≤ 31 ∨ (40 ≤ (79 : Word16).toNat ∧ (79 : Word16).toNat ≤ 78) ∨ (80 ≤ (79 : Word16).toNat ∧ (79 : Word16).toNat ≤ 497))) ∧
    inRun.ml.exchange = none ∧
    (lineState 4 (presentSlot 0) (some (exchangeOf .probe .probe false .sending)) PassRecord.empty).ml.exchange =
      some (exchangeOf .probe .probe false .sending) :=
  ⟨served_inRun, by decide, by decide, by decide, by decide, by decide, rfl, rfl⟩

/-! Right after a hard reset each invariant holds and a step is made. -/

theorem witness_StepKeepsBalancesBounded : State.reset.BalancesBounded ∧ ∃ t, step State.reset = .next t :=
  ⟨by unfold State.BalancesBounded; decide, _, rfl⟩

theorem witness_StepKeepsGrantConsistent : State.reset.GrantConsistent ∧ ∃ t, step State.reset = .next t :=
  ⟨rfl, _, rfl⟩

theorem witness_StepKeepsQueueBounded : State.reset.QueueBounded ∧ ∃ t, step State.reset = .next t :=
  ⟨by unfold State.QueueBounded; decide, _, rfl⟩

theorem witness_StepKeepsMemoryCanonical : State.reset.MemoryCanonical ∧ ∃ t, step State.reset = .next t :=
  ⟨rfl, _, rfl⟩

theorem witness_StepKeepsOutputsGated : State.reset.OutputsGated ∧ ∃ t, step State.reset = .next t := by
  refine ⟨?_, _, rfl⟩
  unfold State.OutputsGated
  decide +kernel

theorem witness_StepKeepsRecordWithinGrant : State.reset.RecordWithinGrant ∧ ∃ t, step State.reset = .next t :=
  ⟨by unfold State.RecordWithinGrant; decide, _, rfl⟩

end Sys2Proof.Tests
end

/-! ## Power allotment (03): the power bound (R53)

The bound is kept step by step: step 1 leaves the fixed commands within the fixed power and that within the grant, steps 2 and 3 keep
the running total within the grant, and step 4 keeps the reheat within what the compressors leave. -/

namespace Sys2Proof.Machine

/-! ### The allotment's sums -/

theorem sumHandlers_eq_sum (p : Fin 2 → Nat) : sumHandlers p = ∑ h, p h := (Fin.sum_univ_two p).symm

theorem sumZones_eq_sum (p : Fin 12 → Nat) : sumZones p = ∑ z, p z := by
  rw [sumZones, Fin.sum_univ_def, List.sum_eq_foldl, List.foldl_map]

theorem sumHandlers_le_sumHandlers {p q : Fin 2 → Nat} (hle : ∀ h, p h ≤ q h) : sumHandlers p ≤ sumHandlers q :=
  Nat.add_le_add (hle 0) (hle 1)

/-- Handing one handler another command moves the compressor power by that handler's share alone. -/
theorem compressorPower_set (r : RequestSet) (q : Vector Nat 2) (h : Fin 2) (c : Nat) :
    compressorPower r (q.set h c) + (r.handlers[h]).rating * q[h] = compressorPower r q + (r.handlers[h]).rating * c := by
  match h with
  | 0 => simp [compressorPower, sumHandlers]; omega
  | 1 => simp [compressorPower, sumHandlers]; omega

/-! ### Step 1: the fixed power (R48) -/

/-- The fixed commands draw no more than the fixed power, which the grant covers. A handler both running a defrost and candidate for
one is counted twice in the fixed power, so the first part is no equation. -/
def Fixed.Covered (cap : Nat) (r : RequestSet) (x : Fixed) : Prop := compressorPower r x.command ≤ x.power ∧ x.power ≤ cap

theorem fixOne_covered {cap qDef : Nat} {r : RequestSet} {x : Fixed} (mark : RequestHandler → Bool) (yes no : FixedOutcome) (h : Fin 2)
    (hx : x.Covered cap r) : (fixOne cap qDef r mark yes no h x).Covered cap r := by
  obtain ⟨hdraw, hcap⟩ := hx
  have hset := compressorPower_set r x.command h
  unfold fixOne
  split
  case isFalse => exact ⟨hdraw, hcap⟩
  case isTrue =>
    dsimp only
    split
    case isTrue hfits =>
      have := hset qDef
      exact ⟨by dsimp only; omega, hfits⟩
    case isFalse =>
      have := hset 0
      exact ⟨by dsimp only; omega, hcap⟩

theorem fixedRequests_covered (cap qDef : Nat) (r : RequestSet) : (fixedRequests cap qDef r).Covered cap r := by
  have hstart : (⟨0, Vector.replicate 2 .none, Vector.replicate 2 0⟩ : Fixed).Covered cap r :=
    ⟨by simp [compressorPower, sumHandlers], Nat.zero_le cap⟩
  exact fixOne_covered _ _ _ 1 (fixOne_covered _ _ _ 0 (fixOne_covered _ _ _ 1 (fixOne_covered _ _ _ 0 hstart)))

/-! ### Scaling (R49, R52) -/

theorem mul_scaleOf_le (want avail : Nat) : want * scaleOf want avail ≤ 1000 * avail := by
  unfold scaleOf
  split
  case isTrue hfits => omega
  case isFalse => exact Nat.mul_div_le (1000 * avail) want

/-- Requests scaled to what is available draw no more than that: each rounds down, and so does the scale. -/
theorem sum_scaled_le {n : Nat} (w x : Fin n → Nat) (avail : Nat) :
    ∑ i, w i * (x i * scaleOf (∑ i, w i * x i) avail / 1000) ≤ avail := by
  set s := scaleOf (∑ i, w i * x i) avail
  refine Nat.le_of_mul_le_mul_left ?_ (by decide : 0 < 1000)
  calc 1000 * ∑ i, w i * (x i * s / 1000)
      = ∑ i, w i * (1000 * (x i * s / 1000)) := by simp only [Finset.mul_sum, Nat.mul_left_comm]
    _ ≤ ∑ i, w i * (x i * s) := Finset.sum_le_sum fun i _ => Nat.mul_le_mul_left _ (Nat.mul_div_le _ _)
    _ = (∑ i, w i * x i) * s := by simp only [Finset.sum_mul, Nat.mul_assoc]
    _ ≤ 1000 * avail := mul_scaleOf_le _ _

/-! ### Steps 2 and 3: the running total (R49, R50) -/

theorem runningTotal_scaledCommands_le {cap : Nat} {r : RequestSet} {f : Fixed} (hf : f.Covered cap r) :
    runningTotal r f (scaledCommands r f (scaleOf (variableWant r f) (cap - f.power))) ≤ cap := by
  obtain ⟨-, hcap⟩ := hf
  have hscaled := sum_scaled_le (fun h => if isVariable r f h then (r.handlers[h]).rating else 0)
    (fun h => (r.handlers[h]).qReq) (cap - f.power)
  have hshare : ∑ h, (if isVariable r f h then (r.handlers[h]).rating *
      (scaledCommands r f (scaleOf (variableWant r f) (cap - f.power)))[h] else 0) ≤ cap - f.power := by
    refine (Finset.sum_le_sum fun h _ => ?_).trans hscaled
    by_cases hv : isVariable r f h <;> simp [hv, scaledCommands, variableWant, sumHandlers_eq_sum, ite_mul]
  rw [runningTotal, sumHandlers_eq_sum]
  omega

theorem runningTotal_set_zero_le (r : RequestSet) (f : Fixed) (q : Vector Nat 2) (h : Fin 2) :
    runningTotal r f (q.set h 0) ≤ runningTotal r f q := by
  refine Nat.add_le_add_left (sumHandlers_le_sumHandlers fun k => ?_) _
  split
  case isTrue =>
    refine Nat.mul_le_mul_left _ ?_
    simp only [Fin.getElem_fin, Vector.getElem_set]
    split <;> omega
  case isFalse => exact Nat.le_refl 0

theorem runningTotal_sweepOne_le {cap qMin : Nat} {r : RequestSet} {f : Fixed} {q : Vector Nat 2} (h : Fin 2)
    (hq : runningTotal r f q ≤ cap) : runningTotal r f (sweepOne cap qMin r f h q) ≤ cap := by
  unfold sweepOne
  split
  case isFalse => exact hq
  case isTrue =>
    split
    case isTrue hfits => exact hfits
    case isFalse => exact (runningTotal_set_zero_le r f q h).trans hq

/-- The sweep leaves a command that is not variable as it is. -/
theorem sweepOne_getElem_of_not_isVariable {cap qMin : Nat} {r : RequestSet} {f : Fixed} (q : Vector Nat 2) (h : Fin 2) {k : Fin 2}
    (hk : ¬ isVariable r f k) : (sweepOne cap qMin r f h q)[k] = q[k] := by
  unfold sweepOne
  split
  case isFalse => rfl
  case isTrue hvar =>
    have hne : h.val ≠ k.val := fun e => hk (Fin.ext e ▸ hvar.1)
    split <;> exact Vector.getElem_set_ne _ _ hne

theorem grantedCommands_getElem_of_not_isVariable {cap qMin : Nat} {r : RequestSet} {f : Fixed} (scale : Nat) {h : Fin 2}
    (hh : ¬ isVariable r f h) : (grantedCommands cap qMin r f scale)[h] = f.command[h] := by
  rw [grantedCommands, sweepOne_getElem_of_not_isVariable _ 1 hh, sweepOne_getElem_of_not_isVariable _ 0 hh]
  simp [scaledCommands, hh]

/-- The compressors draw no more than the running total, since the fixed power covers every command that is not variable. -/
theorem compressorPower_le_runningTotal {cap : Nat} {r : RequestSet} {f : Fixed} {q : Vector Nat 2} (hf : f.Covered cap r)
    (hq : ∀ h, ¬ isVariable r f h → q[h] = f.command[h]) : compressorPower r q ≤ runningTotal r f q := by
  obtain ⟨hdraw, -⟩ := hf
  refine Nat.le_trans ?_ (Nat.add_le_add_right hdraw _)
  simp only [compressorPower, sumHandlers_eq_sum, ← Finset.sum_add_distrib]
  refine Finset.sum_le_sum fun h _ => ?_
  by_cases hv : isVariable r f h
  · simp [hv]
  · simp [hv, hq h hv]

theorem compressorPower_grantedCommands_le {cap : Nat} (qMin : Nat) {r : RequestSet} {f : Fixed} (hf : f.Covered cap r) :
    compressorPower r (grantedCommands cap qMin r f (scaleOf (variableWant r f) (cap - f.power))) ≤ cap :=
  (compressorPower_le_runningTotal hf fun _ => grantedCommands_getElem_of_not_isVariable _).trans
    (runningTotal_sweepOne_le 1 (runningTotal_sweepOne_le 0 (runningTotal_scaledCommands_le hf)))

/-! ### Step 4: the reheat (R52) -/

theorem reheatPower_grantedDuties_le (r : RequestSet) (avail : Nat) :
    reheatPower r (grantedDuties r (scaleOf (reheatWant r) avail)) ≤ avail := by
  have hscaled := sum_scaled_le (fun z => (r.zones[z]).rating) (fun z => (r.zones[z]).request) avail
  simpa [reheatPower, reheatWant, grantedDuties, sumZones_eq_sum] using hscaled

/-! ### The whole allotment (R53) -/

theorem allot_total_le (g qMin qDef : Nat) (r : RequestSet) : (allot g qMin qDef r).total r ≤ 1000 * g := by
  have hcompressors := compressorPower_grantedCommands_le qMin (fixedRequests_covered (1000 * g) qDef r)
  exact (Nat.add_le_add_left (reheatPower_grantedDuties_le r _) _).trans (Nat.add_sub_of_le hcompressors).le

/-- The total of R53, written over what is handed on (R55). -/
theorem Made.total_eq_allotment_sums (m : Made) (r : RequestSet) :
    m.total r = ((List.finRange 2).map fun h => (r.handlers[h]).rating * ((m.allotment r).handlers[h]).command).sum
      + ((List.finRange 12).map fun z => (r.zones[z]).rating * ((m.allotment r).zones[z]).duty).sum := by
  simp [Made.total, compressorPower, reheatPower, sumHandlers_eq_sum, sumZones_eq_sum, Fin.sum_univ_def, Made.allotment]

/-- Settles O26: the total of an allotment is at most 1000 times its grant, and the record shows that total rounded down to watts. -/
theorem allotmentKeepsWithinTheGrant : Obligations.AllotmentKeepsWithinTheGrant := by
  intro g qMin qDef r
  dsimp only
  rw [← Made.total_eq_allotment_sums]
  have hle := allot_total_le g qMin qDef r
  exact ⟨hle, fun _ => ⟨rfl, Nat.div_le_of_le_mul hle⟩⟩

end Sys2Proof.Machine

/-! ## The event set (09): CLEAR_EVENTS (R159)

Clearing works kind by kind, so what the request leaves in the record of a kind and in the queue is proved by induction on the list of
kinds still to clear. The answer's mask is compared bit by bit, each bit being a kind's. -/

namespace Sys2Proof.Machine

/-! ### The kinds and their masks (R151, R170) -/

theorem EventKind.mem_all (k : EventKind) : k ∈ EventKind.all := by cases k <;> decide

theorem EventKind.exists_index_eq (i : Fin 16) : ∃ k : EventKind, k.index = i := by
  have hall : EventKind.all.map EventKind.index = List.finRange 16 := by decide
  obtain ⟨k, -, hk⟩ := List.mem_map.mp (hall ▸ List.mem_finRange i)
  exact ⟨k, hk⟩

theorem eq_of_getLsbD_index_eq {x y : Word16} (h : ∀ k : EventKind, x.getLsbD k.index = y.getLsbD k.index) : x = y := by
  refine BitVec.eq_of_getLsbD_eq fun i hi => ?_
  obtain ⟨k, hk⟩ := EventKind.exists_index_eq ⟨i, hi⟩
  simpa [hk] using h k

theorem getLsbD_foldl_setBits (f : Fin 16 → Bool) (i : Fin 16) (ks : List (Fin 16)) (m : Word16) :
    (ks.foldl (fun m k => if f k then m ||| (1#16 <<< k.val) else m) m).getLsbD i
      = (m.getLsbD i || (f i && decide (i ∈ ks))) := by
  induction ks generalizing m with
  | nil => simp
  | cons k ks ih =>
    have hbit : (1#16 <<< k.val).getLsbD i = decide (i = k) := by
      rw [← BitVec.twoPow_eq, BitVec.getLsbD_twoPow]
      simp [Fin.ext_iff, eq_comm]
    have hset : (if f k then m ||| (1#16 <<< k.val) else m).getLsbD i = (m.getLsbD i || (f k && decide (i = k))) := by
      cases f k
      · simp
      · simp only [if_true, BitVec.getLsbD_or, hbit, Bool.true_and]
    rw [List.foldl_cons, ih, hset, Bool.or_assoc]
    by_cases hik : i = k
    · subst hik
      cases f i <;> simp
    · simp [hik]

theorem getLsbD_maskOf (f : Fin 16 → Bool) (i : Fin 16) : (maskOf f).getLsbD i = f i := by
  rw [maskOf, getLsbD_foldl_setBits]
  simp

theorem LU.getLsbD_latchedMask (l : LU) (k : EventKind) : l.latchedMask.getLsbD k.index = (l.event k).latched :=
  getLsbD_maskOf _ _

/-! ### Clearing kinds (R159) -/

/-- The record of a kind once CLEAR_EVENTS has cleared it (R159): the enable alone stays. -/
def EventRecord.cleared (r : EventRecord) : EventRecord := { r with latched := false, subject := 0, value := 0 }

theorem LU.event_dropNotice (l : LU) (j k : EventKind) : (l.dropNotice j).event k = l.event k := rfl

theorem LU.event_clearKind (mask : Word16) (l : LU) (j k : EventKind) :
    (l.clearKind mask j).event k = if k = j ∧ mask.getLsbD j.index then (l.event k).cleared else l.event k := by
  unfold LU.clearKind
  split
  case isTrue hm =>
    rw [LU.event_dropNotice]
    by_cases hkj : k = j
    · subst hkj
      rw [LU.event_setEvent_same, if_pos ⟨rfl, hm⟩, EventRecord.cleared]
    · rw [LU.event_setEvent_other (Ne.symm hkj), if_neg fun h => hkj h.1]
  case isFalse hm => rw [if_neg fun h => hm h.2]

theorem LU.clearKind_queue (mask : Word16) (l : LU) (j : EventKind) :
    (l.clearKind mask j).queue = l.queue.filter fun k => !(decide (k = j) && mask.getLsbD j.index) := by
  unfold LU.clearKind
  cases mask.getLsbD j.index <;> simp [LU.dropNotice]

theorem LU.clearKind_frame (mask : Word16) (l : LU) (j : EventKind) :
    l.clearKind mask j = { l with events := (l.clearKind mask j).events, queue := (l.clearKind mask j).queue } := by
  unfold LU.clearKind
  split <;> rfl

theorem LU.event_foldl_clearKind (mask : Word16) (ks : List EventKind) (l : LU) (k : EventKind) :
    (ks.foldl (LU.clearKind mask) l).event k
      = if k ∈ ks ∧ mask.getLsbD k.index then (l.event k).cleared else l.event k := by
  induction ks generalizing l with
  | nil => simp
  | cons j ks ih =>
    rw [List.foldl_cons, ih, LU.event_clearKind]
    by_cases hkj : k = j
    · subst hkj
      cases mask.getLsbD k.index <;> simp [EventRecord.cleared]
    · simp [hkj]

theorem LU.foldl_clearKind_queue (mask : Word16) (ks : List EventKind) (l : LU) :
    (ks.foldl (LU.clearKind mask) l).queue = l.queue.filter fun k => !(decide (k ∈ ks) && mask.getLsbD k.index) := by
  induction ks generalizing l with
  | nil => simp
  | cons j ks ih =>
    rw [List.foldl_cons, ih, LU.clearKind_queue, List.filter_filter]
    refine List.filter_congr fun k _ => ?_
    by_cases hkj : k = j
    · subst hkj
      cases mask.getLsbD k.index <;> simp
    · simp [hkj]

theorem LU.foldl_clearKind_frame (mask : Word16) (ks : List EventKind) (l : LU) :
    ks.foldl (LU.clearKind mask) l = { l with
      events := (ks.foldl (LU.clearKind mask) l).events
      queue := (ks.foldl (LU.clearKind mask) l).queue } := by
  induction ks generalizing l with
  | nil => rfl
  | cons j ks ih =>
    rw [List.foldl_cons, ih, LU.clearKind_frame]

/-! ### CLEAR_EVENTS at the Link Unit (R159) -/

theorem LU.event_clearEvents (mask : Word16) (l : LU) (k : EventKind) :
    (l.clearEvents mask).event k = if mask.getLsbD k.index then (l.event k).cleared else l.event k := by
  simp [LU.clearEvents, LU.event_foldl_clearKind, EventKind.mem_all]

theorem LU.clearEvents_eq (mask : Word16) (l : LU) :
    l.clearEvents mask = { l with
      events := (l.clearEvents mask).events
      queue := l.queue.filter fun k => !mask.getLsbD k.index } := by
  have hqueue : (l.clearEvents mask).queue = l.queue.filter fun k => !mask.getLsbD k.index := by
    simp [LU.clearEvents, LU.foldl_clearKind_queue, EventKind.mem_all]
  rw [← hqueue]
  exact LU.foldl_clearKind_frame mask EventKind.all l

theorem LU.latchedMask_clearEvents (mask : Word16) (l : LU) :
    (l.clearEvents mask).latchedMask = l.latchedMask &&& ~~~mask := by
  refine eq_of_getLsbD_index_eq fun k => ?_
  rw [LU.getLsbD_latchedMask, LU.event_clearEvents, BitVec.getLsbD_and, LU.getLsbD_latchedMask, BitVec.getLsbD_not]
  cases mask.getLsbD k.index <;> simp [EventRecord.cleared]

/-! ### The answer (R148, R150) -/

@[simp] theorem LU.replied_events (l : LU) (kind : Byte) (payload content : List Byte) :
    (l.replied kind payload content).events = l.events := by
  unfold LU.replied
  dsimp only
  split <;> rfl

theorem LU.event_replied (l : LU) (kind : Byte) (payload content : List Byte) (k : EventKind) :
    (l.replied kind payload content).event k = l.event k := by
  rw [LU.event, LU.replied_events, LU.event]

/-- An answer puts its own request in hand, whatever was there. -/
theorem LU.replied_inHand (l : LU) (f : Option Frame) (kind : Byte) (payload content : List Byte) :
    { l with inHand := f }.replied kind payload content = l.replied kind payload content := by
  cases ht : l.transmitter <;> simp only [LU.replied, ht]

/-- A served CLEAR_EVENTS: the answer lists what is still latched (R159). -/
theorem exec_clearEvents_served (mask : Word16) {s : State} (h : s.Served) :
    exec (.clearEvents mask) s = .next (s.setLu
      (((s.withInHand 0x04 (wordBytes mask)).lu.clearEvents mask).replied 0x04 (wordBytes mask)
        ([0] ++ wordBytes (s.lu.latchedMask &&& ~~~mask)))) := by
  have ⟨hop, _⟩ := h
  set l := (s.withInHand 0x04 (wordBytes mask)).lu.clearEvents mask
  have hawake : (s.setLu l).sc.opState ≠ .parked := by rcases hop with hop | hop <;> simp [hop]
  have hlatched : l.latchedMask = s.lu.latchedMask &&& ~~~mask := LU.latchedMask_clearEvents mask _
  have hhand : (s.setLu l).lu.inHand = some ⟨0x04, wordBytes mask⟩ := congrArg LU.inHand (LU.clearEvents_eq mask _)
  calc exec (.clearEvents mask) s
      = request 0x04 (wordBytes mask) (dispatch 0x04 false (clearEventsOwner mask)) s := rfl
    _ = .next (kick (answerDue 0x04 ([0] ++ wordBytes l.latchedMask) (s.setLu l))) := request_served h _ _ _ _
    _ = .next (s.setLu (l.replied 0x04 (wordBytes mask) ([0] ++ wordBytes (s.lu.latchedMask &&& ~~~mask)))) := by
      rw [kick_answerDue hawake _ _ _ hhand, hlatched, State.setLu_lu, State.setLu_setLu]

/-- Settles O14: the request clears the masked kinds one by one, and its answer changes no event record. -/
theorem clearEventsClears : Obligations.ClearEventsClears := by
  intro mask s hs
  refine ⟨_, exec_clearEvents_served mask hs, rfl, fun k => ?_, ?_⟩
  · rw [State.setLu_lu, LU.event_replied, LU.event_clearEvents]
    rfl
  · rw [State.setLu_lu, LU.replied_events, LU.clearEvents_eq]
    exact LU.replied_inHand { s.lu with events := _, queue := _ } _ _ _ _

end Sys2Proof.Machine

/-! ## What a command ends in

Every command ends in a next state. `Ends P o` says so and that the state has property `P`; a property that the link's own work keeps is
kept by a request when its owner keeps it, and by the bytes of a frame likewise. -/

namespace Sys2Proof.Machine

/-- A command ends in a next state, and that state has the property. -/
def Ends (P : State → Prop) (o : Host.Outcome State Fault Refusal) : Prop := ∃ t, o = .next t ∧ P t

@[simp] theorem ends_next {P : State → Prop} {t : State} : Ends P (.next t) ↔ P t := by simp [Ends]

theorem Ends.of_eq {P : State → Prop} {o : Host.Outcome State Fault Refusal} {t : State} (h : Ends P o) (ht : o = .next t) : P t :=
  ends_next.mp (ht ▸ h)

theorem Ends.mono {P Q : State → Prop} {o : Host.Outcome State Fault Refusal} (h : Ends P o) (hPQ : ∀ t, P t → Q t) : Ends Q o :=
  h.imp fun t ⟨ho, ht⟩ => ⟨ho, hPQ t ht⟩

@[simp] theorem ends_ite {P : State → Prop} {c : Prop} [Decidable c] {a b : Host.Outcome State Fault Refusal} :
    Ends P (if c then a else b) ↔ if c then Ends P a else Ends P b := by split <;> rfl

/-- The owner of a request, and nothing for a command that is no request. -/
def requestOwner : Instr → State → State × List Byte
  | .identify => identifyOwner
  | .status => statusOwner
  | .setReports m => setReportsOwner m
  | .clearEvents m => clearEventsOwner m
  | .setSetpoints pairs => setSetpointsOwner pairs
  | .setZoneEnable z e => setZoneEnableOwner z e
  | .readZones f c => readZonesOwner f c
  | .readHandlers x => readHandlersOwner x
  | .grant w l => grantOwner w l
  | .readAllotment => readAllotmentOwner
  | .airHold v => airHoldOwner v
  | .renewNow h => renewNowOwner h
  | .readRenewals => readRenewalsOwner
  | .trim b => trimOwner b
  | .mapPoint p e so k c f => mapPointOwner p e so k c f
  | .readPoints f c => readPointsOwner f c
  | .override c a v => overrideOwner c a v
  | .readOutputs f c => readOutputsOwner f c
  | .pass i o it v => passOwner i o it v
  | .passResult => passResultOwner
  | .lineEnable v => lineEnableOwner v
  | .readModules => readModulesOwner
  | .standby => standbyOwner
  | .resume => resumeOwner
  | .park => parkOwner
  | .cadence v => cadenceOwner v
  | .restart => restartOwner
  | .getParam n => getParamOwner n
  | .setParam n v => setParamOwner n v
  | .saveProfile => saveProfileOwner
  | .hardReset _ | .profileLoadComplete _ | .rxByte _ | .gapTimeout | .txFrameEnd | .parkEntry | .restartEffect
  | .savePageComplete _ | .savePollTimeout | .regulationTimerExpiry | .demandSetReceived | .requestSetReceived
  | .allotmentAtHs | .allotmentAtZr | .ouValueReceived | .accountTimerExpiry | .restTimerExpiry _ | .dwellTimerExpiry _
  | .lifetimeExpiry | .intervalExpiry _ | .renewalComplete _ | .doorInputChange _ _ | .doorDebounceExpiry _
  | .doorTimerExpiry _ | .wakeInputChange _ | .wakeDebounceExpiry | .scanGapExpiry | .supplyConversion _
  | .fullTrim _ _ | .shortTrim _ _ | .tapReading _ | .trimIntervalExpiry | .pointStale _ | .periodEnd _ | .compareReached _
  | .moduleAnswerReceived _ | .moduleResponseTimeout | .moduleAnswerGap | .probeTimerExpiry _ | .readTimerExpiry _
  | .moduleRequestSent => fun s => (s, [])

/-- The requests that are answered in every state but PARKED (R149). -/
def servedAlways : Instr → Bool
  | .identify | .status => true
  | _ => false

/-- The link's own commands: a byte received, a gap, the end of a frame sent. -/
def onLink : Instr → Bool
  | .rxByte _ | .gapTimeout | .txFrameEnd => true
  | _ => false

/-- A request command is a frame of its kind that reaches the buffer (log 1). -/
theorem exec_eq_request {c : Instr} {k : Byte} {p : List Byte} (h : encodeRequest c = some (k, p)) (s : State) :
    exec c s = request k p (requestAct k c) s := by
  cases c <;> simp only [encodeRequest, Option.some.injEq, Prod.mk.injEq, reduceCtorEq] at h <;> obtain ⟨rfl, rfl⟩ := h <;> rfl

/-- What the Link Unit makes of a request with an owner (R149): it goes to its owner, and IDENTIFY and STATUS go there in every state. -/
theorem requestAct_eq_dispatch {c : Instr} {kp : Byte × List Byte} (hc : encodeRequest c = some kp)
    (hn : ∀ pairs, c ≠ .setSetpoints pairs) (k : Byte) : requestAct k c = dispatch k (servedAlways c) (requestOwner c) := by
  cases c <;> simp only [encodeRequest, reduceCtorEq] at hc
  case setSetpoints pairs => exact absurd rfl (hn pairs)
  all_goals simp only [requestAct, servedAlways, requestOwner]

theorem requestAct_setSetpoints {pairs : List (Byte × Word16)} (hl : 1 ≤ pairs.length ∧ pairs.length ≤ 12) (k : Byte) :
    requestAct k (.setSetpoints pairs) = dispatch 0x10 false (requestOwner (.setSetpoints pairs)) :=
  funext fun _ => if_pos hl

theorem requestAct_setSetpoints_badLength {pairs : List (Byte × Word16)} (hl : ¬ (1 ≤ pairs.length ∧ pairs.length ≤ 12)) (k : Byte) :
    requestAct k (.setSetpoints pairs) = answerDue 0x10 [codeBadLength] :=
  funext fun _ => if_neg hl

/-- A command that is no request is nothing to the Link Unit. -/
theorem requestAct_eq_id {c : Instr} (hc : encodeRequest c = none) (k : Byte) : requestAct k c = id := by
  cases c <;> simp only [encodeRequest, reduceCtorEq] at hc <;> rfl

/-- IDENTIFY and STATUS change nothing. -/
theorem requestOwner_fst_of_servedAlways {c : Instr} (hc : servedAlways c = true) (s : State) : (requestOwner c s).1 = s := by
  cases c <;> simp only [servedAlways, Bool.false_eq_true] at hc <;> rfl

/-! ### Properties that the link's own work keeps -/

/-- The part serves requests (R149): RUN or STANDBY. -/
def State.InService (s : State) : Prop := s.sc.opState = .run ∨ s.sc.opState = .standby

/-- A property that sees of the Link Unit at most the notice queue, and that the transmitter's next frame keeps. -/
structure LinkKeeps (P : State → Prop) : Prop where
  setLu : ∀ {s : State} (l : LU), l.queue = s.lu.queue → P s → P (s.setLu l)
  kick : ∀ {s : State}, P s → P (kick s)

/-- A property that does not see the Link Unit is one. -/
theorem LinkKeeps.of_setLu {P : State → Prop} (h : ∀ (s : State) (l : LU), P s → P (s.setLu l)) : LinkKeeps P where
  setLu l _ hs := h _ l hs
  kick {s} hs := by
    unfold Machine.kick
    split
    · exact hs
    · exact h s _ hs

section
variable {P : State → Prop} (hP : LinkKeeps P) {s : State}
include hP

theorem LinkKeeps.answerDue (k : Byte) (c : List Byte) (h : P s) : P (answerDue k c s) := hP.setLu _ rfl h

theorem LinkKeeps.rejectDue (x k : Byte) (h : P s) : P (rejectDue x k s) := hP.setLu _ rfl h

theorem LinkKeeps.stopReceiving (h : P s) : P (stopReceiving s) := hP.setLu _ rfl h

theorem LinkKeeps.keepReceiving (l : List Byte) (h : P s) : P (keepReceiving l s) := hP.setLu _ rfl h

theorem LinkKeeps.dispatch (k : Byte) (b : Bool) {owner : State → State × List Byte} (hs : s.sc.opState ≠ .parked)
    (hb : b = true → (owner s).1 = s) (howner : s.InService → P (owner s).1) (h : P s) : P (dispatch k b owner s) := by
  unfold Machine.dispatch
  split
  · exact hP.answerDue _ _ h
  · next hn =>
    refine hP.answerDue _ _ ?_
    cases b with
    | true => rwa [hb rfl]
    | false =>
      refine howner ?_
      unfold State.InService
      cases ho : s.sc.opState <;> simp_all

theorem LinkKeeps.requestAct (k : Byte) (c : Instr) (hs : s.sc.opState ≠ .parked) (howner : s.InService → P (requestOwner c s).1)
    (h : P s) : P (requestAct k c s) := by
  cases hc : encodeRequest c with
  | none => rwa [requestAct_eq_id hc]
  | some kp =>
    by_cases hn : ∀ pairs, c ≠ .setSetpoints pairs
    · rw [requestAct_eq_dispatch hc hn]
      exact hP.dispatch k _ hs (fun hb => requestOwner_fst_of_servedAlways hb s) howner h
    · push Not at hn
      obtain ⟨pairs, rfl⟩ := hn
      by_cases hl : 1 ≤ pairs.length ∧ pairs.length ≤ 12
      · rw [requestAct_setSetpoints hl]
        exact hP.dispatch 0x10 false hs (fun hb => absurd hb Bool.false_ne_true) howner h
      · rw [requestAct_setSetpoints_badLength hl]
        exact hP.answerDue _ _ h

theorem LinkKeeps.takeFrame (k : Byte) (p : List Byte) {act : State → State} (hs : s.sc.opState ≠ .parked)
    (hact : ∀ u : State, u.sc.opState ≠ .parked → P u → P (act u)) (h : P s) : P (takeFrame k p act s) := by
  unfold Machine.takeFrame
  split
  · exact hP.setLu _ rfl h
  · exact hP.kick (hact _ hs (hP.setLu _ rfl h))

theorem LinkKeeps.request (k : Byte) (p : List Byte) {act : State → State}
    (hact : ∀ u : State, u.sc.opState ≠ .parked → P u → P (act u)) (h : P s) : Ends P (request k p act s) := by
  unfold Machine.request
  split
  · exact ends_next.mpr h
  · next hs => exact ends_next.mpr (hP.takeFrame k p hs hact h)

variable (howner : ∀ (c : Instr) (u : State), u.InService → P u → P (requestOwner c u).1)
include howner

theorem LinkKeeps.readFrame (k : Byte) (p : List Byte) (good : Bool) (hs : s.sc.opState ≠ .parked) (h : P s) :
    P (readFrame k p good s) := by
  unfold Machine.readFrame
  split
  · exact hP.rejectDue _ _ h
  · split
    · exact hP.rejectDue _ _ h
    · exact hP.answerDue _ _ h
    · next i _ => exact hP.requestAct k i hs (fun hi => howner i s hi h) h

theorem LinkKeeps.completeFrame (bytes : List Byte) (hs : s.sc.opState ≠ .parked) (h : P s) : P (completeFrame bytes s) := by
  unfold Machine.completeFrame
  dsimp only
  split
  · exact hP.takeFrame _ _ hs (fun u hu hPu => hP.readFrame howner _ _ _ hu hPu) (hP.stopReceiving h)
  · exact hP.stopReceiving h

theorem LinkKeeps.receiveByte (bytes : List Byte) (hs : s.sc.opState ≠ .parked) (h : P s) : P (receiveByte bytes s) := by
  unfold Machine.receiveByte
  repeat' split
  · exact hP.keepReceiving _ h
  · exact hP.stopReceiving h
  · exact hP.keepReceiving _ h
  · exact hP.completeFrame howner _ hs h
  · exact hP.keepReceiving _ h

theorem LinkKeeps.execRxByte (b : Byte) (h : P s) : Ends P (execRxByte b s) := by
  unfold Machine.execRxByte
  split
  · exact ends_next.mpr h
  · next hs =>
    split
    · split
      · exact ends_next.mpr (hP.keepReceiving _ h)
      · exact ends_next.mpr h
    · exact ends_next.mpr (hP.receiveByte howner _ hs h)

omit howner in
theorem LinkKeeps.execTxFrameEnd (h : P s) : Ends P (execTxFrameEnd s) := by
  have hframe : s.lu.frameEnded.queue = s.lu.queue := by
    unfold LU.frameEnded LU.answerEnded
    dsimp only
    repeat' split
    all_goals rfl
  unfold Machine.execTxFrameEnd
  split
  · exact ends_next.mpr h
  · exact ends_next.mpr (hP.kick (hP.setLu _ hframe h))

omit howner in
theorem LinkKeeps.execGapTimeout (h : P s) : Ends P (execGapTimeout s) := by
  unfold Machine.execGapTimeout
  split
  · exact ends_next.mpr h
  · exact ends_next.mpr (hP.stopReceiving h)

/-- A property is kept by every command when the link, the owners of the requests and the part's own commands keep it. -/
theorem LinkKeeps.exec (hmoment : ∀ (c : Instr) (u : State), encodeRequest c = none → onLink c = false → P u → Ends P (exec c u))
    (c : Instr) (h : P s) : Ends P (exec c s) := by
  cases hc : encodeRequest c with
  | some kp =>
    rw [exec_eq_request hc]
    exact hP.request _ _ (fun u hu hPu => hP.requestAct _ c hu (fun hi => howner c u hi hPu) hPu) h
  | none =>
    cases hl : onLink c with
    | false => exact hmoment c s hc hl h
    | true =>
      cases c <;> simp only [onLink, Bool.false_eq_true] at hl
      case rxByte b => exact hP.execRxByte howner b h
      case gapTimeout => exact hP.execGapTimeout h
      case txFrameEnd => exact hP.execTxFrameEnd h
end

/-- A property that every command keeps, and the part by itself, is kept by every step. -/
theorem step_keeps {P : State → Prop} (hpending : ∀ (s : State) (l : List Instr), P s → P (s.setPending l))
    (htick : ∀ s, P s → P (tickTimers s)) (hexec : ∀ (c : Instr) (s : State), P s → Ends P (exec c s))
    {s t : State} (h : P s) (hst : step s = .next t) : P t := by
  unfold step at hst
  split at hst
  · cases hst
    unfold idle
    split
    · exact hpending _ _ h
    · exact hpending _ _ (htick s h)
  · exact (hexec _ _ (hpending _ _ h)).of_eq hst

end Sys2Proof.Machine

/-! ## The owners of the requests

What each request's owner leaves unchanged, block by block. The reading requests change nothing. -/

namespace Sys2Proof.Machine

variable (s : State)

@[simp] theorem identifyOwner_state : (identifyOwner s).1 = s := rfl

@[simp] theorem statusOwner_state : (statusOwner s).1 = s := rfl

@[simp] theorem readZonesOwner_state (f c : Byte) : (readZonesOwner f c s).1 = s := by
  unfold readZonesOwner
  split <;> rfl

@[simp] theorem readHandlersOwner_state (x : Byte) : (readHandlersOwner x s).1 = s := by
  simp only [readHandlersOwner]
  repeat' split
  all_goals rfl

@[simp] theorem readAllotmentOwner_state : (readAllotmentOwner s).1 = s := rfl

@[simp] theorem readRenewalsOwner_state : (readRenewalsOwner s).1 = s := rfl

@[simp] theorem readPointsOwner_state (f c : Byte) : (readPointsOwner f c s).1 = s := by
  unfold readPointsOwner
  split <;> rfl

@[simp] theorem readOutputsOwner_state (f c : Byte) : (readOutputsOwner f c s).1 = s := by
  unfold readOutputsOwner
  split <;> rfl

@[simp] theorem readModulesOwner_state : (readModulesOwner s).1 = s := rfl

@[simp] theorem getParamOwner_state (n : Word16) : (getParamOwner n s).1 = s := by
  simp only [getParamOwner]
  split <;> rfl

@[simp] theorem setReportsOwner_state (m : Word16) : (setReportsOwner m s).1 = s.setLu (s.lu.setReports m) := rfl

@[simp] theorem clearEventsOwner_state (m : Word16) : (clearEventsOwner m s).1 = s.setLu (s.lu.clearEvents m) := rfl

theorem foldl_applyPair_frame (l : List (Byte × Word16)) : l.foldl applyPair s = s.setZr (l.foldl applyPair s).zr := by
  induction l generalizing s with
  | nil => rfl
  | cons p l ih =>
    have hp : applyPair s p = s.setZr (applyPair s p).zr := by
      unfold applyPair
      split <;> rfl
    rw [List.foldl_cons, ih, hp]
    rfl

theorem setSetpointsOwner_state (l : List (Byte × Word16)) :
    (setSetpointsOwner l s).1 = s.setZr (setSetpointsOwner l s).1.zr := by
  unfold setSetpointsOwner
  split
  · rfl
  · exact foldl_applyPair_frame s l

@[simp] theorem setSetpointsOwner_frame (l : List (Byte × Word16)) :
    (setSetpointsOwner l s).1.hs = s.hs ∧ (setSetpointsOwner l s).1.pa = s.pa ∧ (setSetpointsOwner l s).1.rs = s.rs ∧
      (setSetpointsOwner l s).1.su = s.su ∧ (setSetpointsOwner l s).1.ou = s.ou ∧ (setSetpointsOwner l s).1.ml = s.ml ∧
      (setSetpointsOwner l s).1.sc = s.sc ∧ (setSetpointsOwner l s).1.lu = s.lu ∧ (setSetpointsOwner l s).1.pl = s.pl ∧
      (setSetpointsOwner l s).1.bus = s.bus ∧ (setSetpointsOwner l s).1.pins = s.pins ∧
      (setSetpointsOwner l s).1.eeprom = s.eeprom ∧ (setSetpointsOwner l s).1.tenth = s.tenth ∧
      (setSetpointsOwner l s).1.free = s.free ∧ (setSetpointsOwner l s).1.pending = s.pending := by
  rw [setSetpointsOwner_state]
  simp

theorem setZoneEnableOwner_state (z e : Byte) : (setZoneEnableOwner z e s).1 = s.setZr (setZoneEnableOwner z e s).1.zr := by
  unfold setZoneEnableOwner
  split <;> rfl

@[simp] theorem setZoneEnableOwner_frame (z e : Byte) :
    (setZoneEnableOwner z e s).1.hs = s.hs ∧ (setZoneEnableOwner z e s).1.pa = s.pa ∧ (setZoneEnableOwner z e s).1.rs = s.rs ∧
      (setZoneEnableOwner z e s).1.su = s.su ∧ (setZoneEnableOwner z e s).1.ou = s.ou ∧
      (setZoneEnableOwner z e s).1.ml = s.ml ∧ (setZoneEnableOwner z e s).1.sc = s.sc ∧
      (setZoneEnableOwner z e s).1.lu = s.lu ∧ (setZoneEnableOwner z e s).1.pl = s.pl ∧
      (setZoneEnableOwner z e s).1.bus = s.bus ∧ (setZoneEnableOwner z e s).1.pins = s.pins ∧
      (setZoneEnableOwner z e s).1.eeprom = s.eeprom ∧ (setZoneEnableOwner z e s).1.tenth = s.tenth ∧
      (setZoneEnableOwner z e s).1.free = s.free ∧ (setZoneEnableOwner z e s).1.pending = s.pending := by
  rw [setZoneEnableOwner_state]
  simp

@[simp] theorem grantOwner_state (w : Word16) (l : Byte) :
    (grantOwner w l s).1 = s.setPa { s.pa with
      liveGrant := min w.toNat 60000, lifetime := max 1 (min l.toNat 120), live := true
      timer := some (sec (max 1 (min l.toNat 120))) } := rfl

@[simp] theorem airHoldOwner_frame (v : Byte) :
    (airHoldOwner v s).1.zr = s.zr ∧ (airHoldOwner v s).1.pa = s.pa ∧ (airHoldOwner v s).1.su = s.su ∧
      (airHoldOwner v s).1.ou = s.ou ∧ (airHoldOwner v s).1.ml = s.ml ∧ (airHoldOwner v s).1.sc = s.sc ∧
      (airHoldOwner v s).1.lu = s.lu ∧ (airHoldOwner v s).1.pl = s.pl ∧ (airHoldOwner v s).1.pins = s.pins ∧
      (airHoldOwner v s).1.eeprom = s.eeprom ∧ (airHoldOwner v s).1.tenth = s.tenth ∧ (airHoldOwner v s).1.free = s.free ∧
      (airHoldOwner v s).1.pending = s.pending := by
  simp only [airHoldOwner, forHandlers]
  repeat' split
  all_goals simp

@[simp] theorem renewNowOwner_frame (v : Byte) :
    (renewNowOwner v s).1.zr = s.zr ∧ (renewNowOwner v s).1.pa = s.pa ∧ (renewNowOwner v s).1.su = s.su ∧
      (renewNowOwner v s).1.ou = s.ou ∧ (renewNowOwner v s).1.ml = s.ml ∧ (renewNowOwner v s).1.sc = s.sc ∧
      (renewNowOwner v s).1.lu = s.lu ∧ (renewNowOwner v s).1.pl = s.pl ∧ (renewNowOwner v s).1.pins = s.pins ∧
      (renewNowOwner v s).1.eeprom = s.eeprom ∧ (renewNowOwner v s).1.tenth = s.tenth ∧ (renewNowOwner v s).1.free = s.free ∧
      (renewNowOwner v s).1.pending = s.pending := by
  simp only [renewNowOwner]
  repeat' split
  all_goals simp

theorem forBanks_frame {f : Fin 3 → State → State} (hf : ∀ b s, f b s = s.setSu (f b s).su) :
    forBanks f s = s.setSu (forBanks f s).su := by
  have h : ∀ (l : List (Fin 3)) (s : State),
      l.foldl (fun s b => f b s) s = s.setSu (l.foldl (fun s b => f b s) s).su := by
    intro l
    induction l with
    | nil => exact fun _ => rfl
    | cons b l ih =>
      intro s
      rw [List.foldl_cons, ih, hf]
      rfl
  exact h _ s

theorem trimOwner_state (v : Byte) : (trimOwner v s).1 = s.setSu (trimOwner v s).1.su := by
  unfold trimOwner
  split
  · rfl
  · split
    · rfl
    · dsimp only
      refine forBanks_frame s fun b u => ?_
      split <;> rfl

@[simp] theorem trimOwner_frame (v : Byte) :
    (trimOwner v s).1.zr = s.zr ∧ (trimOwner v s).1.hs = s.hs ∧ (trimOwner v s).1.pa = s.pa ∧ (trimOwner v s).1.rs = s.rs ∧
      (trimOwner v s).1.ou = s.ou ∧ (trimOwner v s).1.ml = s.ml ∧ (trimOwner v s).1.sc = s.sc ∧ (trimOwner v s).1.lu = s.lu ∧
      (trimOwner v s).1.pl = s.pl ∧ (trimOwner v s).1.bus = s.bus ∧ (trimOwner v s).1.pins = s.pins ∧
      (trimOwner v s).1.eeprom = s.eeprom ∧ (trimOwner v s).1.tenth = s.tenth ∧ (trimOwner v s).1.free = s.free ∧
      (trimOwner v s).1.pending = s.pending := by
  rw [trimOwner_state]
  simp

@[simp] theorem mapPointOwner_frame (p e so k c f : Byte) :
    (mapPointOwner p e so k c f s).1.zr = s.zr ∧ (mapPointOwner p e so k c f s).1.hs = s.hs ∧
      (mapPointOwner p e so k c f s).1.pa = s.pa ∧ (mapPointOwner p e so k c f s).1.rs = s.rs ∧
      (mapPointOwner p e so k c f s).1.ou = s.ou ∧ (mapPointOwner p e so k c f s).1.ml = s.ml ∧
      (mapPointOwner p e so k c f s).1.sc = s.sc ∧ (mapPointOwner p e so k c f s).1.bus = s.bus ∧
      (mapPointOwner p e so k c f s).1.pins = s.pins ∧ (mapPointOwner p e so k c f s).1.eeprom = s.eeprom ∧
      (mapPointOwner p e so k c f s).1.tenth = s.tenth ∧ (mapPointOwner p e so k c f s).1.free = s.free ∧
      (mapPointOwner p e so k c f s).1.pending = s.pending := by
  simp only [mapPointOwner]
  repeat' split
  all_goals simp

theorem overrideOwner_state (c a : Byte) (v : Word16) : (overrideOwner c a v s).1 = s.setOu (overrideOwner c a v s).1.ou := by
  unfold overrideOwner
  dsimp only
  repeat' split
  all_goals rfl

@[simp] theorem overrideOwner_frame (c a : Byte) (v : Word16) :
    (overrideOwner c a v s).1.zr = s.zr ∧ (overrideOwner c a v s).1.hs = s.hs ∧ (overrideOwner c a v s).1.pa = s.pa ∧
      (overrideOwner c a v s).1.rs = s.rs ∧ (overrideOwner c a v s).1.su = s.su ∧ (overrideOwner c a v s).1.ml = s.ml ∧
      (overrideOwner c a v s).1.sc = s.sc ∧ (overrideOwner c a v s).1.lu = s.lu ∧ (overrideOwner c a v s).1.pl = s.pl ∧
      (overrideOwner c a v s).1.bus = s.bus ∧ (overrideOwner c a v s).1.pins = s.pins ∧
      (overrideOwner c a v s).1.eeprom = s.eeprom ∧ (overrideOwner c a v s).1.tenth = s.tenth ∧
      (overrideOwner c a v s).1.free = s.free ∧ (overrideOwner c a v s).1.pending = s.pending := by
  rw [overrideOwner_state]
  simp

@[simp] theorem passOwner_frame (i o it : Byte) (v : Word16) :
    (passOwner i o it v s).1.zr = s.zr ∧ (passOwner i o it v s).1.hs = s.hs ∧ (passOwner i o it v s).1.pa = s.pa ∧
      (passOwner i o it v s).1.rs = s.rs ∧ (passOwner i o it v s).1.su = s.su ∧ (passOwner i o it v s).1.ou = s.ou ∧
      (passOwner i o it v s).1.sc = s.sc ∧ (passOwner i o it v s).1.pl = s.pl ∧ (passOwner i o it v s).1.bus = s.bus ∧
      (passOwner i o it v s).1.pins = s.pins ∧ (passOwner i o it v s).1.eeprom = s.eeprom ∧
      (passOwner i o it v s).1.tenth = s.tenth ∧ (passOwner i o it v s).1.free = s.free ∧
      (passOwner i o it v s).1.pending = s.pending := by
  simp only [passOwner]
  repeat' split
  all_goals simp

theorem passResultOwner_state : (passResultOwner s).1 = s.setMl (passResultOwner s).1.ml := by
  unfold passResultOwner
  split <;> rfl

@[simp] theorem passResultOwner_frame :
    (passResultOwner s).1.zr = s.zr ∧ (passResultOwner s).1.hs = s.hs ∧ (passResultOwner s).1.pa = s.pa ∧
      (passResultOwner s).1.rs = s.rs ∧ (passResultOwner s).1.su = s.su ∧ (passResultOwner s).1.ou = s.ou ∧
      (passResultOwner s).1.sc = s.sc ∧ (passResultOwner s).1.lu = s.lu ∧ (passResultOwner s).1.pl = s.pl ∧
      (passResultOwner s).1.bus = s.bus ∧ (passResultOwner s).1.pins = s.pins ∧ (passResultOwner s).1.eeprom = s.eeprom ∧
      (passResultOwner s).1.tenth = s.tenth ∧ (passResultOwner s).1.free = s.free ∧
      (passResultOwner s).1.pending = s.pending := by
  rw [passResultOwner_state]
  simp

@[simp] theorem lineEnableOwner_frame (v : Byte) :
    (lineEnableOwner v s).1.zr = s.zr ∧ (lineEnableOwner v s).1.pa = s.pa ∧ (lineEnableOwner v s).1.rs = s.rs ∧
      (lineEnableOwner v s).1.su = s.su ∧ (lineEnableOwner v s).1.ou = s.ou ∧ (lineEnableOwner v s).1.sc = s.sc ∧
      (lineEnableOwner v s).1.pl = s.pl ∧ (lineEnableOwner v s).1.bus = s.bus ∧ (lineEnableOwner v s).1.pins = s.pins ∧
      (lineEnableOwner v s).1.eeprom = s.eeprom ∧ (lineEnableOwner v s).1.tenth = s.tenth ∧
      (lineEnableOwner v s).1.free = s.free ∧ (lineEnableOwner v s).1.pending = s.pending := by
  simp only [lineEnableOwner]
  repeat' split
  all_goals simp

@[simp] theorem standbyOwner_frame :
    (standbyOwner s).1.pl = s.pl ∧ (standbyOwner s).1.pins = s.pins ∧ (standbyOwner s).1.eeprom = s.eeprom ∧
      (standbyOwner s).1.tenth = s.tenth ∧ (standbyOwner s).1.free = s.free ∧ (standbyOwner s).1.pending = s.pending := by
  simp only [standbyOwner]
  repeat' split
  all_goals simp

@[simp] theorem resumeOwner_frame :
    (resumeOwner s).1.pa = s.pa ∧ (resumeOwner s).1.rs = s.rs ∧ (resumeOwner s).1.ou = s.ou ∧ (resumeOwner s).1.pl = s.pl ∧
      (resumeOwner s).1.bus = s.bus ∧ (resumeOwner s).1.pins = s.pins ∧ (resumeOwner s).1.eeprom = s.eeprom ∧
      (resumeOwner s).1.tenth = s.tenth ∧ (resumeOwner s).1.free = s.free ∧ (resumeOwner s).1.pending = s.pending := by
  simp only [resumeOwner]
  repeat' split
  all_goals simp

theorem parkOwner_state : (parkOwner s).1 = (s.setSc (parkOwner s).1.sc).setLu (parkOwner s).1.lu := by
  unfold parkOwner
  repeat' split
  all_goals rfl

@[simp] theorem parkOwner_frame :
    (parkOwner s).1.zr = s.zr ∧ (parkOwner s).1.hs = s.hs ∧ (parkOwner s).1.pa = s.pa ∧ (parkOwner s).1.rs = s.rs ∧
      (parkOwner s).1.su = s.su ∧ (parkOwner s).1.ou = s.ou ∧ (parkOwner s).1.ml = s.ml ∧ (parkOwner s).1.pl = s.pl ∧
      (parkOwner s).1.bus = s.bus ∧ (parkOwner s).1.pins = s.pins ∧ (parkOwner s).1.eeprom = s.eeprom ∧
      (parkOwner s).1.tenth = s.tenth ∧ (parkOwner s).1.free = s.free ∧ (parkOwner s).1.pending = s.pending := by
  rw [parkOwner_state]
  simp

theorem cadenceOwner_state (v : Byte) : (cadenceOwner v s).1 = s.setSc (cadenceOwner v s).1.sc := by
  unfold cadenceOwner
  repeat' split
  all_goals rfl

@[simp] theorem cadenceOwner_frame (v : Byte) :
    (cadenceOwner v s).1.zr = s.zr ∧ (cadenceOwner v s).1.hs = s.hs ∧ (cadenceOwner v s).1.pa = s.pa ∧
      (cadenceOwner v s).1.rs = s.rs ∧ (cadenceOwner v s).1.su = s.su ∧ (cadenceOwner v s).1.ou = s.ou ∧
      (cadenceOwner v s).1.ml = s.ml ∧ (cadenceOwner v s).1.lu = s.lu ∧ (cadenceOwner v s).1.pl = s.pl ∧
      (cadenceOwner v s).1.bus = s.bus ∧ (cadenceOwner v s).1.pins = s.pins ∧ (cadenceOwner v s).1.eeprom = s.eeprom ∧
      (cadenceOwner v s).1.tenth = s.tenth ∧ (cadenceOwner v s).1.free = s.free ∧ (cadenceOwner v s).1.pending = s.pending := by
  rw [cadenceOwner_state]
  simp

theorem restartOwner_state : (restartOwner s).1 = s.setLu (restartOwner s).1.lu := by
  simp only [restartOwner]
  split <;> rfl

@[simp] theorem restartOwner_frame :
    (restartOwner s).1.zr = s.zr ∧ (restartOwner s).1.hs = s.hs ∧ (restartOwner s).1.pa = s.pa ∧ (restartOwner s).1.rs = s.rs ∧
      (restartOwner s).1.su = s.su ∧ (restartOwner s).1.ou = s.ou ∧ (restartOwner s).1.ml = s.ml ∧
      (restartOwner s).1.sc = s.sc ∧ (restartOwner s).1.pl = s.pl ∧ (restartOwner s).1.bus = s.bus ∧
      (restartOwner s).1.pins = s.pins ∧ (restartOwner s).1.eeprom = s.eeprom ∧ (restartOwner s).1.tenth = s.tenth ∧
      (restartOwner s).1.free = s.free ∧ (restartOwner s).1.pending = s.pending := by
  rw [restartOwner_state]
  simp

@[simp] theorem setParamOwner_frame (n v : Word16) :
    (setParamOwner n v s).1.zr = s.zr ∧ (setParamOwner n v s).1.pa = s.pa ∧ (setParamOwner n v s).1.rs = s.rs ∧
      (setParamOwner n v s).1.sc = s.sc ∧ (setParamOwner n v s).1.bus = s.bus ∧ (setParamOwner n v s).1.pins = s.pins ∧
      (setParamOwner n v s).1.eeprom = s.eeprom ∧ (setParamOwner n v s).1.tenth = s.tenth ∧
      (setParamOwner n v s).1.free = s.free ∧ (setParamOwner n v s).1.pending = s.pending := by
  simp only [setParamOwner]
  repeat' split
  all_goals simp

theorem saveProfileOwner_state : (saveProfileOwner s).1 = s.setPl (saveProfileOwner s).1.pl := by
  unfold saveProfileOwner
  split <;> rfl

@[simp] theorem saveProfileOwner_frame :
    (saveProfileOwner s).1.zr = s.zr ∧ (saveProfileOwner s).1.hs = s.hs ∧ (saveProfileOwner s).1.pa = s.pa ∧
      (saveProfileOwner s).1.rs = s.rs ∧ (saveProfileOwner s).1.su = s.su ∧ (saveProfileOwner s).1.ou = s.ou ∧
      (saveProfileOwner s).1.ml = s.ml ∧ (saveProfileOwner s).1.sc = s.sc ∧ (saveProfileOwner s).1.lu = s.lu ∧
      (saveProfileOwner s).1.bus = s.bus ∧ (saveProfileOwner s).1.pins = s.pins ∧ (saveProfileOwner s).1.eeprom = s.eeprom ∧
      (saveProfileOwner s).1.tenth = s.tenth ∧ (saveProfileOwner s).1.free = s.free ∧
      (saveProfileOwner s).1.pending = s.pending := by
  rw [saveProfileOwner_state]
  simp

end Sys2Proof.Machine

/-! ## Which commands write the EEPROM, the Power Allotter, the Renewal Scheduler and the Output Unit

Of the part's own moments and of the requests' owners only a few write each of these; every other leaves it as it was, and all leave the
queue of the commands behind them. -/

namespace Sys2Proof.Machine

/-- The moments that write the EEPROM (R133, R169). -/
def writesMemory : Instr → Bool
  | .hardReset _ | .savePageComplete _ | .savePollTimeout => true
  | _ => false

/-- The moments that write the Power Allotter (R45, R47, R57, R133). -/
def writesPower : Instr → Bool
  | .hardReset _ | .restartEffect | .requestSetReceived | .lifetimeExpiry => true
  | _ => false

/-- The moments that write the Renewal Scheduler (R61 to R74). -/
def writesRenewals : Instr → Bool
  | .hardReset _ | .profileLoadComplete _ | .restartEffect | .demandSetReceived | .allotmentAtHs | .intervalExpiry _
  | .renewalComplete _ | .doorTimerExpiry _ => true
  | _ => false

/-- The moments that write the output channels (R103 to R106, R111). -/
def writesOutputs : Instr → Bool
  | .hardReset _ | .profileLoadComplete _ | .parkEntry | .restartEffect | .ouValueReceived | .periodEnd _ | .compareReached _
  | .wakeDebounceExpiry => true
  | _ => false

/-- What a moment of the part leaves unchanged. -/
def MomentFrame (c : Instr) (s t : State) : Prop :=
  t.pending = s.pending ∧ (writesMemory c = false → t.eeprom = s.eeprom) ∧ (writesPower c = false → t.pa = s.pa) ∧
    (writesRenewals c = false → t.rs = s.rs) ∧ (writesOutputs c = false → t.ou = s.ou)

theorem exec_moment_frame {c : Instr} (s : State) (hc : encodeRequest c = none) (hl : onLink c = false) :
    Ends (MomentFrame c s) (exec c s) := by
  cases c <;> simp only [encodeRequest, reduceCtorEq] at hc <;> simp only [onLink, Bool.true_eq_false] at hl
  case hardReset => exact ends_next.mpr ⟨rfl, nofun, nofun, nofun, nofun⟩
  case accountTimerExpiry =>
    simp only [exec, execAccountTimerExpiry]
    split
    all_goals simp [MomentFrame, forHandlers]
  all_goals
    simp only [exec, execProfileLoadComplete, execParkEntry, execRestartEffect, execSavePageComplete, execSavePollTimeout,
      execRegulationTimerExpiry, execDemandSetReceived, execRequestSetReceived, execAllotmentAtHs, execAllotmentAtZr,
      execOuValueReceived, execRestTimerExpiry, execDwellTimerExpiry, execLifetimeExpiry,
      execIntervalExpiry, execRenewalComplete, execDoorInputChange, execDoorDebounceExpiry, execDoorTimerExpiry,
      execWakeInputChange, execWakeDebounceExpiry, execScanGapExpiry, execSupplyConversion, execFullTrim, execShortTrim,
      execTapReading, execTrimIntervalExpiry, execPointStale, execPeriodEnd, execCompareReached, execModuleAnswerReceived,
      execModuleResponseTimeout, execModuleAnswerGap, execProbeTimerExpiry, execReadTimerExpiry, execModuleRequestSent]
    repeat' split
    all_goals simp [MomentFrame, writesMemory, writesPower, writesRenewals, writesOutputs]

/-- What a request's owner leaves unchanged: GRANT and STANDBY alone write the Power Allotter (R44, R57), AIR_HOLD, RENEW_NOW and STANDBY
the Renewal Scheduler (R71 to R73), OVERRIDE, SET_PARAM and STANDBY the output channels (R110 to R113). -/
theorem requestOwner_frame (c : Instr) (s : State) :
    (requestOwner c s).1.pending = s.pending ∧ (requestOwner c s).1.eeprom = s.eeprom ∧
      ((∀ w l, c ≠ .grant w l) → c ≠ .standby → (requestOwner c s).1.pa = s.pa) ∧
      ((∀ v, c ≠ .airHold v) → (∀ h, c ≠ .renewNow h) → c ≠ .standby → (requestOwner c s).1.rs = s.rs) ∧
      ((∀ i a v, c ≠ .override i a v) → (∀ n v, c ≠ .setParam n v) → c ≠ .standby → (requestOwner c s).1.ou = s.ou) := by
  cases c <;> simp [requestOwner]

/-! ### Commands in general (log 31) -/

theorem exec_pending (c : Instr) (s : State) : Ends (fun u => u.pending = s.pending) (exec c s) :=
  (LinkKeeps.of_setLu fun _ _ h => h).exec (fun c u _ h => (requestOwner_frame c u).1.trans h)
    (fun _ u hc hl h => (exec_moment_frame u hc hl).mono fun _ hframe => hframe.1.trans h) c rfl

/-- Settles O4. -/
theorem everyCommandCompletes : Obligations.EveryCommandCompletes := fun c s => (exec_pending c s).imp fun _ h => h.1

/-- Settles O3. -/
theorem execKeepsTheQueue : Obligations.ExecKeepsTheQueue := fun c s _ ht => (exec_pending c s).of_eq ht

/-- Settles O1. -/
theorem stepTakesTheFrontCommand : Obligations.StepTakesTheFrontCommand := fun c rest s h => by
  rw [step, h]
  rfl

/-! ### The EEPROM keeps its canonical form (log 12) -/

theorem mixPage_eeprom_wf (w : WorkingMemory) {s : State} (h : s.MemoryCanonical) : (mixPage w s).MemoryCanonical :=
  Memory.wf_writeBytes h _ _

theorem savePageRead_eeprom_wf (w : WorkingMemory) (bytes : Vector Byte 64) {s : State} (h : s.MemoryCanonical) :
    (savePageRead w bytes s).MemoryCanonical := by
  have hw := Memory.wf_writeBytes h (64 * s.pl.savePage) bytes.toList
  simp only [savePageRead, State.MemoryCanonical]
  repeat' split
  all_goals simpa using hw

theorem cutSave_eeprom_wf {s : State} (h : s.MemoryCanonical) : (cutSave s).MemoryCanonical := by
  unfold cutSave
  split
  · exact mixPage_eeprom_wf _ h
  · exact h

theorem exec_writesMemory_wf {c : Instr} (hw : writesMemory c = true) {s : State} (h : s.MemoryCanonical) :
    Ends State.MemoryCanonical (exec c s) := by
  cases c <;> simp only [writesMemory, Bool.false_eq_true] at hw
  case hardReset strap => exact ends_next.mpr (cutSave_eeprom_wf h)
  case savePageComplete page =>
    simp only [exec, execSavePageComplete]
    repeat' split
    · exact ends_next.mpr (by simpa [State.MemoryCanonical] using savePageRead_eeprom_wf _ _ h)
    · exact ends_next.mpr (by simpa [State.MemoryCanonical, saveUnanswered] using mixPage_eeprom_wf _ h)
    · exact ends_next.mpr h
  case savePollTimeout =>
    simp only [exec, execSavePollTimeout]
    split
    · exact ends_next.mpr (by simpa [State.MemoryCanonical, saveUnanswered] using mixPage_eeprom_wf _ h)
    · exact ends_next.mpr h

theorem exec_keeps_memoryCanonical (c : Instr) {s : State} (h : s.MemoryCanonical) : Ends State.MemoryCanonical (exec c s) := by
  refine (LinkKeeps.of_setLu fun _ _ h => h).exec (fun c u _ h => ?_) (fun c u hc hl h => ?_) c h
  · have hown := (requestOwner_frame c u).2.1
    rwa [State.MemoryCanonical, hown]
  · cases hw : writesMemory c with
    | true => exact exec_writesMemory_wf hw h
    | false =>
      refine (exec_moment_frame u hc hl).mono fun t ⟨_, hmem, _⟩ => ?_
      rwa [State.MemoryCanonical, hmem hw]

theorem tickTimers_eeprom (s : State) : (tickTimers s).eeprom = s.eeprom := by
  unfold tickTimers tickPoints
  dsimp only
  repeat' split
  all_goals rfl

/-- Settles O58. -/
theorem stepKeepsMemoryCanonical : Obligations.StepKeepsMemoryCanonical := fun s _ =>
  step_keeps (fun _ _ h => h) (fun s h => by rwa [State.MemoryCanonical, tickTimers_eeprom])
    (fun c _ h => exec_keeps_memoryCanonical c h)

end Sys2Proof.Machine

/-! ## The Power Allotter at every step (R42, R53, R56)

Four moments and two requests write the Power Allotter; for each the grant stays consistent with its timer, and the record within its
grant. -/

namespace Sys2Proof.Machine

/-- What a step may make of the Power Allotter: nothing, an emptied record (R57), a new record (R56), a new grant (R44), an expired grant
(R45), or its reset values. -/
inductive PA.Step (p : PA) : PA → Prop
  | same : PA.Step p p
  | emptied : PA.Step p { p with record := AllotRecord.empty }
  | allotted (g qMin qDef : Nat) (live : Bool) (r : RequestSet) : PA.Step p { p with record := (allot g qMin qDef r).record g live r }
  | granted (g l ticks : Nat) : PA.Step p { p with liveGrant := g, lifetime := l, live := true, timer := some ticks }
  | expired : PA.Step p { p with live := false, timer := none }
  | reset : PA.Step p State.reset.pa

theorem leaveRun_pa (s : State) : (leaveRun s).pa = { s.pa with record := AllotRecord.empty } := by
  simp [leaveRun, emptyRecord]

theorem restartEffect_pa (s : State) : (restartEffect s).pa = { s.pa with record := AllotRecord.empty } := by
  simp [restartEffect, emptyRecord]

theorem stage3_pa (r : RequestSet) (s : State) :
    (stage3 r s).pa = { s.pa with
      record := (allot s.effectiveGrant s.wm.qMin s.wm.qDef r).record s.effectiveGrant s.pa.live r } := rfl

theorem requestOwner_pa (c : Instr) (s : State) : s.pa.Step (requestOwner c s).1.pa := by
  by_cases hg : ∀ w l, c ≠ .grant w l
  · by_cases hs : c = .standby
    · subst hs
      simp only [requestOwner, standbyOwner]
      split
      · rw [leaveRun_pa]
        exact .emptied
      · exact .same
    · rw [(requestOwner_frame c s).2.2.1 hg hs]
      exact .same
  · push Not at hg
    obtain ⟨w, l, rfl⟩ := hg
    exact .granted _ _ _

theorem exec_writesPower_pa {c : Instr} (hw : writesPower c = true) (s : State) : Ends (fun t => s.pa.Step t.pa) (exec c s) := by
  cases c <;> simp only [writesPower, Bool.false_eq_true] at hw
  case hardReset => exact ends_next.mpr .reset
  case restartEffect =>
    simp only [exec, execRestartEffect]
    split
    · refine ends_next.mpr ?_
      simpa [restartEffect_pa] using PA.Step.emptied
    · exact ends_next.mpr .same
  case requestSetReceived =>
    simp only [exec, execRequestSetReceived]
    split
    · exact ends_next.mpr .same
    · refine ends_next.mpr ?_
      split
      · rw [stage3_pa]
        exact .allotted _ _ _ _ _
      · exact .same
  case lifetimeExpiry =>
    simp only [exec, execLifetimeExpiry]
    split
    · refine ends_next.mpr ?_
      simpa using PA.Step.expired
    · exact ends_next.mpr .same

theorem PA.Step.kept {Q : PA → Prop} (hQ : ∀ {p q}, PA.Step p q → Q p → Q q) (c : Instr) {s : State} (h : Q s.pa) :
    Ends (fun t => Q t.pa) (exec c s) := by
  refine (LinkKeeps.of_setLu fun _ _ h => h).exec (fun c u _ h => hQ (requestOwner_pa c u) h) (fun c u hc hl h => ?_) c h
  cases hw : writesPower c with
  | true => exact (exec_writesPower_pa hw u).mono fun t ht => hQ ht h
  | false => exact (exec_moment_frame u hc hl).mono fun t ⟨_, _, hpa, _⟩ => (hpa hw).symm ▸ h

theorem tickTimers_pa (s : State) : (tickTimers s).pa = { s.pa with timer := tickTimer s.pa.timer } := by
  unfold tickTimers tickPoints
  dsimp only
  repeat' split
  all_goals rfl

/-- Settles O56: every way to write the Power Allotter moves the live flag and its timer together. -/
theorem stepKeepsGrantConsistent : Obligations.StepKeepsGrantConsistent := fun s t =>
  step_keeps (P := State.GrantConsistent) (fun _ _ h => h)
    (fun s h => by simpa [State.GrantConsistent, tickTimers_pa, tickTimer] using h)
    (fun c u h => PA.Step.kept (Q := fun p => p.timer.isSome = p.live) (fun hpq hp => by cases hpq <;> first | exact hp | rfl) c h)

/-- An allotment's record shows no more power than its grant (R53, R56). -/
theorem record_total_le (g qMin qDef : Nat) (live : Bool) (r : RequestSet) :
    ((allot g qMin qDef r).record g live r).total ≤ ((allot g qMin qDef r).record g live r).grant :=
  Nat.div_le_of_le_mul (allot_total_le g qMin qDef r)

/-- Settles O60: a record is the empty one, or that of an allotment, whose total its grant bounds. -/
theorem stepKeepsRecordWithinGrant : Obligations.StepKeepsRecordWithinGrant := fun s t =>
  step_keeps (P := State.RecordWithinGrant) (fun _ _ h => h)
    (fun s h => by simpa [State.RecordWithinGrant, tickTimers_pa] using h)
    (fun c u h => PA.Step.kept (Q := fun p => p.record.total ≤ p.record.grant)
      (fun hpq hp => by
        cases hpq with
        | allotted g qMin qDef live r => exact record_total_le g qMin qDef live r
        | emptied => exact Nat.le_refl 0
        | reset => exact Nat.le_refl 0
        | same | granted | expired => exact hp) c h)

end Sys2Proof.Machine

/-! ## The renewal balances at every step (R62)

A balance changes by a credit (at most +8), by an interval expiry (at least -8) and by a reset to 0. -/

namespace Sys2Proof.Machine

variable {s : State}

theorem forHandlers_induct {P : State → Prop} {f : Fin 2 → State → State} (hf : ∀ h s, P s → P (f h s)) (h : P s) :
    P (forHandlers f s) := hf 1 _ (hf 0 _ h)

theorem State.BalancesBounded.of_rs {t : State} (h : s.BalancesBounded) (he : t.rs = s.rs) : t.BalancesBounded := fun i => by
  simpa [State.renewal, he] using h i

theorem putRenewal_balances {x : Renewal} (i : Fin 2) (h : s.BalancesBounded) (hx : -8 ≤ x.balance ∧ x.balance ≤ 8) :
    (s.putRenewal i x).BalancesBounded := fun j => by
  by_cases hij : i = j
  · subst hij
    simpa using hx
  · rw [State.putRenewal_renewal_other s hij]
    exact h j

theorem startRenewal_balances (i : Fin 2) (k : RenewalKind) (h : s.BalancesBounded) : (startRenewal i k s).BalancesBounded := by
  refine State.BalancesBounded.of_rs (s := s.putRenewal i _) ?_ (renewAir_frame _ i).2.2.1
  exact putRenewal_balances i h (h i)

theorem endRenewal_balances (i : Fin 2) (e : RenewalEnd) (h : s.BalancesBounded) : (endRenewal i e s).BalancesBounded := by
  refine State.BalancesBounded.of_rs (s := s.putRenewal i _) ?_ (renewAir_frame _ i).2.2.1
  exact putRenewal_balances i h (h i)

theorem evaluate_balances (i : Fin 2) (h : s.BalancesBounded) : (evaluate i s).BalancesBounded := by
  unfold evaluate
  repeat' split
  · exact h
  · exact startRenewal_balances i _ h
  · exact h

theorem abortRenewal_balances (i : Fin 2) (e : RenewalEnd) (h : s.BalancesBounded) : (abortRenewal i e s).BalancesBounded := by
  unfold abortRenewal
  split
  · exact endRenewal_balances i e h
  · exact h

theorem credit_balances (i : Fin 2) (h : s.BalancesBounded) : (credit i s).BalancesBounded := by
  refine putRenewal_balances i h ?_
  have := h i
  dsimp only
  omega

theorem intervalExpired_balances (i : Fin 2) (h : s.BalancesBounded) : (intervalExpired i s).BalancesBounded := by
  have hi := h i
  unfold intervalExpired
  refine evaluate_balances i ?_
  split
  · exact putRenewal_balances i h (by dsimp only; omega)
  · refine State.BalancesBounded.of_rs (s := s.putRenewal i _) ?_ (latch_frame _ _ _ _).2.2.2.1
    exact putRenewal_balances i h (by dsimp only; omega)

theorem doorCredit_balances (d : Fin 4) (h : s.BalancesBounded) : (doorCredit d s).BalancesBounded := by
  unfold doorCredit
  split
  · exact h
  · refine forHandlers_induct (fun i u hu => ?_) h
    split
    · exact evaluate_balances i (credit_balances i hu)
    · exact hu

theorem renewalsLeaveRun_balances (h : s.BalancesBounded) : (renewalsLeaveRun s).BalancesBounded := by
  refine forHandlers_induct (fun i u hu => ?_) h
  split
  · exact putRenewal_balances i hu (hu i)
  · exact hu

theorem renewalsLoaded_balances (h : s.BalancesBounded) : (renewalsLoaded s).BalancesBounded :=
  forHandlers_induct (fun i _ hu => putRenewal_balances i hu (hu i)) h

theorem renewalsRestart_balances (s : State) : (renewalsRestart s).BalancesBounded := fun i => by
  simp [renewalsRestart, State.renewal, Renewal.reset]

/-! ### The commands that write the Renewal Scheduler -/

theorem blocksLoaded_balances (h : s.BalancesBounded) : (blocksLoaded s).BalancesBounded :=
  State.BalancesBounded.of_rs (renewalsLoaded_balances (s := handlersLoaded (zonesLoaded s)) (h.of_rs (by simp))) (by simp [blocksLoaded])

theorem restartEffect_balances (s : State) : (restartEffect s).BalancesBounded :=
  State.BalancesBounded.of_rs (renewalsRestart_balances (emptyRecord (handlersRestart (zonesRestart (s.setBus s.bus.dropCascade)))))
    (by simp [restartEffect])

theorem leaveRun_balances (h : s.BalancesBounded) : (leaveRun s).BalancesBounded :=
  State.BalancesBounded.of_rs (renewalsLeaveRun_balances (s := emptyRecord (handlersLeaveRun (zonesLeaveRun
    ((s.setBus s.bus.dropCascade).setSc { s.sc with opState := .standby })))) (h.of_rs (by simp))) (by simp [leaveRun])

theorem stepMode_balances (i : Fin 2) (h : s.BalancesBounded) : (stepMode i s).BalancesBounded := by
  unfold stepMode
  repeat' split
  · exact h
  · exact abortRenewal_balances i _ (h.of_rs (by simp))
  · exact h.of_rs (by simp)

theorem stage2Handler_balances (d : DemandSet) (i : Fin 2) (h : s.BalancesBounded) : (stage2Handler d i s).BalancesBounded := by
  refine State.BalancesBounded.of_rs (s := stepMode i _) (stepMode_balances i ?_) rfl
  exact h.of_rs (State.putHandler_rs _ _ _)

theorem stage2_balances (d : DemandSet) (h : s.BalancesBounded) : (stage2 d s).BalancesBounded := by
  have hturns : (forHandlers (stage2Handler d) (readAir (s.setHs { s.hs with cycleNo := d.cycleNo, lastDemand := some d }))).BalancesBounded :=
    forHandlers_induct (fun i _ hu => stage2Handler_balances d i hu) (h.of_rs (by simp))
  unfold stage2
  exact hturns.of_rs (by simp)

theorem forHandlers_stage4Handler_rs (a : Allotment) (s : State) : (forHandlers (stage4Handler a) s).rs = s.rs := by simp [forHandlers]

theorem forHandlers_handAir_rs (s : State) : (forHandlers handAir s).rs = s.rs := by simp [forHandlers]

theorem forHandlers_driveDue_rs (s : State) : (forHandlers driveDue s).rs = s.rs := by simp [forHandlers]

theorem stage4_balances (a : Allotment) (h : s.BalancesBounded) : (stage4 a s).BalancesBounded := by
  have hzones (u : State) : ((List.finRange 12).foldl (fun s z => handZone a z s) u).rs = u.rs :=
    foldl_keeps (·.rs) _ (by simp) _ u
  unfold stage4
  refine forHandlers_induct (fun i _ hu => evaluate_balances i hu) (h.of_rs ?_)
  simp only [arbitrate_frame, forHandlers_driveDue_rs, hzones, forHandlers_handAir_rs, forHandlers_stage4Handler_rs, State.setHs_rs]

theorem exec_writesRenewals_balances {c : Instr} (hw : writesRenewals c = true) (h : s.BalancesBounded) :
    Ends State.BalancesBounded (exec c s) := by
  cases c <;> simp only [writesRenewals, Bool.false_eq_true] at hw
  case hardReset => exact ends_next.mpr fun i => by simp [afterHardReset, State.reset, State.renewal, Renewal.reset]
  case profileLoadComplete a =>
    simp only [exec, execProfileLoadComplete, ends_ite, ends_next]
    split
    · exact (blocksLoaded_balances (s := loadProfile a s) (h.of_rs (by simp))).of_rs (by simp)
    · exact h
  case restartEffect =>
    simp only [exec, execRestartEffect, ends_ite, ends_next]
    split
    · exact (restartEffect_balances s).of_rs (by simp)
    · exact h
  case demandSetReceived =>
    simp only [exec, execDemandSetReceived]
    split
    · exact ends_next.mpr h
    · refine ends_next.mpr (State.BalancesBounded.of_rs ?_ (kick_frame _).2.2.2.1)
      split
      · exact stage2_balances _ h
      · exact h
  case allotmentAtHs =>
    simp only [exec, execAllotmentAtHs]
    split
    · exact ends_next.mpr h
    · refine ends_next.mpr (State.BalancesBounded.of_rs ?_ (kick_frame _).2.2.2.1)
      split
      · exact stage4_balances _ h
      · exact h
  case intervalExpiry i =>
    simp only [exec, execIntervalExpiry, ends_ite, ends_next]
    split
    · exact h
    · exact (intervalExpired_balances i h).of_rs (by simp)
  case renewalComplete i =>
    simp only [exec, execRenewalComplete, ends_ite, ends_next]
    split
    · exact endRenewal_balances i _ (credit_balances i h)
    · exact h
  case doorTimerExpiry d =>
    simp only [exec, execDoorTimerExpiry, ends_ite, ends_next]
    split
    · exact h
    · split
      · exact doorCredit_balances d h
      · exact h

theorem airHoldOwner_balances (v : Byte) (h : s.BalancesBounded) : (airHoldOwner v s).1.BalancesBounded := by
  simp only [airHoldOwner]
  split
  · exact h
  · dsimp only
    split
    · exact h
    · split
      · exact h
      · refine forHandlers_induct (fun i u hu => State.BalancesBounded.of_rs hu (renewFresh_frame u i).2.2.1)
          (forHandlers_induct (fun i _ hu => evaluate_balances i hu) (forHandlers_induct (fun i u hu => ?_) h))
        split
        · exact endRenewal_balances i _ hu
        · exact hu

theorem renewNowOwner_balances (v : Byte) (h : s.BalancesBounded) : (renewNowOwner v s).1.BalancesBounded := by
  simp only [renewNowOwner]
  repeat' split
  all_goals first | exact h | exact startRenewal_balances _ _ h

theorem requestOwner_balances (c : Instr) (h : s.BalancesBounded) : (requestOwner c s).1.BalancesBounded := by
  by_cases ha : ∀ v, c ≠ .airHold v
  · by_cases hr : ∀ v, c ≠ .renewNow v
    · by_cases hs : c = .standby
      · subst hs
        simp only [requestOwner, standbyOwner]
        split
        · exact leaveRun_balances h
        · exact h
      · exact h.of_rs ((requestOwner_frame c s).2.2.2.1 ha hr hs)
    · push Not at hr
      obtain ⟨v, rfl⟩ := hr
      exact renewNowOwner_balances v h
  · push Not at ha
    obtain ⟨v, rfl⟩ := ha
    exact airHoldOwner_balances v h

theorem exec_keeps_balances (c : Instr) (h : s.BalancesBounded) : Ends State.BalancesBounded (exec c s) := by
  refine (LinkKeeps.of_setLu fun _ _ h => h).exec (fun c u _ h => requestOwner_balances c h) (fun c u hc hl h => ?_) c h
  cases hw : writesRenewals c with
  | true => exact exec_writesRenewals_balances hw h
  | false => exact (exec_moment_frame u hc hl).mono fun t ⟨_, _, _, hrs, _⟩ => h.of_rs (hrs hw)

theorem tickTimers_renewal_balance (s : State) (i : Fin 2) : ((tickTimers s).renewal i).balance = (s.renewal i).balance := by
  unfold tickTimers tickPoints
  dsimp only
  repeat' split
  all_goals simp [State.renewal]

/-- Settles O55. -/
theorem stepKeepsBalancesBounded : Obligations.StepKeepsBalancesBounded := fun s _ =>
  step_keeps (fun _ _ h => h) (fun s h i => by simpa [tickTimers_renewal_balance] using h i) (fun c _ h => exec_keeps_balances c h)

end Sys2Proof.Machine

/-! ## What the blocks do to the Link Unit: they report events (R152)

Outside the link's own work every operation touches the Link Unit only by the events it latches. `LU.Latches` says so, and what every
occurrence keeps, such a run of occurrences keeps. -/

namespace Sys2Proof.Machine

/-- The second Link Unit is the first after some occurrences of events (R152). -/
inductive LU.Latches (l : LU) : LU → Prop
  | refl : LU.Latches l l
  | occur {m : LU} (h : LU.Latches l m) (k : EventKind) (n : Nat) (v : Int) : LU.Latches l (m.occur k n v)

theorem LU.Latches.trans {l m n : LU} (h : l.Latches m) (hm : m.Latches n) : l.Latches n := by
  induction hm with
  | refl => exact h
  | occur _ k n v ih => exact ih.occur k n v

/-- A property that every occurrence keeps is kept. -/
theorem LU.Latches.keeps {P : LU → Prop} (hP : ∀ {l : LU}, P l → ∀ k n v, P (l.occur k n v)) {l m : LU} (h : l.Latches m)
    (hl : P l) : P m := by
  induction h with
  | refl => exact hl
  | occur _ k n v ih => exact hP ih k n v

theorem LU.Latches.queueOk {l m : LU} (h : l.Latches m) (hl : l.QueueOk) : m.QueueOk := h.keeps LU.occur_ok hl

/-- Occurrences change nothing of the Link Unit but the event set and the queue. -/
theorem LU.Latches.frame {l m : LU} (h : l.Latches m) :
    m.rate = l.rate ∧ m.receiver = l.receiver ∧ m.gap = l.gap ∧ m.inHand = l.inHand ∧ m.overrun = l.overrun ∧ m.answer = l.answer ∧
      m.overrunReject = l.overrunReject ∧ m.transmitter = l.transmitter ∧ m.after = l.after := by
  induction h with
  | refl => simp
  | occur _ k n v ih => simpa using ih

/-- A fold over numbered items keeps what each turn keeps. -/
theorem foldl_induct {α : Type} {P : State → Prop} {f : State → α → State} (hf : ∀ s x, P s → P (f s x)) (xs : List α) {s : State}
    (h : P s) : P (xs.foldl f s) := by
  induction xs generalizing s with
  | nil => exact h
  | cons x xs ih => exact ih (hf s x h)

variable {l : LU} {s : State}

theorem latch_latches (k : EventKind) (n : Nat) (v : Int) (h : l.Latches s.lu) : l.Latches (latch k n v s).lu := h.occur k n v

/-! ### Handlers -/

theorem takeMode_latches (i : Fin 2) (m : Mode) (h : l.Latches s.lu) : l.Latches (takeMode i m s).lu := by
  unfold takeMode
  dsimp only
  split
  · exact h
  · exact latch_latches _ _ _ h

theorem endDefrost_latches (i : Fin 2) (r : DefrostEnd) (h : l.Latches s.lu) : l.Latches (endDefrost i r s).lu :=
  latch_latches _ _ _ h

theorem leaveTo_latches (i : Fin 2) (m : Mode) (r : DefrostEnd) (h : l.Latches s.lu) : l.Latches (leaveTo i m r s).lu := by
  simp only [leaveTo, timerStart_frame]
  refine takeMode_latches i m ?_
  split
  · exact endDefrost_latches i r h
  · exact h

theorem returnToHeat_latches (i : Fin 2) (r : DefrostEnd) (n : Nat) (h : l.Latches s.lu) : l.Latches (returnToHeat i r n s).lu :=
  takeMode_latches i _ (endDefrost_latches i r h)

theorem transition_latches (i : Fin 2) (h : l.Latches s.lu) : l.Latches (transition i s).lu := by
  unfold transition
  dsimp only
  repeat' split
  all_goals first | exact h | exact takeMode_latches i _ h | exact leaveTo_latches i _ _ h | exact returnToHeat_latches i _ _ h

theorem stepMode_latches (i : Fin 2) (h : l.Latches s.lu) : l.Latches (stepMode i s).lu := by
  unfold stepMode
  split
  · split
    · exact h
    · simpa using leaveTo_latches i .idle .aborted h
  · exact transition_latches i h

theorem stage2Handler_latches (d : DemandSet) (i : Fin 2) (h : l.Latches s.lu) : l.Latches (stage2Handler d i s).lu :=
  stepMode_latches (s := s.putHandler i _) i h

theorem stage2_latches (d : DemandSet) (h : l.Latches s.lu) : l.Latches (stage2 d s).lu := by
  unfold stage2
  simp only [State.setHs_lu, State.setBus_lu]
  exact forHandlers_induct (P := fun u => l.Latches u.lu) (fun i _ hu => stage2Handler_latches d i hu) (by simpa using h)

theorem enterDefrost_latches (i : Fin 2) (h : l.Latches s.lu) : l.Latches (enterDefrost i s).lu :=
  latch_latches _ _ _ (takeMode_latches (s := s) i .defrost h)

theorem abortDefrost_latches (i : Fin 2) (h : l.Latches s.lu) : l.Latches (abortDefrost i s).lu := by
  simp only [abortDefrost, readAir_frame]
  exact endDefrost_latches i _ (takeMode_latches i _ h)

theorem stage4Mode_latches (a : AllotHandler) (i : Fin 2) (h : l.Latches s.lu) : l.Latches (stage4Mode a i s).lu := by
  unfold stage4Mode
  repeat' split
  · exact enterDefrost_latches i h
  · exact abortDefrost_latches i h
  · exact h

theorem stage4Handler_latches (a : Allotment) (i : Fin 2) (h : l.Latches s.lu) : l.Latches (stage4Handler a i s).lu := by
  simp only [stage4Handler, setDampers_frame, stage4Air_frame, stage4Command_frame]
  exact stage4Mode_latches _ i h

theorem handlerLeavesRun_latches (i : Fin 2) (h : l.Latches s.lu) : l.Latches (handlerLeavesRun i s).lu :=
  leaveTo_latches i _ _ h

theorem handlersLeaveRun_latches (h : l.Latches s.lu) : l.Latches (handlersLeaveRun s).lu := by
  simp only [handlersLeaveRun, State.setHs_lu]
  exact forHandlers_induct (P := fun u => l.Latches u.lu) (fun i _ hu => handlerLeavesRun_latches i hu) h

theorem handlersRestart_latches (h : l.Latches s.lu) : l.Latches (handlersRestart s).lu := by
  simpa [handlersRestart, forHandlers] using handlersLeaveRun_latches h

theorem intervalExpired_latches (i : Fin 2) (h : l.Latches s.lu) : l.Latches (intervalExpired i s).lu := by
  simp only [intervalExpired, evaluate_frame]
  split
  · exact h
  · exact latch_latches _ _ _ h

/-! ### Points -/

theorem takeInRange_latches (p : Fin 32) (t : Int) (h : l.Latches s.lu) : l.Latches (takeInRange p t s).lu := by
  unfold takeInRange
  dsimp only
  repeat' split
  all_goals first | exact h | exact latch_latches _ _ _ h

theorem takeOutOfRange_latches (p : Fin 32) (h : l.Latches s.lu) : l.Latches (takeOutOfRange p s).lu := by
  unfold takeOutOfRange
  dsimp only
  repeat' split
  all_goals first | exact h | exact latch_latches _ _ _ h

theorem takeRaw_latches (t : Fin 24) (r : Nat) (p : Fin 32) (h : l.Latches s.lu) : l.Latches (takeRaw t r p s).lu := by
  unfold takeRaw
  repeat' split
  · exact takeOutOfRange_latches p h
  · exact takeInRange_latches p _ h
  · exact h

theorem takeItem_latches (i : Fin 8) (j : Fin 4) (v : Int) (p : Fin 32) (h : l.Latches s.lu) : l.Latches (takeItem i j v p s).lu := by
  unfold takeItem
  split
  · exact takeInRange_latches p _ h
  · exact h

theorem forPoints_latches {f : Fin 32 → State → State} (hf : ∀ p u, l.Latches u.lu → l.Latches (f p u).lu) (h : l.Latches s.lu) :
    l.Latches (forPoints f s).lu :=
  foldl_induct (P := fun u => l.Latches u.lu) (fun u p hu => hf p u hu) _ h

theorem handItem_latches (i : Fin 8) (j : Fin 4) (v : Int) (h : l.Latches s.lu) : l.Latches (handItem i j v s).lu :=
  forPoints_latches (fun p _ hu => takeItem_latches i j v p hu) h

theorem failPoint_latches (p : Fin 32) (c : Int) (h : l.Latches s.lu) : l.Latches (failPoint p c s).lu := by
  unfold failPoint
  dsimp only
  split
  · exact h
  · exact latch_latches _ _ _ h

theorem failBankPoints_latches (b : Fin 3) (h : l.Latches s.lu) : l.Latches (failBankPoints b s).lu := by
  refine forPoints_latches (fun p u hu => ?_) h
  split
  · exact failPoint_latches p _ hu
  · exact hu

theorem failSlotPoints_latches (i : Fin 8) (h : l.Latches s.lu) : l.Latches (failSlotPoints i s).lu := by
  refine forPoints_latches (fun p u hu => ?_) h
  split
  · exact failPoint_latches p _ hu
  · exact hu

theorem endFullTrim_latches (b : Fin 3) (lo hi : Nat) (h : l.Latches s.lu) : l.Latches (endFullTrim b lo hi s).lu := by
  unfold endFullTrim
  dsimp only
  split
  · exact h
  · exact failBankPoints_latches b (latch_latches _ _ _ h)

theorem applyPointChange_latches (w : WorkingMemory) (p : Fin 32) (h : l.Latches s.lu) : l.Latches (applyPointChange w p s).lu := by
  unfold applyPointChange
  dsimp only
  repeat' split
  all_goals first | exact h | exact failPoint_latches p _ h

/-! ### The module line -/

theorem loseSlot_latches (i : Fin 8) (h : l.Latches s.lu) : l.Latches (loseSlot i s).lu := by
  simp only [loseSlot, tellDrives_frame]
  exact failSlotPoints_latches i (latch_latches _ _ _ h)

theorem countExchange_latches (i : Fin 8) (b : Bool) (h : l.Latches s.lu) : l.Latches (countExchange i b s).lu := by
  unfold countExchange
  dsimp only
  repeat' split
  · exact h
  · exact h
  · exact loseSlot_latches (s := s.putSlot i _) i h
  · exact h

theorem reportDrive_latches (i : Fin 8) (b : Option DriveData) (d : DriveData) (h : l.Latches s.lu) :
    l.Latches (reportDrive i b d s).lu := by
  simp only [reportDrive, tellDrives_frame]
  repeat' split
  all_goals first | exact h | exact latch_latches _ _ _ h

theorem findSlot_latches (i : Fin 8) (t : ModuleType) (d : DriveState) (f : Byte) (h : l.Latches s.lu) :
    l.Latches (findSlot i t d f s).lu := by
  simp only [findSlot]
  split
  · exact reportDrive_latches i _ _ (latch_latches _ _ _ h)
  · exact latch_latches _ _ _ h

theorem probeOutcome_latches (i : Fin 8) (a : Option ModuleAnswer) (h : l.Latches s.lu) : l.Latches (probeOutcome i a s).lu := by
  unfold probeOutcome
  dsimp only
  repeat' split
  all_goals first | exact h | exact findSlot_latches i _ _ _ h

theorem slotKindChanged_latches (i : Fin 8) (h : l.Latches s.lu) : l.Latches (slotKindChanged i s).lu := by
  simp only [slotKindChanged, tellDrives_frame]
  exact failSlotPoints_latches i h

theorem passDone_latches (i : Fin 8) (o : PassOutcome) (st : Option ModuleStatus) (v : Option Word16) (h : l.Latches s.lu) :
    l.Latches (passDone i o st v s).lu := latch_latches _ _ _ h

theorem grantPass_latches (h : l.Latches s.lu) : l.Latches (grantPass s).lu := by
  unfold grantPass
  repeat' split
  all_goals first | exact h | exact passDone_latches _ _ _ _ h

theorem arbitrate_latches (h : l.Latches s.lu) : l.Latches (arbitrate s).lu := by
  unfold arbitrate
  split
  · exact h
  · simp only [grantProbe_frame, grantRead_frame]
    exact grantPass_latches (by simpa using h)

theorem openLine_latches (h : l.Latches s.lu) : l.Latches (openLine s).lu :=
  arbitrate_latches (by simpa using h)

theorem endClosing_latches (h : l.Latches s.lu) : l.Latches (endClosing s).lu := by
  unfold endClosing
  split
  · exact openLine_latches h
  · exact h

theorem nextClosingStop_latches (hs : List (Fin 2)) (h : l.Latches s.lu) : l.Latches (nextClosingStop hs s).lu := by
  induction hs with
  | nil => exact endClosing_latches h
  | cons i rest ih =>
    unfold nextClosingStop
    repeat' split
    all_goals first | exact ih | exact h

theorem nextTraffic_latches (h : l.Latches s.lu) : l.Latches (nextTraffic s).lu := by
  unfold nextTraffic
  repeat' split
  all_goals first | exact h | exact arbitrate_latches h | exact nextClosingStop_latches _ h

theorem closeLine_latches (h : l.Latches s.lu) : l.Latches (closeLine s).lu := by
  unfold closeLine
  refine nextTraffic_latches ?_
  simp only [tellDrives_frame, forSlots_closeSlot_frame, State.setMl_lu]
  split
  · exact passDone_latches _ _ _ _ h
  · exact h

theorem driveAnswer_latches (i : Fin 8) (d : DriveData) (h : l.Latches s.lu) : l.Latches (driveAnswer i d s).lu := by
  refine reportDrive_latches i _ d ?_
  split
  · exact handItem_latches i _ _ (handItem_latches i _ _ (handItem_latches i _ _ (handItem_latches i _ _ h)))
  · exact h

theorem monitorAnswer_latches (i : Fin 8) (v : Vector Word16 4) (h : l.Latches s.lu) : l.Latches (monitorAnswer i v s).lu := by
  unfold monitorAnswer
  dsimp only
  split
  · exact handItem_latches i _ _ (handItem_latches i _ _ (handItem_latches i _ _ (handItem_latches i _ _ h)))
  · exact h

theorem itemAnswer_latches (i : Fin 8) (j : Byte) (st : ModuleStatus) (v : Word16) (h : l.Latches s.lu) :
    l.Latches (itemAnswer i j st v s).lu := by
  unfold itemAnswer
  split
  · exact handItem_latches i _ _ h
  · exact h

theorem slotOutcome_latches (x : Exchange) (a : Option ModuleAnswer) (h : l.Latches s.lu) : l.Latches (slotOutcome x a s).lu := by
  have hcount := countExchange_latches x.slot a.isSome h
  unfold slotOutcome
  dsimp only
  repeat' split
  · exact h
  · exact probeOutcome_latches _ _ hcount
  · exact driveAnswer_latches _ _ hcount
  · exact monitorAnswer_latches _ _ hcount
  · exact itemAnswer_latches _ _ _ _ hcount
  · exact hcount

theorem passOutcome_latches (x : Exchange) (a : Option ModuleAnswer) (h : l.Latches s.lu) : l.Latches (passOutcome x a s).lu := by
  unfold passOutcome
  repeat' split
  all_goals first | exact h | exact passDone_latches _ _ _ _ h

theorem endExchange_latches (x : Exchange) (a : Option ModuleAnswer) (h : l.Latches s.lu) : l.Latches (endExchange x a s).lu :=
  nextTraffic_latches (passOutcome_latches x a (slotOutcome_latches x a h))

theorem linesEnterRun_latches (h : l.Latches s.lu) : l.Latches (linesEnterRun s).lu := by
  unfold linesEnterRun
  split
  · exact openLine_latches h
  · exact h

theorem linesLeaveRun_latches (h : l.Latches s.lu) : l.Latches (linesLeaveRun s).lu := by
  unfold linesLeaveRun
  split
  · exact closeLine_latches h
  · exact h

theorem stage4_latches (a : Allotment) (h : l.Latches s.lu) : l.Latches (stage4 a s).lu := by
  have hzones (u : State) : ((List.finRange 12).foldl (fun s z => handZone a z s) u).lu = u.lu :=
    foldl_keeps (·.lu) _ (by simp) _ u
  have hhandlers : l.Latches (forHandlers (stage4Handler a) (s.setHs { s.hs with outstanding := false })).lu :=
    forHandlers_induct (P := fun u => l.Latches u.lu) (fun i _ hu => stage4Handler_latches a i hu) h
  simp only [stage4, forHandlers, evaluate_frame]
  refine arbitrate_latches ?_
  simpa [hzones, forHandlers] using hhandlers

/-! ### Operating states and the scan pass -/

theorem enterRun_latches (h : l.Latches s.lu) : l.Latches (enterRun s).lu := linesEnterRun_latches (by simpa using h)

theorem leaveRun_latches (h : l.Latches s.lu) : l.Latches (leaveRun s).lu := by
  refine linesLeaveRun_latches ?_
  simp only [zeroOutputs_frame, sensingLeavesRun_frame, renewalsLeaveRun_frame, emptyRecord_frame]
  exact handlersLeaveRun_latches (by simpa using h)

theorem doorWake_latches (h : l.Latches s.lu) : l.Latches (doorWake s).lu := by
  unfold doorWake
  split
  · exact enterRun_latches h
  · exact h

theorem endPass_latches (h : l.Latches s.lu) : l.Latches (endPass s).lu := by
  unfold endPass
  dsimp only
  repeat' split
  · exact enterRun_latches h
  · simpa using h
  · exact h

theorem listFrom_latches (ts : List (Fin 24)) (h : l.Latches s.lu) : l.Latches (listFrom ts s).lu := by
  unfold listFrom
  split
  · exact endPass_latches h
  · exact h

theorem beginList_latches (b : Option (Fin 3)) (ts : List (Fin 24)) (h : l.Latches s.lu) : l.Latches (beginList b ts s).lu := by
  unfold beginList
  split
  · exact listFrom_latches _ h
  · exact endPass_latches h

theorem beginTrim_latches (ts : List (Fin 24)) (h : l.Latches s.lu) : l.Latches (beginTrim ts s).lu := by
  unfold beginTrim
  split
  · simpa using h
  · exact beginList_latches _ _ h

theorem supplyWatch_latches (n : Nat) (h : l.Latches s.lu) : l.Latches (supplyWatch n s).lu := by
  unfold supplyWatch
  dsimp only
  repeat' split
  · simp only [holdTapPoints_frame]
    exact latch_latches (s := (s.setSu _).setSu _) _ _ _ h
  · exact h
  · exact latch_latches _ _ _ h
  · exact h

theorem afterTrim_latches (b : Fin 3) (ts : List (Fin 24)) (h : l.Latches s.lu) : l.Latches (afterTrim b ts s).lu := by
  unfold afterTrim
  split
  · exact endPass_latches h
  · exact beginList_latches _ _ h

/-! ### The profile -/

theorem loadProfile_latches (b : Bool) (h : l.Latches s.lu) : l.Latches (loadProfile b s).lu := by
  unfold loadProfile
  split
  · rwa [State.setPl_lu]
  · exact latch_latches (s := s.setPl _) _ _ _ (by rwa [State.setPl_lu])

theorem paramWritten_latches (w : WorkingMemory) (n : Nat) (h : l.Latches s.lu) : l.Latches (paramWritten w n s).lu := by
  unfold paramWritten
  dsimp only
  repeat' split
  case isTrue.isTrue => rwa [(zoneChannelChanged_frame s).2.2.2.2.2.2.2.1]
  case isFalse.isTrue => exact applyPointChange_latches w _ h
  case h_1 => rwa [(roleChanged_frame s _).2.2.2.2.2.2.2.1]
  case h_2 => rwa [(modulusChanged_frame s _).2.2.2.2.2.2.2.1]
  case h_3 => rwa [(stepChanged_frame s _).2.2.2.2.2.2.2.1]
  case h_4 => rwa [(polarityChanged_frame s _).2.2.2.2.2.2.2.1]
  case isFalse.isFalse.isFalse.isTrue => exact slotKindChanged_latches _ h
  all_goals exact h

theorem saveUnanswered_latches (w : WorkingMemory) (h : l.Latches s.lu) : l.Latches (saveUnanswered w s).lu :=
  latch_latches (s := (mixPage w s).setPl _) _ _ _ (by simpa using h)

theorem savePageRead_latches (w : WorkingMemory) (v : Vector Byte 64) (h : l.Latches s.lu) : l.Latches (savePageRead w v s).lu := by
  unfold savePageRead
  dsimp only
  repeat' split
  · exact latch_latches (s := (s.setEeprom _).setPl _) _ _ _ h
  · exact latch_latches (s := (s.setEeprom _).setPl _) _ _ _ h
  · exact h

end Sys2Proof.Machine

/-! ## The notice queue at every step (R154) -/

namespace Sys2Proof.Machine

variable {s : State}

theorem kick_queueBounded (h : s.QueueBounded) : (kick s).QueueBounded := by
  unfold kick
  split
  · exact h
  · exact LU.takeNext_ok h

theorem linkKeeps_queueBounded : LinkKeeps State.QueueBounded where
  setLu l hl hs := by
    unfold State.QueueBounded at hs ⊢
    rwa [State.setLu_lu, hl]
  kick := kick_queueBounded

theorem State.QueueBounded.of_latches {t : State} (h : s.QueueBounded) (ht : s.lu.Latches t.lu) : t.QueueBounded := ht.queueOk h

theorem State.QueueBounded.of_lu {t : State} (h : s.QueueBounded) (ht : t.lu = s.lu) : t.QueueBounded :=
  h.of_latches (ht ▸ .refl)

/-- Events and the transmitter's next frame keep the queue's bound. -/
theorem State.QueueBounded.kick_of_latches {t : State} (h : s.QueueBounded) (ht : s.lu.Latches t.lu) : (kick t).QueueBounded :=
  kick_queueBounded (h.of_latches ht)

/-! ### The link's own writes to the queue (R153, R158, R159) -/

theorem LU.disable_ok {l : LU} (mask : Word16) (k : EventKind) (h : l.QueueOk) : (LU.disable mask l k).QueueOk := by
  unfold LU.disable
  split
  · exact LU.dropNotice_ok (l := l.setEvent k _) h k
  · exact h

theorem LU.enableKind_ok {l : LU} (mask : Word16) (k : EventKind) (h : l.QueueOk) : (LU.enableKind mask l k).QueueOk := by
  unfold LU.enableKind
  dsimp only
  repeat' split
  · exact LU.queueNotice_ok (l := l.setEvent k _) h k
  · exact h
  · exact h

theorem LU.clearKind_ok {l : LU} (mask : Word16) (k : EventKind) (h : l.QueueOk) : (LU.clearKind mask l k).QueueOk := by
  unfold LU.clearKind
  split
  · exact LU.dropNotice_ok (l := l.setEvent k _) h k
  · exact h

theorem LU.foldl_ok {f : LU → EventKind → LU} (hf : ∀ l k, l.QueueOk → (f l k).QueueOk) (ks : List EventKind) {l : LU}
    (h : l.QueueOk) : (ks.foldl f l).QueueOk := by
  induction ks generalizing l with
  | nil => exact h
  | cons k ks ih => exact ih (hf l k h)

theorem LU.setReports_ok {l : LU} (mask : Word16) (h : l.QueueOk) : (l.setReports mask).QueueOk :=
  LU.foldl_ok (fun _ k hl => LU.enableKind_ok mask k hl) _ (LU.foldl_ok (fun _ k hl => LU.disable_ok mask k hl) _ h)

theorem LU.clearEvents_ok {l : LU} (mask : Word16) (h : l.QueueOk) : (l.clearEvents mask).QueueOk :=
  LU.foldl_ok (fun _ k hl => LU.clearKind_ok mask k hl) _ h

theorem LU.setEvent_ok {l : LU} (k : EventKind) (r : EventRecord) (h : l.QueueOk) : (l.setEvent k r).QueueOk := h

theorem LU.takeReportDefaults_ok {l : LU} (mask : Word16) (h : l.QueueOk) : (l.takeReportDefaults mask).QueueOk := by
  refine LU.foldl_ok (fun l k hl => ?_) _ (LU.foldl_ok (fun _ _ hl => LU.setEvent_ok _ _ hl) _ h)
  split
  · exact LU.queueNotice_ok hl k
  · exact hl

/-! ### Entries to WAKING and PARKED, RESTART, the load -/

theorem enterWaking_queue (s : State) : (enterWaking s).lu.queue = s.lu.queue := by simp [enterWaking]

theorem enterParked_queue (s : State) : (enterParked s).lu.queue = s.lu.queue := by
  unfold enterParked
  dsimp only
  split
  · rw [enterWaking_queue]
    simp [LU.park]
  · simp [LU.park]

theorem State.QueueBounded.of_queue {t : State} (h : s.QueueBounded) (ht : t.lu.queue = s.lu.queue) : t.QueueBounded := by
  unfold State.QueueBounded at h ⊢
  rwa [ht]

theorem LU.restart_queue (l : LU) : l.restart.queue = [] := by
  unfold LU.restart
  rfl

theorem restartEffect_queueBounded (s : State) : (restartEffect s).QueueBounded := by
  unfold restartEffect
  refine State.QueueBounded.of_latches (s := State.setSc (State.setLu _ _) _) ?_ (enterRun_latches .refl)
  unfold State.QueueBounded
  rw [State.setSc_lu, State.setLu_lu, LU.restart_queue]
  exact ⟨Nat.zero_le _, List.nodup_nil⟩

theorem wake_queueBounded (h : s.QueueBounded) : (wake s).QueueBounded := by
  unfold wake
  repeat' split
  · exact h
  · exact h.of_latches (enterRun_latches .refl)
  · exact h.of_queue (enterWaking_queue s)
  all_goals exact h

theorem blocksLoaded_queueBounded (h : s.QueueBounded) : (blocksLoaded s).QueueBounded := by
  have hl : (blocksLoaded s).lu = s.lu.takeReportDefaults s.wm.reportDefaults := by
    simp [blocksLoaded, State.wm]
  unfold State.QueueBounded
  rw [hl]
  exact LU.takeReportDefaults_ok _ h

/-! ### Every command -/

theorem exec_moment_queueBounded {c : Instr} (hc : encodeRequest c = none) (hl : onLink c = false) (h : s.QueueBounded) :
    Ends State.QueueBounded (exec c s) := by
  cases c <;> simp only [encodeRequest, reduceCtorEq] at hc <;> simp only [onLink, Bool.true_eq_false] at hl
  case hardReset => exact ends_next.mpr ⟨Nat.zero_le _, List.nodup_nil⟩
  case profileLoadComplete a =>
    simp only [exec, execProfileLoadComplete, ends_ite, ends_next]
    split
    · exact kick_queueBounded (blocksLoaded_queueBounded (h.of_latches (loadProfile_latches a .refl)))
    · exact h
  case parkEntry =>
    simp only [exec, execParkEntry, ends_ite, ends_next]
    split
    · exact kick_queueBounded (h.of_queue (enterParked_queue s))
    · exact h
  case restartEffect =>
    simp only [exec, execRestartEffect, ends_ite, ends_next]
    split
    · exact kick_queueBounded (restartEffect_queueBounded s)
    · exact h
  case wakeDebounceExpiry =>
    simp only [exec, execWakeDebounceExpiry, ends_ite, ends_next]
    repeat' split
    · exact h
    · exact kick_queueBounded (wake_queueBounded h)
    · exact h
  case savePageComplete page =>
    simp only [exec, execSavePageComplete]
    repeat' split
    · exact ends_next.mpr (h.kick_of_latches (savePageRead_latches _ _ .refl))
    · exact ends_next.mpr (h.kick_of_latches (saveUnanswered_latches _ .refl))
    · exact ends_next.mpr h
  case savePollTimeout =>
    simp only [exec, execSavePollTimeout]
    split
    · exact ends_next.mpr (h.kick_of_latches (saveUnanswered_latches _ .refl))
    · exact ends_next.mpr h
  case demandSetReceived =>
    simp only [exec, execDemandSetReceived]
    split
    · exact ends_next.mpr h
    · refine ends_next.mpr (h.kick_of_latches ?_)
      split
      · exact stage2_latches _ .refl
      · exact .refl
  case allotmentAtHs =>
    simp only [exec, execAllotmentAtHs]
    split
    · exact ends_next.mpr h
    · refine ends_next.mpr (h.kick_of_latches ?_)
      split
      · exact stage4_latches _ .refl
      · exact .refl
  case lifetimeExpiry =>
    simp only [exec, execLifetimeExpiry, ends_ite, ends_next]
    split
    · exact h.kick_of_latches (latch_latches (s := s.setPa _) _ _ _ .refl)
    · exact h
  case intervalExpiry i =>
    simp only [exec, execIntervalExpiry, ends_ite, ends_next]
    split
    · exact h
    · exact h.kick_of_latches (intervalExpired_latches i .refl)
  case doorDebounceExpiry d =>
    simp only [exec, execDoorDebounceExpiry, ends_ite, ends_next]
    repeat' split
    · exact h
    · exact h
    · exact h.kick_of_latches (doorWake_latches .refl)
  case supplyConversion code =>
    simp only [exec, execSupplyConversion]
    split
    · refine ends_next.mpr (h.kick_of_latches ?_)
      split
      · exact endPass_latches (supplyWatch_latches _ .refl)
      · exact beginTrim_latches _ (supplyWatch_latches _ .refl)
    · exact ends_next.mpr h
  case fullTrim =>
    simp only [exec, execFullTrim]
    split
    · exact ends_next.mpr (h.kick_of_latches (afterTrim_latches _ _ (endFullTrim_latches _ _ _ .refl)))
    · exact ends_next.mpr h
  case shortTrim =>
    simp only [exec, execShortTrim]
    split
    · exact ends_next.mpr (h.kick_of_latches (afterTrim_latches _ _ (by simpa using LU.Latches.refl)))
    · exact ends_next.mpr h
  case tapReading =>
    simp only [exec, execTapReading]
    split
    · exact ends_next.mpr (h.kick_of_latches (listFrom_latches _ (forPoints_latches (fun p _ hu => takeRaw_latches _ _ p hu) .refl)))
    · exact ends_next.mpr h
  case moduleAnswerReceived =>
    simp only [exec, execModuleAnswerReceived]
    repeat' split
    · exact ends_next.mpr (h.kick_of_latches (endExchange_latches _ _ .refl))
    all_goals exact ends_next.mpr h
  case moduleResponseTimeout =>
    simp only [exec, execModuleResponseTimeout]
    repeat' split
    · exact ends_next.mpr h
    · exact ends_next.mpr (h.kick_of_latches (endExchange_latches _ _ .refl))
    all_goals exact ends_next.mpr h
  case probeTimerExpiry i =>
    simp only [exec, execProbeTimerExpiry, ends_ite, ends_next]
    split
    · exact h.kick_of_latches (arbitrate_latches .refl)
    · exact h
  case readTimerExpiry i =>
    simp only [exec, execReadTimerExpiry, ends_ite, ends_next]
    split
    · exact h.kick_of_latches (arbitrate_latches .refl)
    · exact h
  case accountTimerExpiry =>
    simp only [exec, execAccountTimerExpiry, ends_ite, ends_next]
    split
    · exact h.of_lu (by simp [forHandlers])
    · exact h
  all_goals
    simp only [exec, execRegulationTimerExpiry, execRequestSetReceived, execAllotmentAtZr, execOuValueReceived,
      execRestTimerExpiry, execDwellTimerExpiry, execRenewalComplete, execDoorInputChange, execDoorTimerExpiry,
      execWakeInputChange, execScanGapExpiry, execTrimIntervalExpiry, execPointStale, execPeriodEnd, execCompareReached,
      execModuleAnswerGap, execModuleRequestSent]
    repeat' split
    all_goals exact ends_next.mpr (h.of_lu (by simp))

theorem requestOwner_latches (c : Instr) (s : State) (hr : ∀ m, c ≠ .setReports m) (hc : ∀ m, c ≠ .clearEvents m) (hp : c ≠ .park)
    (hre : c ≠ .restart) : s.lu.Latches (requestOwner c s).1.lu := by
  cases c
  case setReports m => exact absurd rfl (hr m)
  case clearEvents m => exact absurd rfl (hc m)
  case park => exact absurd rfl hp
  case restart => exact absurd rfl hre
  case mapPoint p e so k cu f =>
    simp only [requestOwner, mapPointOwner]
    repeat' split
    · exact .refl
    · exact .refl
    · exact .refl
    · exact .refl
    · refine applyPointChange_latches _ _ ?_
      rw [State.setPl_lu]
      exact .refl
  case pass i o it v =>
    simp only [requestOwner, passOwner]
    split
    · repeat' split
      · exact .refl
      · exact .refl
      · exact .refl
      · exact .refl
      all_goals exact arbitrate_latches .refl
    · exact .refl
  case lineEnable v =>
    simp only [requestOwner, lineEnableOwner]
    repeat' split
    all_goals dsimp only
    · refine openLine_latches ?_
      exact .refl
    · exact .refl
    · refine closeLine_latches ?_
      exact .refl
    · exact .refl
    · exact .refl
  case standby =>
    simp only [requestOwner, standbyOwner]
    split
    · exact leaveRun_latches .refl
    · exact .refl
  case resume =>
    simp only [requestOwner, resumeOwner]
    split
    · exact enterRun_latches .refl
    · exact .refl
  case setParam n v =>
    simp only [requestOwner, setParamOwner]
    repeat' split
    · exact .refl
    · exact .refl
    · exact .refl
    · exact .refl
    · refine paramWritten_latches _ _ ?_
      rw [State.setPl_lu]
      exact .refl
  all_goals
    simp only [requestOwner, identifyOwner_state, statusOwner_state, setSetpointsOwner_frame, setZoneEnableOwner_frame,
      readZonesOwner_state, readHandlersOwner_state, grantOwner_state, readAllotmentOwner_state, airHoldOwner_frame,
      renewNowOwner_frame, readRenewalsOwner_state, trimOwner_frame, readPointsOwner_state, overrideOwner_frame,
      readOutputsOwner_state, passResultOwner_frame, readModulesOwner_state, cadenceOwner_frame, getParamOwner_state,
      saveProfileOwner_frame, State.setPa_lu]
    exact .refl

theorem parkOwner_queue (s : State) : (parkOwner s).1.lu.queue = s.lu.queue := by
  unfold parkOwner
  repeat' split
  all_goals rfl

theorem restartOwner_queue (s : State) : (restartOwner s).1.lu.queue = s.lu.queue := by
  simp only [restartOwner]
  split <;> rfl

theorem requestOwner_queueBounded (c : Instr) (h : s.QueueBounded) : (requestOwner c s).1.QueueBounded := by
  by_cases hl : (∀ m, c ≠ .setReports m) ∧ (∀ m, c ≠ .clearEvents m) ∧ c ≠ .park ∧ c ≠ .restart
  · obtain ⟨hr, hc, hp, hre⟩ := hl
    exact h.of_latches (requestOwner_latches c s hr hc hp hre)
  · cases c
    case setReports m =>
      unfold State.QueueBounded
      rw [requestOwner, setReportsOwner_state, State.setLu_lu]
      exact LU.setReports_ok m h
    case clearEvents m =>
      unfold State.QueueBounded
      rw [requestOwner, clearEventsOwner_state, State.setLu_lu]
      exact LU.clearEvents_ok m h
    case park => exact h.of_queue (parkOwner_queue s)
    case restart => exact h.of_queue (restartOwner_queue s)
    all_goals exact absurd (by simp) hl

theorem tickTimers_queue (s : State) : (tickTimers s).lu.queue = s.lu.queue := by
  unfold tickTimers tickPoints
  dsimp only
  repeat' split
  all_goals rfl

/-- Settles O57. -/
theorem stepKeepsQueueBounded : Obligations.StepKeepsQueueBounded := fun s _ =>
  step_keeps (fun _ _ h => h) (fun s h => h.of_queue (tickTimers_queue s))
    (fun c _ h => linkKeeps_queueBounded.exec (fun c _ _ h => requestOwner_queueBounded c h)
      (fun _ _ hc hl h => exec_moment_queueBounded hc hl h) c h)

end Sys2Proof.Machine

/-! ## The gated outputs at every step (R111)

A step leaves the channels and stays in its operating state or enters RUN, or it writes the channels in RUN, or it writes zeros. -/

namespace Sys2Proof.Machine

variable {s : State}

/-- A channel that gives nothing: both compares and values 0, no override (R111). -/
def Channel.Gated (x : Channel) : Prop :=
  x.compare = 0 ∧ x.pendingCompare = 0 ∧ x.received = 0 ∧ x.effective = 0 ∧ x.override = none

theorem State.OutputsGated.of_run {t : State} (ht : t.sc.opState = .run) : t.OutputsGated := fun h => absurd ht h

/-- With the channels as they were, a state that stays or becomes RUN keeps them gated. -/
theorem State.OutputsGated.of_ou {t : State} (h : s.OutputsGated) (hou : t.ou = s.ou)
    (hop : t.sc.opState = s.sc.opState ∨ t.sc.opState = .run) : t.OutputsGated := by
  rcases hop with hop | hop
  · intro ht c
    have := h (hop ▸ ht) c
    simpa [State.channel, hou] using this
  · exact .of_run hop

theorem putChannel_gated {x : Channel} (c : Fin 16) (h : s.OutputsGated) (hx : (s.channel c).Gated → x.Gated) :
    (s.putChannel c x).OutputsGated := fun hs d => by
  by_cases hcd : c = d
  · subst hcd
    rw [State.putChannel_channel_same]
    exact hx (h hs c)
  · rw [State.putChannel_channel_other s hcd]
    exact h hs d

theorem compareOf_zero (m : Nat) : compareOf 0 m = 0 := by simp [compareOf]

theorem effectiveOf_zero (r : Role) : effectiveOf r 0 none = 0 := by cases r <;> rfl

/-- A channel with nothing received and no override computes to nothing (R108, R109). -/
theorem Channel.recompute_gated {x : Channel} (hc : x.compare = 0) (hr : x.received = 0) (ho : x.override = none) : x.recompute.Gated := by
  simp [Channel.Gated, Channel.recompute, hc, hr, ho, effectiveOf_zero, compareOf_zero]

theorem Channel.zero_gated (x : Channel) : x.zero.Gated := ⟨rfl, rfl, rfl, rfl, rfl⟩

theorem zeroOutputs_channel (s : State) (c : Fin 16) : (zeroOutputs s).channel c = (s.channel c).zero := by
  simp [zeroOutputs, State.channel]

theorem zeroOutputs_gated (s : State) : (zeroOutputs s).OutputsGated := fun _ c => by
  rw [zeroOutputs_channel]
  exact Channel.zero_gated _

/-! ### The operating state after each operation -/

theorem enterRun_opState (s : State) : (enterRun s).sc.opState = .run := by simp [enterRun]

theorem restartEffect_opState (s : State) : (restartEffect s).sc.opState = .run := by
  simp only [restartEffect, enterRun_opState]

theorem doorWake_opState (s : State) : (doorWake s).sc.opState = s.sc.opState ∨ (doorWake s).sc.opState = .run := by
  unfold doorWake
  split
  · exact .inr (enterRun_opState s)
  · exact .inl rfl

theorem endPass_opState (s : State) : (endPass s).sc.opState = s.sc.opState ∨ (endPass s).sc.opState = .run := by
  unfold endPass
  dsimp only
  repeat' split
  · exact .inr (enterRun_opState _)
  · exact .inl (by simp)
  · exact .inl rfl

theorem listFrom_opState (l : List (Fin 24)) (s : State) :
    (listFrom l s).sc.opState = s.sc.opState ∨ (listFrom l s).sc.opState = .run := by
  unfold listFrom
  split
  · exact endPass_opState s
  · exact .inl rfl

theorem beginList_opState (b : Option (Fin 3)) (l : List (Fin 24)) (s : State) :
    (beginList b l s).sc.opState = s.sc.opState ∨ (beginList b l s).sc.opState = .run := by
  unfold beginList
  split
  · exact listFrom_opState _ s
  · exact endPass_opState s

theorem beginTrim_opState (l : List (Fin 24)) (s : State) :
    (beginTrim l s).sc.opState = s.sc.opState ∨ (beginTrim l s).sc.opState = .run := by
  unfold beginTrim
  split
  · exact .inl (by simp)
  · exact beginList_opState _ _ s

theorem afterTrim_opState (b : Fin 3) (l : List (Fin 24)) (s : State) :
    (afterTrim b l s).sc.opState = s.sc.opState ∨ (afterTrim b l s).sc.opState = .run := by
  unfold afterTrim
  split
  · exact endPass_opState s
  · exact beginList_opState _ _ s

/-- A moment that leaves the channels stays in its operating state or enters RUN. -/
theorem exec_moment_opState {c : Instr} (hc : encodeRequest c = none) (hl : onLink c = false) (hw : writesOutputs c = false) :
    Ends (fun t => t.sc.opState = s.sc.opState ∨ t.sc.opState = .run) (exec c s) := by
  cases c <;> simp only [encodeRequest, reduceCtorEq] at hc <;> simp only [onLink, Bool.true_eq_false] at hl <;>
    simp only [writesOutputs, Bool.true_eq_false] at hw
  case doorDebounceExpiry d =>
    simp only [exec, execDoorDebounceExpiry, ends_ite, ends_next]
    repeat' split
    · simp
    · simp
    · rw [(kick_frame _).2.2.2.2.2.2.2.1]
      exact doorWake_opState _
  case supplyConversion code =>
    simp only [exec, execSupplyConversion]
    split
    · rw [ends_next, (kick_frame _).2.2.2.2.2.2.2.1, ← (supplyWatch_frame s code.toNat).2.2.2.2.2.2.1]
      split
      · exact endPass_opState _
      · exact beginTrim_opState _ _
    · exact ends_next.mpr (.inl rfl)
  case fullTrim low high =>
    simp only [exec, execFullTrim]
    split
    · next b l _ =>
      rw [ends_next, (kick_frame _).2.2.2.2.2.2.2.1,
        ← (endFullTrim_frame s b (codeMean low.toList 32) (codeMean high.toList 32)).2.2.2.2.2.2.1]
      exact afterTrim_opState _ _ _
    · exact ends_next.mpr (.inl rfl)
  case shortTrim low high =>
    simp only [exec, execShortTrim]
    split
    · next b l _ =>
      rw [ends_next, (kick_frame _).2.2.2.2.2.2.2.1]
      simpa using afterTrim_opState b l (endShortTrim b (codeMean low.toList 4) (codeMean high.toList 4) s)
    · exact ends_next.mpr (.inl rfl)
  case tapReading raw =>
    simp only [exec, execTapReading]
    split
    · next t rest _ =>
      rw [ends_next, (kick_frame _).2.2.2.2.2.2.2.1]
      simpa using listFrom_opState rest (forPoints (takeRaw t raw.toNat) s)
    · exact ends_next.mpr (.inl rfl)
  case accountTimerExpiry =>
    simp only [exec, execAccountTimerExpiry]
    split
    all_goals simp [forHandlers]
  all_goals
    simp only [exec, execSavePageComplete, execSavePollTimeout,
      execRegulationTimerExpiry, execDemandSetReceived, execRequestSetReceived, execAllotmentAtHs, execAllotmentAtZr,
      execRestTimerExpiry, execDwellTimerExpiry, execLifetimeExpiry,
      execIntervalExpiry, execRenewalComplete, execDoorInputChange, execDoorTimerExpiry,
      execWakeInputChange, execScanGapExpiry, execTrimIntervalExpiry, execPointStale, execModuleAnswerReceived,
      execModuleResponseTimeout, execModuleAnswerGap, execProbeTimerExpiry, execReadTimerExpiry, execModuleRequestSent]
    repeat' split
    all_goals simp

/-! ### The moments that write the channels -/

theorem channelsLoaded_gated (h : s.OutputsGated) : (channelsLoaded s).OutputsGated := fun hs c => by
  have hc := h hs c
  simpa [channelsLoaded, State.channel] using hc

theorem blocksLoaded_gated (h : s.OutputsGated) : (blocksLoaded s).OutputsGated := by
  refine State.OutputsGated.of_ou
    (channelsLoaded_gated (s := pointsLoaded (renewalsLoaded (handlersLoaded (zonesLoaded s)))) (h.of_ou ?_ (.inl ?_))) ?_ (.inl ?_)
  all_goals simp [blocksLoaded]

theorem enterWaking_gated (s : State) : (enterWaking s).OutputsGated := by
  unfold enterWaking
  exact State.OutputsGated.of_ou (s := zeroOutputs _) (zeroOutputs_gated _) rfl (.inl rfl)

theorem enterParked_gated (s : State) : (enterParked s).OutputsGated := by
  unfold enterParked
  dsimp only
  split
  · exact enterWaking_gated _
  · exact zeroOutputs_gated _

theorem wake_gated (h : s.OutputsGated) : (wake s).OutputsGated := by
  unfold wake
  repeat' split
  · exact h
  · exact .of_run (enterRun_opState s)
  · exact enterWaking_gated s
  all_goals exact h

theorem Channel.endPeriod_gated {x : Channel} (h : x.Gated) : x.endPeriod.Gated := by
  obtain ⟨hc, hp, hr, he, ho⟩ := h
  simp [Channel.Gated, Channel.endPeriod, hp, hr, he, ho, compareOf_zero]

theorem exec_writesOutputs_gated {c : Instr} (hw : writesOutputs c = true) (h : s.OutputsGated) :
    Ends State.OutputsGated (exec c s) := by
  have hkick {u : State} (hu : u.OutputsGated) : (kick u).OutputsGated := hu.of_ou (by simp) (.inl (by simp))
  cases c <;> simp only [writesOutputs, Bool.false_eq_true] at hw
  case hardReset =>
    refine ends_next.mpr fun _ c => ?_
    simp [afterHardReset, State.reset, State.channel, Channel.reset]
  case profileLoadComplete a =>
    simp only [exec, execProfileLoadComplete, ends_ite, ends_next]
    split
    · exact hkick (blocksLoaded_gated (h.of_ou (by simp) (.inl (by simp))))
    · exact h
  case parkEntry =>
    simp only [exec, execParkEntry, ends_ite, ends_next]
    split
    · exact hkick (enterParked_gated s)
    · exact h
  case restartEffect =>
    simp only [exec, execRestartEffect, ends_ite, ends_next]
    split
    · exact hkick (.of_run (restartEffect_opState s))
    · exact h
  case wakeDebounceExpiry =>
    simp only [exec, execWakeDebounceExpiry, ends_ite, ends_next]
    repeat' split
    · exact h
    · exact hkick (wake_gated h)
    · exact h
  case ouValueReceived =>
    simp only [exec, execOuValueReceived]
    split
    · exact ends_next.mpr h
    · rw [ends_next]
      split
      · next hrun => exact .of_run (by simpa using hrun)
      · exact h
  case periodEnd c =>
    simp only [exec, execPeriodEnd, ends_ite, ends_next]
    split
    · exact putChannel_gated c h Channel.endPeriod_gated
    · exact h
  case compareReached c =>
    simp only [exec, execCompareReached, ends_ite, ends_next]
    split
    · exact putChannel_gated c h id
    · exact h

/-! ### The requests that write the channels or the operating state -/

theorem linesLeaveRun_gated (h : s.OutputsGated) : (linesLeaveRun s).OutputsGated := h.of_ou (by simp) (.inl (by simp))

theorem leaveRun_gated (s : State) : (leaveRun s).OutputsGated := by
  unfold leaveRun
  exact linesLeaveRun_gated (zeroOutputs_gated _)

theorem overrideOwner_gated (c a : Byte) (v : Word16) (hs : s.InService) (h : s.OutputsGated) : (overrideOwner c a v s).1.OutputsGated := by
  rcases hs with hs | hs
  · exact .of_run (by simpa using hs)
  · have hstate : (overrideOwner c a v s).1 = s := by
      unfold overrideOwner
      dsimp only
      repeat' split
      all_goals first | rfl | exact absurd hs ‹_›
    rwa [hstate]

theorem deriveBound_gated (c : Fin 16) (h : s.OutputsGated) : (deriveBound c s).OutputsGated := by
  refine putChannel_gated c h fun ⟨hc, hp, hr, he, ho⟩ => ?_
  split
  · exact Channel.recompute_gated hc rfl ho
  · exact ⟨hc, hp, hr, he, ho⟩

theorem roleChanged_gated (c : Fin 16) (h : s.OutputsGated) : (roleChanged c s).OutputsGated :=
  putChannel_gated c h fun ⟨hc, _⟩ => Channel.recompute_gated hc rfl rfl

theorem paramWritten_gated (w : WorkingMemory) (n : Nat) (h : s.OutputsGated) : (paramWritten w n s).OutputsGated := by
  have hou {t : State} (hou : t.ou = s.ou) (hsc : t.sc = s.sc) : t.OutputsGated := h.of_ou hou (.inl (by rw [hsc]))
  unfold paramWritten
  dsimp only
  repeat' split
  case isTrue.isTrue => exact foldl_induct (fun u c hu => deriveBound_gated c hu) _ h
  case isFalse.isTrue =>
    refine hou ?_ ?_
    · rw [(applyPointChange_frame s w _).2.2.2.2.1]
    · rw [(applyPointChange_frame s w _).2.2.2.2.2.2.1]
  case h_1 => exact roleChanged_gated _ h
  case h_2 => exact putChannel_gated _ h id
  case h_3 => exact putChannel_gated _ h id
  case h_4 => exact putChannel_gated _ h id
  case isFalse.isFalse.isFalse.isTrue =>
    refine hou ?_ ?_
    · rw [(slotKindChanged_frame s _).2.2.2.1]
    · rw [(slotKindChanged_frame s _).2.2.2.2.1]
  all_goals exact h

theorem setParamOwner_gated (n v : Word16) (h : s.OutputsGated) : (setParamOwner n v s).1.OutputsGated := by
  unfold setParamOwner
  dsimp only
  repeat' split
  · exact h
  · exact h
  · exact h
  · exact h
  · exact paramWritten_gated _ _ h

theorem requestOwner_opState (c : Instr) (s : State) (hst : c ≠ .standby) :
    (requestOwner c s).1.sc.opState = s.sc.opState ∨ (requestOwner c s).1.sc.opState = .run := by
  cases c
  case standby => exact absurd rfl hst
  case resume =>
    simp only [requestOwner, resumeOwner]
    split
    · exact .inr (enterRun_opState s)
    · exact .inl rfl
  case park =>
    simp only [requestOwner, parkOwner]
    repeat' split
    all_goals exact .inl rfl
  case cadence v =>
    simp only [requestOwner, cadenceOwner]
    repeat' split
    all_goals exact .inl rfl
  all_goals exact .inl (by simp [requestOwner])

theorem requestOwner_gated (c : Instr) (hs : s.InService) (h : s.OutputsGated) : (requestOwner c s).1.OutputsGated := by
  by_cases hst : c = .standby
  · subst hst
    simp only [requestOwner, standbyOwner]
    split
    · exact leaveRun_gated s
    · exact h
  · by_cases hw : (∀ i a v, c ≠ .override i a v) ∧ ∀ n v, c ≠ .setParam n v
    · obtain ⟨ho, hp⟩ := hw
      exact h.of_ou ((requestOwner_frame c s).2.2.2.2 ho hp hst) (requestOwner_opState c s hst)
    · cases c
      case override i a v => exact overrideOwner_gated i a v hs h
      case setParam n v => exact setParamOwner_gated n v h
      all_goals exact absurd (by simp) hw

theorem exec_keeps_outputsGated (c : Instr) (h : s.OutputsGated) : Ends State.OutputsGated (exec c s) := by
  refine (LinkKeeps.of_setLu fun _ _ h => h).exec (fun c u hs h => requestOwner_gated c hs h) (fun c u hc hl h => ?_) c h
  cases hw : writesOutputs c with
  | true => exact exec_writesOutputs_gated hw h
  | false =>
    obtain ⟨t, ht, _, _, _, _, hou⟩ := exec_moment_frame u hc hl
    exact ⟨t, ht, h.of_ou (hou hw) ((exec_moment_opState hc hl hw).of_eq ht)⟩

theorem Channel.tick_gated {x : Channel} (h : x.Gated) : x.tick.Gated := by
  unfold Channel.tick
  repeat' split
  all_goals exact h

theorem tickTimers_channel (s : State) (c : Fin 16) :
    (tickTimers s).channel c = if s.pl.loadState = .loaded then (s.channel c).tick else s.channel c := by
  unfold tickTimers tickPoints
  dsimp only
  repeat' split
  all_goals simp_all [State.channel]

theorem tickTimers_opState (s : State) : (tickTimers s).sc.opState = s.sc.opState := by
  unfold tickTimers tickPoints
  dsimp only
  repeat' split
  all_goals rfl

theorem tickTimers_gated (h : s.OutputsGated) : (tickTimers s).OutputsGated := fun hs c => by
  have hc : (s.channel c).Gated := h (tickTimers_opState s ▸ hs) c
  rw [tickTimers_channel]
  split
  · exact Channel.tick_gated hc
  · exact hc

/-- Settles O59. -/
theorem stepKeepsOutputsGated : Obligations.StepKeepsOutputsGated := fun s _ =>
  step_keeps (fun _ _ h => h) (fun _ h => tickTimers_gated h) (fun c _ h => exec_keeps_outputsGated c h)

/-- Settles O54. -/
theorem resetHasEveryInvariant : Obligations.ResetHasEveryInvariant := by
  refine ⟨fun h => ?_, rfl, ⟨Nat.zero_le _, List.nodup_nil⟩, State.reset_eeprom_wf, fun _ c => ?_, Nat.le_refl 0⟩
  · simp [State.renewal, State.reset, Renewal.reset]
  · simp [State.channel, State.reset, Channel.reset]

end Sys2Proof.Machine

/-! ## Requests and their frames (R149, R171)

A payload is read back word by word and pair by pair; what reads as a request is that request's payload. -/

namespace Sys2Proof

open Sys2Proof.Machine (wordBytes bytesWord)

/-! ### Words and pairs as bytes (R170) -/

@[simp] theorem bytesWord_extract (w : Word16) : bytesWord (w.extractLsb' 8 8) (w.extractLsb' 0 8) = w := by
  refine BitVec.eq_of_getLsbD_eq fun i hi => ?_
  simp only [bytesWord, BitVec.getLsbD_append, BitVec.getLsbD_extractLsb']
  by_cases h : i < 8
  · simp [h]
  · have h8 : i - 8 < 8 := by omega
    have he : 8 + (i - 8) = i := by omega
    simp [h, h8, he]

theorem extract_high_append (hi lo : Byte) : (hi ++ lo).extractLsb' 8 8 = hi := by
  refine BitVec.eq_of_getLsbD_eq fun i hi8 => ?_
  rw [BitVec.getLsbD_extractLsb', BitVec.getLsbD_append, if_neg (by omega)]
  simp [hi8]

theorem extract_low_append (hi lo : Byte) : (hi ++ lo).extractLsb' 0 8 = lo := by
  refine BitVec.eq_of_getLsbD_eq fun i hi8 => ?_
  rw [BitVec.getLsbD_extractLsb', BitVec.getLsbD_append, if_pos (by omega)]
  simp [hi8]

@[simp] theorem wordBytes_bytesWord (hi lo : Byte) : wordBytes (bytesWord hi lo) = [hi, lo] := by
  rw [wordBytes, bytesWord, extract_high_append, extract_low_append]

theorem readPairs_pairPayload (pairs : List (Byte × Word16)) : readPairs (pairPayload pairs) = some pairs := by
  induction pairs with
  | nil => rfl
  | cons p pairs ih =>
    have hcons : readPairs (pairPayload (p :: pairs))
        = (readPairs (pairPayload pairs)).map ((p.1, bytesWord (p.2.extractLsb' 8 8) (p.2.extractLsb' 0 8)) :: ·) := rfl
    rw [hcons, ih, bytesWord_extract]
    rfl

theorem pairPayload_of_readPairs {p : List Byte} {pairs : List (Byte × Word16)} (h : readPairs p = some pairs) : pairPayload pairs = p := by
  induction p using readPairs.induct generalizing pairs with
  | case1 =>
    cases h
    rfl
  | case2 z hi lo rest ih =>
    simp only [readPairs, Option.map_eq_some_iff] at h
    obtain ⟨pairs', hrest, rfl⟩ := h
    have hcons : pairPayload ((z, bytesWord hi lo) :: pairs') = z :: wordBytes (bytesWord hi lo) ++ pairPayload pairs' := rfl
    rw [hcons, ih hrest, wordBytes_bytesWord]
    rfl
  | case3 p hnil hthree =>
    have : readPairs p = none := by
      unfold readPairs
      split
      · exact absurd rfl hnil
      · next z hi lo rest => exact absurd rfl (hthree z hi lo rest)
      · rfl
    rw [this] at h
    cases h

/-! ### Reading a payload of each form -/

variable {p : List Byte} {c : Instr}

theorem readNone_encodes {k : Byte} {i : Instr} (hi : encodeRequest i = some (k, [])) (h : readNone i p = .request c) :
    encodeRequest c = some (k, p) := by
  unfold readNone at h
  split at h <;> cases h
  exact hi

theorem readOne_encodes {k : Byte} {f : Byte → Instr} (hf : ∀ a, encodeRequest (f a) = some (k, [a])) (h : readOne f p = .request c) :
    encodeRequest c = some (k, p) := by
  unfold readOne at h
  split at h <;> cases h
  exact hf _

theorem readTwo_encodes {k : Byte} {f : Byte → Byte → Instr} (hf : ∀ a b, encodeRequest (f a b) = some (k, [a, b]))
    (h : readTwo f p = .request c) : encodeRequest c = some (k, p) := by
  unfold readTwo at h
  split at h <;> cases h
  exact hf _ _

theorem readWord_encodes {k : Byte} {f : Word16 → Instr} (hf : ∀ w, encodeRequest (f w) = some (k, wordBytes w))
    (h : readWord f p = .request c) : encodeRequest c = some (k, p) := by
  unfold readWord at h
  split at h <;> cases h
  rw [hf, wordBytes_bytesWord]

theorem readGrant_encodes (h : readGrant p = .request c) : encodeRequest c = some (0x20, p) := by
  unfold readGrant at h
  split at h <;> cases h
  simp [encodeRequest]

theorem readMapPoint_encodes (h : readMapPoint p = .request c) : encodeRequest c = some (0x31, p) := by
  unfold readMapPoint at h
  split at h <;> cases h
  rfl

theorem readOverride_encodes (h : readOverride p = .request c) : encodeRequest c = some (0x38, p) := by
  unfold readOverride at h
  split at h <;> cases h
  simp [encodeRequest]

theorem readPass_encodes (h : readPass p = .request c) : encodeRequest c = some (0x40, p) := by
  unfold readPass at h
  split at h <;> cases h
  simp [encodeRequest]

theorem readSetParam_encodes (h : readSetParam p = .request c) : encodeRequest c = some (0x51, p) := by
  unfold readSetParam at h
  split at h <;> cases h
  simp [encodeRequest]

theorem readSetSetpoints_encodes (h : readSetSetpoints p = .request c) : encodeRequest c = some (0x10, p) := by
  unfold readSetSetpoints at h
  split at h
  · next pairs hp =>
    split at h <;> cases h
    rw [encodeRequest, pairPayload_of_readPairs hp]
  · cases h

/-- A payload of a known kind reads as a request or has a wrong length (R149). -/
def Reading.Known : Reading → Prop
  | .badKind => False
  | .badLength | .request _ => True

theorem readNone_known (i : Instr) (p : List Byte) : (readNone i p).Known := by
  unfold readNone
  split <;> trivial

theorem readOne_known (f : Byte → Instr) (p : List Byte) : (readOne f p).Known := by
  unfold readOne
  split <;> trivial

theorem readTwo_known (f : Byte → Byte → Instr) (p : List Byte) : (readTwo f p).Known := by
  unfold readTwo
  split <;> trivial

theorem readWord_known (f : Word16 → Instr) (p : List Byte) : (readWord f p).Known := by
  unfold readWord
  split <;> trivial

theorem readGrant_known (p : List Byte) : (readGrant p).Known := by
  unfold readGrant
  split <;> trivial

theorem readMapPoint_known (p : List Byte) : (readMapPoint p).Known := by
  unfold readMapPoint
  split <;> trivial

theorem readOverride_known (p : List Byte) : (readOverride p).Known := by
  unfold readOverride
  split <;> trivial

theorem readPass_known (p : List Byte) : (readPass p).Known := by
  unfold readPass
  split <;> trivial

theorem readSetParam_known (p : List Byte) : (readSetParam p).Known := by
  unfold readSetParam
  split <;> trivial

theorem readSetSetpoints_known (p : List Byte) : (readSetSetpoints p).Known := by
  unfold readSetSetpoints
  repeat' split
  all_goals trivial

/-! ### Every request (R171) -/

/-- Settles O6. -/
theorem requestDecodesFromItsEncoding : Obligations.RequestDecodesFromItsEncoding := by
  intro c k p h hpairs
  cases c <;> simp only [encodeRequest, Option.some.injEq, Prod.mk.injEq, reduceCtorEq] at h <;> obtain ⟨rfl, rfl⟩ := h
  case setSetpoints pairs =>
    have hlen := hpairs pairs rfl
    refine ⟨?_, ?_⟩
    · show readSetSetpoints (pairPayload pairs) = _
      rw [readSetSetpoints, readPairs_pairPayload]
      exact if_pos hlen
    · rw [Laws.FitsFrame.pairPayload_length]
      omega
  all_goals
    refine ⟨?_, Nat.le_of_ble_eq_true rfl⟩
    simp [decodeRequest, readNone, readOne, readTwo, readWord, readGrant, readMapPoint, readOverride, readPass, readSetParam, wordBytes]

theorem encodeRequest_kind {k k' : Byte} (hk : k.toNat = k'.toNat) (h : encodeRequest c = some (k', p)) : encodeRequest c = some (k, p) := by
  rw [BitVec.eq_of_toNat_eq hk, h]

theorem encodeRequest_of_decodeRequest {k : Byte} (h : decodeRequest k p = .request c) : encodeRequest c = some (k, p) := by
  unfold decodeRequest at h
  split at h
  · exact encodeRequest_kind ‹_› (readNone_encodes rfl h)
  · exact encodeRequest_kind ‹_› (readNone_encodes rfl h)
  · exact encodeRequest_kind ‹_› (readWord_encodes (fun _ => rfl) h)
  · exact encodeRequest_kind ‹_› (readWord_encodes (fun _ => rfl) h)
  · exact encodeRequest_kind ‹_› (readSetSetpoints_encodes h)
  · exact encodeRequest_kind ‹_› (readTwo_encodes (fun _ _ => rfl) h)
  · exact encodeRequest_kind ‹_› (readTwo_encodes (fun _ _ => rfl) h)
  · exact encodeRequest_kind ‹_› (readOne_encodes (fun _ => rfl) h)
  · exact encodeRequest_kind ‹_› (readGrant_encodes h)
  · exact encodeRequest_kind ‹_› (readNone_encodes rfl h)
  · exact encodeRequest_kind ‹_› (readOne_encodes (fun _ => rfl) h)
  · exact encodeRequest_kind ‹_› (readOne_encodes (fun _ => rfl) h)
  · exact encodeRequest_kind ‹_› (readNone_encodes rfl h)
  · exact encodeRequest_kind ‹_› (readOne_encodes (fun _ => rfl) h)
  · exact encodeRequest_kind ‹_› (readMapPoint_encodes h)
  · exact encodeRequest_kind ‹_› (readTwo_encodes (fun _ _ => rfl) h)
  · exact encodeRequest_kind ‹_› (readOverride_encodes h)
  · exact encodeRequest_kind ‹_› (readTwo_encodes (fun _ _ => rfl) h)
  · exact encodeRequest_kind ‹_› (readPass_encodes h)
  · exact encodeRequest_kind ‹_› (readNone_encodes rfl h)
  · exact encodeRequest_kind ‹_› (readOne_encodes (fun _ => rfl) h)
  · exact encodeRequest_kind ‹_› (readNone_encodes rfl h)
  · exact encodeRequest_kind ‹_› (readNone_encodes rfl h)
  · exact encodeRequest_kind ‹_› (readNone_encodes rfl h)
  · exact encodeRequest_kind ‹_› (readNone_encodes rfl h)
  · exact encodeRequest_kind ‹_› (readOne_encodes (fun _ => rfl) h)
  · exact encodeRequest_kind ‹_› (readNone_encodes rfl h)
  · exact encodeRequest_kind ‹_› (readWord_encodes (fun _ => rfl) h)
  · exact encodeRequest_kind ‹_› (readSetParam_encodes h)
  · exact encodeRequest_kind ‹_› (readNone_encodes rfl h)
  · cases h

/-- The thirty request kinds (R171). -/
def requestKinds : List Nat :=
  [0x01, 0x02, 0x03, 0x04, 0x10, 0x11, 0x12, 0x18, 0x20, 0x21, 0x28, 0x29, 0x2A, 0x30, 0x31, 0x32, 0x38, 0x39, 0x40, 0x41, 0x42, 0x43,
    0x48, 0x49, 0x4A, 0x4B, 0x4C, 0x50, 0x51, 0x52]

theorem Reading.Known.ne_badKind {r : Reading} (h : r.Known) : r ≠ .badKind := by
  rintro rfl
  exact h

theorem decodeRequest_eq_badKind_iff (k : Byte) (p : List Byte) : decodeRequest k p = .badKind ↔ k.toNat ∉ requestKinds := by
  have hknown {n : Nat} (hn : k.toNat = n) (hmem : n ∈ requestKinds) {r : Reading} (hr : r.Known) : r = .badKind ↔ k.toNat ∉ requestKinds :=
    iff_of_false hr.ne_badKind (not_not_intro (hn ▸ hmem))
  unfold decodeRequest
  split
  · exact hknown ‹_› (by decide) (readNone_known _ _)
  · exact hknown ‹_› (by decide) (readNone_known _ _)
  · exact hknown ‹_› (by decide) (readWord_known _ _)
  · exact hknown ‹_› (by decide) (readWord_known _ _)
  · exact hknown ‹_› (by decide) (readSetSetpoints_known _)
  · exact hknown ‹_› (by decide) (readTwo_known _ _)
  · exact hknown ‹_› (by decide) (readTwo_known _ _)
  · exact hknown ‹_› (by decide) (readOne_known _ _)
  · exact hknown ‹_› (by decide) (readGrant_known _)
  · exact hknown ‹_› (by decide) (readNone_known _ _)
  · exact hknown ‹_› (by decide) (readOne_known _ _)
  · exact hknown ‹_› (by decide) (readOne_known _ _)
  · exact hknown ‹_› (by decide) (readNone_known _ _)
  · exact hknown ‹_› (by decide) (readOne_known _ _)
  · exact hknown ‹_› (by decide) (readMapPoint_known _)
  · exact hknown ‹_› (by decide) (readTwo_known _ _)
  · exact hknown ‹_› (by decide) (readOverride_known _)
  · exact hknown ‹_› (by decide) (readTwo_known _ _)
  · exact hknown ‹_› (by decide) (readPass_known _)
  · exact hknown ‹_› (by decide) (readNone_known _ _)
  · exact hknown ‹_› (by decide) (readOne_known _ _)
  · exact hknown ‹_› (by decide) (readNone_known _ _)
  · exact hknown ‹_› (by decide) (readNone_known _ _)
  · exact hknown ‹_› (by decide) (readNone_known _ _)
  · exact hknown ‹_› (by decide) (readNone_known _ _)
  · exact hknown ‹_› (by decide) (readOne_known _ _)
  · exact hknown ‹_› (by decide) (readNone_known _ _)
  · exact hknown ‹_› (by decide) (readWord_known _ _)
  · exact hknown ‹_› (by decide) (readSetParam_known _)
  · exact hknown ‹_› (by decide) (readNone_known _ _)
  · refine iff_of_true rfl ?_
    simp only [requestKinds, List.mem_cons, List.not_mem_nil, or_false, not_or]
    exact ⟨‹_›, ‹_›, ‹_›, ‹_›, ‹_›, ‹_›, ‹_›, ‹_›, ‹_›, ‹_›, ‹_›, ‹_›, ‹_›, ‹_›, ‹_›, ‹_›, ‹_›, ‹_›, ‹_›, ‹_›, ‹_›, ‹_›, ‹_›, ‹_›, ‹_›, ‹_›, ‹_›,
      ‹_›, ‹_›, ‹_›⟩

/-- Settles O7. -/
theorem decodedRequestEncodesBack : Obligations.DecodedRequestEncodesBack := fun k p =>
  ⟨fun _ h => encodeRequest_of_decodeRequest h, decodeRequest_eq_badKind_iff k p⟩

end Sys2Proof

/-! ## The control link: frames in, answers out (09) -/

namespace Sys2Proof.Machine

/-! ### Reception (R146, R147) -/

variable {s : State}

theorem exec_rxByte_hunting (hs : s.sc.opState ≠ .parked) (hr : s.lu.receiver = .hunting) (b : Byte) :
    exec (.rxByte b) s = .next (if b = 0xC3 then keepReceiving [] s else s) := by
  show execRxByte b s = _
  simp only [execRxByte, if_neg hs, hr]
  split <;> rfl

theorem exec_rxByte_receiving (hs : s.sc.opState ≠ .parked) {bytes : List Byte} (hr : s.lu.receiver = .receiving bytes) (b : Byte) :
    exec (.rxByte b) s = .next (receiveByte (bytes ++ [b]) s) := by
  show execRxByte b s = _
  simp only [execRxByte, if_neg hs, hr]

theorem exec_rxByte_keepReceiving (hs : s.sc.opState ≠ .parked) (bytes : List Byte) (b : Byte) :
    exec (.rxByte b) (keepReceiving bytes s) = .next (receiveByte (bytes ++ [b]) (keepReceiving bytes s)) :=
  exec_rxByte_receiving (s := keepReceiving bytes s) hs rfl b

/-- A good LEN and no last byte yet: the frame goes on. -/
theorem receiveByte_unfinished {len : Byte} {rest : List Byte} (hlen : 1 ≤ len.toNat ∧ len.toNat ≤ 128)
    (hrest : rest.length + 1 < len.toNat + 3) : receiveByte (len :: rest) s = keepReceiving (len :: rest) s := by
  cases rest with
  | nil =>
    have hgood : ¬ (len = 0 ∨ 128 < len.toNat) := by
      rintro (rfl | h)
      · exact absurd hlen.1 (by decide)
      · omega
    simp only [receiveByte, if_neg hgood]
  | cons b rest =>
    have hmore : (len :: b :: rest).length ≠ len.toNat + 3 := by
      simp only [List.length_cons] at hrest ⊢
      omega
    simp only [receiveByte, if_neg hmore]

theorem receiveByte_badLen {len : Byte} (hlen : ¬ (1 ≤ len.toNat ∧ len.toNat ≤ 128)) : receiveByte [len] s = stopReceiving s := by
  have hbad : len = 0 ∨ 128 < len.toNat := by
    by_contra hno
    push Not at hno
    have hne : len.toNat ≠ 0 := fun h0 => hno.1 (BitVec.eq_of_toNat_eq h0)
    omega
  simp only [receiveByte, if_pos hbad]

theorem receiveAll_cons {b : Byte} {bs : List Byte} {t : State} (h : exec (.rxByte b) s = .next t) :
    receiveAll (b :: bs) s = receiveAll bs t := by
  simp only [receiveAll, h]

/-- The bytes before a frame's last one are kept. -/
theorem receiveAll_unfinished (hs : s.sc.opState ≠ .parked) {len : Byte} (hlen : 1 ≤ len.toNat ∧ len.toNat ≤ 128)
    (bs tail rest : List Byte) (hrest : rest.length + bs.length + 1 < len.toNat + 3) :
    receiveAll (bs ++ tail) (keepReceiving (len :: rest) s) = receiveAll tail (keepReceiving (len :: rest ++ bs) s) := by
  induction bs generalizing rest with
  | nil => simp
  | cons b bs ih =>
    have hstep : exec (.rxByte b) (keepReceiving (len :: rest) s) = .next (keepReceiving (len :: (rest ++ [b])) s) := by
      rw [exec_rxByte_keepReceiving hs, List.cons_append, receiveByte_unfinished hlen]
      · rfl
      · simp only [List.length_cons, List.length_append, List.length_nil] at hrest ⊢
        omega
    rw [List.cons_append, receiveAll_cons hstep, ih (rest ++ [b])]
    · simp
    · simp only [List.length_cons, List.length_append, List.length_nil] at hrest ⊢
      omega

theorem stopReceiving_of_hunting (hr : s.lu.receiver = .hunting) (hg : s.lu.gap = none) : stopReceiving s = s := by
  rw [stopReceiving, ← hr, ← hg]
  rfl

/-- The bytes of a frame bring it to the buffer, with what its check says (R146 to R149). -/
theorem receiveAll_frame (hs : s.sc.opState ≠ .parked) (hr : s.lu.receiver = .hunting) (hg : s.lu.gap = none) (k x y : Byte)
    {p : List Byte} (hp : p.length ≤ 127) :
    receiveAll (0xC3 :: (BitVec.ofNat 8 (p.length + 1) :: k :: p) ++ [x, y]) s =
      takeFrame k p (readFrame k p (decide ([x, y] = wordBytes (crc16 (BitVec.ofNat 8 (p.length + 1) :: k :: p))))) s := by
  set len : Byte := BitVec.ofNat 8 (p.length + 1) with hlen
  have hlenNat : len.toNat = p.length + 1 := by
    rw [hlen, BitVec.toNat_ofNat, Nat.mod_eq_of_lt]
    omega
  have hlenRange : 1 ≤ len.toNat ∧ len.toNat ≤ 128 := by omega
  have hstart : exec (.rxByte 0xC3) s = .next (keepReceiving [] s) := by simp [exec_rxByte_hunting hs hr]
  have hfirst : exec (.rxByte len) (keepReceiving [] s) = .next (keepReceiving [len] s) := by
    rw [exec_rxByte_keepReceiving hs, List.nil_append, receiveByte_unfinished hlenRange]
    · rfl
    · rw [List.length_nil]
      omega
  have hbytes : (0xC3 :: (len :: k :: p) ++ [x, y] : List Byte) = 0xC3 :: len :: ((k :: p ++ [x]) ++ [y]) := by simp
  have hlast : exec (.rxByte y) (keepReceiving ([len] ++ (k :: p ++ [x])) s) =
      .next (takeFrame k p (readFrame k p (decide ([x, y] = wordBytes (crc16 (len :: k :: p))))) s) := by
    have hcount : (len :: k :: (p ++ [x, y])).length = len.toNat + 3 := by
      simp only [List.length_cons, List.length_append, List.length_nil]
      omega
    have hshape : [len] ++ (k :: p ++ [x]) ++ [y] = len :: k :: (p ++ [x, y]) := by simp
    have hbody : (len :: k :: (p ++ [x, y])).take ((len :: k :: (p ++ [x, y])).length - 2) = len :: k :: p := by
      rw [hcount, hlenNat, show p.length + 1 + 3 - 2 = p.length + 2 by omega, List.take_succ_cons, List.take_succ_cons, List.take_left]
    have hcheck : (len :: k :: (p ++ [x, y])).drop (len :: k :: p).length = [x, y] := by
      simp only [List.length_cons, List.drop_succ_cons, List.drop_left]
    rw [exec_rxByte_keepReceiving hs, hshape]
    simp only [receiveByte]
    rw [if_pos hcount]
    simp only [completeFrame, hbody, hcheck]
    exact congrArg (fun u => Host.Outcome.next (takeFrame _ _ _ u)) (stopReceiving_of_hunting hr hg)
  rw [hbytes, receiveAll_cons hstart, receiveAll_cons hfirst, receiveAll_unfinished hs hlenRange (k :: p ++ [x]) [y] []]
  · exact receiveAll_cons hlast
  · simp only [List.length_cons, List.length_append, List.length_nil]
    omega

/-- A request reads at most one frame's payload (R146, R171). -/
theorem length_le_of_decodeRequest {c : Instr} {k : Byte} {p : List Byte} (he : encodeRequest c = some (k, p))
    (hd : decodeRequest k p = .request c) : p.length ≤ 127 := by
  refine (requestDecodesFromItsEncoding c k p he ?_).2
  rintro pairs rfl
  cases he
  have hd' : readSetSetpoints (pairPayload pairs) = .request (.setSetpoints pairs) := hd
  rw [readSetSetpoints, readPairs_pairPayload] at hd'
  by_contra hno
  exact absurd hd' (by simp [if_neg hno])

theorem exec_request_awake {c : Instr} {k : Byte} {p : List Byte} (he : encodeRequest c = some (k, p)) (hs : s.sc.opState ≠ .parked) :
    exec c s = .next (takeFrame k p (requestAct k c) s) := by
  rw [exec_eq_request he, request, if_neg hs]

/-- Settles O8. -/
theorem frameOnTheLineIsItsRequest : Obligations.FrameOnTheLineIsItsRequest := by
  intro c s k p he hd hs hr hg
  have hread : readFrame k p true = requestAct k c := by
    funext u
    simp [readFrame, hd]
  have hbytes := receiveAll_frame hs hr hg k ((crc16 (BitVec.ofNat 8 (p.length + 1) :: k :: p)).extractLsb' 8 8)
    ((crc16 (BitVec.ofNat 8 (p.length + 1) :: k :: p)).extractLsb' 0 8) (length_le_of_decodeRequest he hd)
  rw [exec_request_awake he hs, ← hread]
  exact congrArg Host.Outcome.next (by simpa [wordBytes, Frame.bytes] using hbytes.symm)

/-! ### Refusals (R147 to R149) -/

/-- A reject that falls due and is looked for at once (R150). -/
theorem kick_rejectDue (hs : s.sc.opState ≠ .parked) (x k : Byte) (p : List Byte) (hi : s.lu.inHand = some ⟨k, p⟩) :
    kick (rejectDue x k s) = s.setLu (s.lu.rejected x k p) := by
  rw [kick_awake (s := rejectDue x k s) hs]
  simp only [rejectDue, State.setLu_lu, State.setLu_setLu]
  cases ht : s.lu.transmitter with
  | idle => simp only [LU.takeNext, LU.rejected, ht, ← hi]
  | sending w f r => simp only [LU.takeNext, LU.rejected, ht, ← hi]

theorem takeFrame_free (hi : s.lu.inHand = none) (k : Byte) (p : List Byte) (act : State → State) :
    takeFrame k p act s = kick (act (s.withInHand k p)) := by
  rw [takeFrame, hi]
  rfl

theorem takeFrame_rejectDue (hs : s.sc.opState ≠ .parked) (hi : s.lu.inHand = none) (x k : Byte) (p : List Byte) :
    takeFrame k p (rejectDue x k) s = s.setLu (s.lu.rejected x k p) := by
  rw [takeFrame_free hi, kick_rejectDue (s := s.withInHand k p) hs x k p rfl]
  cases ht : s.lu.transmitter <;> simp [State.withInHand, LU.rejected, ht]

theorem takeFrame_answerDue (hs : s.sc.opState ≠ .parked) (hi : s.lu.inHand = none) (k : Byte) (p c : List Byte) :
    takeFrame k p (answerDue k c) s = s.setLu (s.lu.replied k p c) := by
  rw [takeFrame_free hi, kick_answerDue (s := s.withInHand k p) hs k p c rfl]
  exact congrArg s.setLu (LU.replied_inHand s.lu _ k p c)

/-- Settles O9. -/
theorem framesRefusedByTheChecks : Obligations.FramesRefusedByTheChecks := by
  intro s k x y p hs hr hg hi hp
  dsimp only
  refine ⟨fun hbad => ?_, fun hgood hkind => ?_, fun hgood hlength => ?_⟩ <;> rw [receiveAll_frame hs hr hg k x y hp]
  · rw [decide_eq_false hbad, show readFrame k p false = rejectDue 1 k from rfl]
    exact takeFrame_rejectDue hs hi 1 k p
  · have hread : readFrame k p true = rejectDue 2 k := by
      funext u
      simp only [readFrame, hkind]
      rfl
    rw [decide_eq_true hgood, hread]
    exact takeFrame_rejectDue hs hi 2 k p
  · have hread : readFrame k p true = answerDue k [8] := by
      funext u
      simp only [readFrame, hlength]
      rfl
    rw [decide_eq_true hgood, hread]
    exact takeFrame_answerDue hs hi k p [8]

/-- Settles O10. -/
theorem receiverAssemblesFrames : Obligations.ReceiverAssemblesFrames := by
  intro b s
  refine ⟨fun hs => ?_, fun hs hr => ?_, fun hs hr => ?_, fun len rest hs hr hmore => ?_, fun bytes hr => ?_, fun hr => ?_⟩
  · show execRxByte b s = _
    simp only [execRxByte, if_pos hs]
  · exact exec_rxByte_hunting hs hr b
  · rw [exec_rxByte_receiving hs hr]
    split
    · next hlen =>
      rw [List.nil_append, receiveByte_unfinished hlen]
      · rfl
      · rw [List.length_nil]
        omega
    · next hlen =>
      rw [List.nil_append, receiveByte_badLen hlen]
      rfl
  · rw [exec_rxByte_receiving hs hr]
    have hlong : (len :: (rest ++ [b])).length ≠ len.toNat + 3 := by
      simp only [List.length_cons, List.length_append, List.length_nil]
      omega
    cases rest with
    | nil =>
      simp only [List.nil_append, List.cons_append] at hlong ⊢
      simp only [receiveByte, if_neg hlong]
      rfl
    | cons c rest =>
      simp only [List.cons_append] at hlong ⊢
      simp only [receiveByte, if_neg hlong]
      rfl
  · show execGapTimeout s = _
    simp only [execGapTimeout, hr]
    rfl
  · show execGapTimeout s = _
    simp only [execGapTimeout, hr]

/-- A request in LOADING or WAKING is not ready, whatever it asks for (R149). -/
theorem requestAct_notReady {c : Instr} {k : Byte} {p : List Byte} (he : encodeRequest c = some (k, p)) (hd : decodeRequest k p = .request c)
    (hs : s.sc.opState = .loading ∨ s.sc.opState = .waking) (hc : servedAlways c = false) : requestAct k c s = answerDue k [5] s := by
  have hnotReady (owner : State → State × List Byte) : dispatch k false owner s = answerDue k [5] s := by
    rw [dispatch, if_pos ⟨hs, rfl⟩]
    rfl
  by_cases hn : ∀ pairs, c ≠ .setSetpoints pairs
  · rw [requestAct_eq_dispatch he hn, hc, hnotReady]
  · push Not at hn
    obtain ⟨pairs, rfl⟩ := hn
    cases he
    have hl : 1 ≤ pairs.length ∧ pairs.length ≤ 12 := by
      have hd' : readSetSetpoints (pairPayload pairs) = .request (.setSetpoints pairs) := hd
      rw [readSetSetpoints, readPairs_pairPayload] at hd'
      by_contra hno
      exact absurd hd' (by simp [if_neg hno])
    rw [requestAct_setSetpoints hl, hnotReady]

/-- Settles O5. -/
theorem requestsOutsideServiceHaveNoEffect : Obligations.RequestsOutsideServiceHaveNoEffect := by
  intro c s k p he hd
  refine ⟨fun hs => ?_, fun hs hi => ?_, fun hs hi hidentify hstatus => ?_⟩
  · rw [exec_eq_request he, request_parked hs]
  · rw [exec_eq_request he, request_dropped hs hi]
    rfl
  · have hawake : s.sc.opState ≠ .parked := by rcases hs with hs | hs <;> simp [hs]
    have hc : servedAlways c = false := by cases c <;> simp_all [servedAlways]
    rw [exec_request_awake he hawake, takeFrame_free hi, requestAct_notReady (s := s.withInHand k p) he hd hs hc,
      kick_answerDue (s := s.withInHand k p) hawake k p _ rfl]
    exact congrArg (fun l => Host.Outcome.next (s.setLu l)) (LU.replied_inHand s.lu _ k p _)

end Sys2Proof.Machine

/-! ## The transmitter, IDENTIFY and STATUS (09) -/

namespace Sys2Proof.Machine

variable {s : State}

/-! ### The end of a frame (R150) -/

theorem exec_txFrameEnd (hs : s.sc.opState ≠ .parked) {w : Sending} {f : Frame} {pieces : List Frame}
    (ht : s.lu.transmitter = .sending w f pieces) {ended next : LU} (hended : s.lu.frameEnded = ended) (hnext : ended.takeNext = next) :
    exec .txFrameEnd s = .next (s.setLu next) := by
  show execTxFrameEnd s = _
  rw [execTxFrameEnd, if_neg (by simp [ht]), kick_awake (s := s.setLu s.lu.frameEnded) hs, ← hnext, ← hended]
  rfl

section
variable {l : LU} {w : Sending} {f : Frame}

theorem LU.frameEnded_more {g : Frame} {gs : List Frame} (ht : l.transmitter = .sending w f (g :: gs)) :
    l.frameEnded = { l with transmitter := .sending w g gs } := by simp only [LU.frameEnded, ht]

theorem LU.frameEnded_other (ht : l.transmitter = .sending w f []) (hw : w ≠ .answer) : l.frameEnded = { l with transmitter := .idle } := by
  cases w <;> simp_all [LU.frameEnded]

theorem LU.frameEnded_answer_before_effect (ht : l.transmitter = .sending .answer f []) (ha : l.after ≠ .none) :
    l.frameEnded = { l with transmitter := .idle } := by simp only [LU.frameEnded, ht, if_neg ha]

theorem LU.frameEnded_answer_clean (ht : l.transmitter = .sending .answer f []) (ha : l.after = .none) (ho : l.overrun = none) :
    l.frameEnded = { l with inHand := none, transmitter := .idle } := by
  simp only [LU.frameEnded, ht, if_pos ha, LU.answerEnded, ho]

theorem LU.frameEnded_answer_overrun (ht : l.transmitter = .sending .answer f []) (ha : l.after = .none) {k : Byte}
    (ho : l.overrun = some k) :
    l.frameEnded = { l with inHand := none, overrun := none, overrunReject := some k, transmitter := .idle } := by
  simp only [LU.frameEnded, ht, if_pos ha, LU.answerEnded, ho]

/-! ### What an idle transmitter takes (R150) -/

variable (ht : l.transmitter = .idle) (hn : l.answer = none)
include ht hn

theorem LU.takeNext_before_effect (ha : l.after ≠ .none) : l.takeNext = l := by simp only [LU.takeNext, ht, hn, if_pos ha]

theorem LU.takeNext_reject (ha : l.after = .none) {k : Byte} (ho : l.overrunReject = some k) :
    l.takeNext = { l with overrunReject := none, transmitter := .sending .overrunReject ⟨0xF0, [3, k]⟩ [] } := by
  simp [LU.takeNext, ht, hn, ha, ho, rejectFrame, kindReject, rejectOverrun]

theorem LU.takeNext_notice (ha : l.after = .none) (ho : l.overrunReject = none) {k : EventKind} {q : List EventKind} (hq : l.queue = k :: q) :
    l.takeNext = { l with queue := q, transmitter := .sending .notice (noticeFrame l k) [] } := by
  simp [LU.takeNext, ht, hn, ha, ho, hq]

theorem LU.takeNext_nothing (ha : l.after = .none) (ho : l.overrunReject = none) (hq : l.queue = []) : l.takeNext = l := by
  simp [LU.takeNext, ht, hn, ha, ho, hq]
end

/-- Settles O11. -/
theorem transmitterSendsInOrder : Obligations.TransmitterSendsInOrder := by
  intro s w f pieces hs ht
  refine ⟨?_, ?_, ?_, ?_, ?_, ?_, ?_, ?_, ?_⟩
  · rintro g gs rfl
    exact exec_txFrameEnd hs ht (LU.frameEnded_more ht) (LU.takeNext_busy rfl)
  · rintro rfl rfl ha hn ho hr hq
    exact exec_txFrameEnd hs ht (LU.frameEnded_answer_clean ht ha ho)
      (LU.takeNext_nothing (l := { s.lu with inHand := none, transmitter := .idle }) rfl hn ha hr hq)
  · rintro k q rfl rfl ha hn ho hr hq
    exact exec_txFrameEnd hs ht (LU.frameEnded_answer_clean ht ha ho)
      (LU.takeNext_notice (l := { s.lu with inHand := none, transmitter := .idle }) rfl hn ha hr hq)
  · rintro k rfl rfl ha hn ho
    exact exec_txFrameEnd hs ht (LU.frameEnded_answer_overrun ht ha ho)
      (LU.takeNext_reject (l := { s.lu with inHand := none, overrun := none, overrunReject := some k, transmitter := .idle }) rfl hn ha rfl)
  · rintro rfl rfl ha hn
    exact exec_txFrameEnd hs ht (LU.frameEnded_answer_before_effect ht ha)
      (LU.takeNext_before_effect (l := { s.lu with transmitter := .idle }) rfl hn ha)
  · rintro g gs rfl hw hn
    exact exec_txFrameEnd hs ht (LU.frameEnded_other ht hw)
      (LU.takeNext_answer (l := { s.lu with transmitter := .idle }) rfl hn)
  · rintro rfl hw ha hn hr hq
    exact exec_txFrameEnd hs ht (LU.frameEnded_other ht hw)
      (LU.takeNext_nothing (l := { s.lu with transmitter := .idle }) rfl hn ha hr hq)
  · rintro k rfl hw ha hn hr
    exact exec_txFrameEnd hs ht (LU.frameEnded_other ht hw)
      (LU.takeNext_reject (l := { s.lu with transmitter := .idle }) rfl hn ha hr)
  · rintro k q rfl hw ha hn hr hq
    exact exec_txFrameEnd hs ht (LU.frameEnded_other ht hw)
      (LU.takeNext_notice (l := { s.lu with transmitter := .idle }) rfl hn ha hr hq)

/-! ### Requests answered in every state but PARKED (R149, R156, R157) -/

theorem request_always (hs : s.sc.opState ≠ .parked) (hi : s.lu.inHand = none) (k : Byte) (p : List Byte)
    {owner : State → State × List Byte} (howner : ∀ u, (owner u).1 = u) :
    request k p (dispatch k true owner) s = .next (s.setLu (s.lu.replied k p (owner (s.withInHand k p)).2)) := by
  have hdispatch : dispatch k true owner (s.withInHand k p) = answerDue k (owner (s.withInHand k p)).2 (s.withInHand k p) := by
    rw [dispatch, if_neg (by simp), howner]
  rw [request, if_neg hs, takeFrame_free hi, hdispatch, kick_answerDue (s := s.withInHand k p) hs k p _ rfl]
  exact congrArg (fun l => Host.Outcome.next (s.setLu l)) (LU.replied_inHand s.lu _ k p _)

theorem extract_high_append16 (hi lo : Word16) : (hi ++ lo).extractLsb' 16 16 = hi := by
  refine BitVec.eq_of_getLsbD_eq fun i hlt => ?_
  rw [BitVec.getLsbD_extractLsb', BitVec.getLsbD_append, if_neg (by omega)]
  simp [hlt]

theorem extract_low_append16 (hi lo : Word16) : (hi ++ lo).extractLsb' 0 16 = lo := by
  refine BitVec.eq_of_getLsbD_eq fun i hlt => ?_
  rw [BitVec.getLsbD_extractLsb', BitVec.getLsbD_append, if_pos (by omega)]
  simp [hlt]

theorem crcBytes_profileId (w : WorkingMemory) : crcBytes w.profileId = wordBytes (w.word 30) ++ wordBytes (w.word 31) := by
  rw [crcBytes, WorkingMemory.profileId, extract_high_append16, extract_low_append16]

theorem identifyOwner_bytes (s : State) : (identifyOwner s).2 = [0, 0x5C, 0x12, 2, if s.lu.rate = .baud115200 then 0 else 1]
    ++ wordBytes (s.wm.word 30) ++ wordBytes (s.wm.word 31) ++ [if s.pl.defaultFlag then 1 else 0] := by
  have hrate : num8 (linkRateCode s.lu.rate) = [if s.lu.rate = .baud115200 then 0 else 1] := by
    cases s.lu.rate <;> rfl
  simp only [identifyOwner, crcBytes_profileId, hrate, yesNo, List.append_assoc]
  rfl

theorem statusOwner_bytes (s : State) : (statusOwner s).2 = [0] ++ num8 s.sc.opState.code ++ num8 s.sc.cadence.code
      ++ num8 s.sc.pendingCadence.code ++ num8 (s.handler 0).mode.code ++ num8 (s.handler 1).mode.code
      ++ int8 (s.renewal 0).balance ++ int8 (s.renewal 1).balance ++ num8 s.rs.airHold.code
      ++ (if s.pl.loadState = .loaded
          then num16 (if s.pa.live then s.pa.liveGrant else s.wm.fallbackGrant) ++ [if s.pa.live then 0 else 1]
          else [0, 0, 1])
      ++ num8 s.lu.queue.length ++ num8 s.lu.listed.length ++ s.lu.listed.flatMap s.lu.eventBytes := by
  have hgrant : num16 (if s.pl.loadState == .loaded then s.effectiveGrant else 0)
        ++ num8 (liveCode (s.pl.loadState == .loaded && s.pa.live)) =
      if s.pl.loadState = .loaded then num16 (if s.pa.live then s.pa.liveGrant else s.wm.fallbackGrant) ++ [if s.pa.live then 0 else 1]
      else [0, 0, 1] := by
    by_cases hload : s.pl.loadState = .loaded
    · simp only [hload, BEq.rfl, if_true, Bool.true_and]
      cases hlive : s.pa.live <;> simp [State.effectiveGrant, hlive, num8, liveCode]
    · simp [hload, num16, num8, wordBytes, liveCode]
  rw [← hgrant]
  simp only [statusOwner, State.cadenceBytes, List.append_assoc]
  rfl

/-- Settles O12. -/
theorem identifyAndStatusAnswer : Obligations.IdentifyAndStatusAnswer := by
  intro s hs hi
  refine ⟨?_, ?_⟩
  · show request 0x01 [] (dispatch 0x01 true identifyOwner) s = _
    rw [request_always hs hi _ _ (fun _ => rfl), identifyOwner_bytes]
    rfl
  · show request 0x02 [] (dispatch 0x02 true statusOwner) s = _
    rw [request_always hs hi _ _ (fun _ => rfl), statusOwner_bytes]
    rfl

end Sys2Proof.Machine

/-! ## SET_REPORTS (R158) -/

namespace Sys2Proof.Machine

/-! ### Notices queued one after another (R154) -/

/-- The notice queue once notices for the kinds were queued in their order: an entry for a kind stays, a full queue takes none. -/
def queueNotices (q ks : List EventKind) : List EventKind := ks.foldl (fun q k => if k ∈ q ∨ 8 ≤ q.length then q else q ++ [k]) q

theorem queueNotices_cons (q : List EventKind) (k : EventKind) (ks : List EventKind) :
    queueNotices q (k :: ks) = queueNotices (if k ∈ q ∨ 8 ≤ q.length then q else q ++ [k]) ks := rfl

theorem queueNotices_eq_take {q ks : List EventKind} (hq : q.length ≤ 8) (hks : ks.Nodup) :
    queueNotices q ks = (q ++ ks.filter fun k => !q.contains k).take 8 := by
  induction ks generalizing q with
  | nil => simp [queueNotices, List.take_of_length_le hq]
  | cons j ks ih =>
    obtain ⟨hj, hks⟩ := List.nodup_cons.mp hks
    rw [queueNotices_cons]
    by_cases hin : j ∈ q
    · rw [if_pos (.inl hin), ih hq hks]
      simp [hin]
    · by_cases hfull : 8 ≤ q.length
      · rw [if_pos (.inr hfull), ih hq hks, List.take_append_of_le_length hfull, List.take_append_of_le_length hfull]
      · have hcontains : ks.filter (fun k => !(q ++ [j]).contains k) = ks.filter fun k => !q.contains k := by
          refine List.filter_congr fun k hk => ?_
          have hkj : k ≠ j := fun h => hj (h ▸ hk)
          simp [hkj]
        rw [if_neg (by simp [hin, hfull]), ih (by simp only [List.length_append, List.length_singleton]; omega) hks, hcontains]
        simp [hin]

theorem LU.queueNotice_queue_eq (l : LU) (k : EventKind) : (l.queueNotice k).queue = queueNotices l.queue [k] := LU.queueNotice_queue l k

theorem EventKind.all_nodup : EventKind.all.Nodup := by decide

theorem LU.frame_trans {l m n : LU} (hm : m = { l with events := m.events, queue := m.queue })
    (hn : n = { m with events := n.events, queue := n.queue }) : n = { l with events := n.events, queue := n.queue } := by
  rw [hm] at hn
  exact hn

/-! ### Kinds switched off, then on -/

section
variable (mask : Word16)

theorem LU.event_disable (l : LU) (j k : EventKind) : (l.disable mask j).event k =
    if k = j then { l.event k with enable := (l.event k).enable && mask.getLsbD k.index } else l.event k := by
  unfold LU.disable
  split
  · next h =>
    rw [LU.event_dropNotice]
    by_cases hkj : k = j
    · subst hkj
      simp_all
    · rw [LU.event_setEvent_other (Ne.symm hkj), if_neg hkj]
  · next h =>
    by_cases hkj : k = j
    · subst hkj
      have hkept : ((l.event k).enable && mask.getLsbD k.index) = (l.event k).enable := by
        cases he : (l.event k).enable <;> simp_all
      rw [if_pos rfl, hkept]
    · rw [if_neg hkj]

theorem LU.disable_queue (l : LU) (j : EventKind) :
    (l.disable mask j).queue = l.queue.filter fun k => !(decide (k = j) && ((l.event k).enable && !mask.getLsbD k.index)) := by
  unfold LU.disable
  split
  · next h =>
    refine List.filter_congr fun k _ => ?_
    by_cases hkj : k = j
    · subst hkj
      simp_all
    · simp [hkj]
  · next h =>
    refine (List.filter_eq_self.mpr fun k _ => ?_).symm
    by_cases hkj : k = j
    · subst hkj
      cases he : (l.event k).enable <;> simp_all
    · simp [hkj]

theorem LU.disable_frame (l : LU) (j : EventKind) :
    l.disable mask j = { l with events := (l.disable mask j).events, queue := (l.disable mask j).queue } := by
  unfold LU.disable
  split <;> rfl

theorem LU.event_foldl_disable (ks : List EventKind) (l : LU) (k : EventKind) : (ks.foldl (LU.disable mask) l).event k =
    if k ∈ ks then { l.event k with enable := (l.event k).enable && mask.getLsbD k.index } else l.event k := by
  induction ks generalizing l with
  | nil => simp
  | cons j ks ih =>
    rw [List.foldl_cons, ih, LU.event_disable]
    by_cases hkj : k = j
    · subst hkj
      simp
    · simp [hkj]

theorem LU.foldl_disable_queue (ks : List EventKind) (l : LU) : (ks.foldl (LU.disable mask) l).queue =
    l.queue.filter fun k => !(decide (k ∈ ks) && ((l.event k).enable && !mask.getLsbD k.index)) := by
  induction ks generalizing l with
  | nil => simp
  | cons j ks ih =>
    rw [List.foldl_cons, ih, LU.disable_queue, List.filter_filter]
    refine List.filter_congr fun k _ => ?_
    rw [LU.event_disable]
    by_cases hkj : k = j
    · subst hkj
      cases mask.getLsbD k.index <;> simp
    · simp [hkj]

theorem LU.foldl_disable_frame (ks : List EventKind) (l : LU) : ks.foldl (LU.disable mask) l =
    { l with events := (ks.foldl (LU.disable mask) l).events, queue := (ks.foldl (LU.disable mask) l).queue } := by
  induction ks generalizing l with
  | nil => rfl
  | cons j ks ih =>
    rw [List.foldl_cons]
    exact LU.frame_trans (LU.disable_frame mask l j) (ih _)

@[simp] theorem LU.event_queueNotice (l : LU) (j k : EventKind) : (l.queueNotice j).event k = l.event k := by
  unfold LU.queueNotice
  repeat' split
  all_goals rfl

theorem LU.event_enableKind (l : LU) (j k : EventKind) : (l.enableKind mask j).event k =
    if k = j then { l.event k with enable := (l.event k).enable || mask.getLsbD k.index } else l.event k := by
  have hset (r : EventRecord) : (if (l.event j).latched then (l.setEvent j r).queueNotice j else l.setEvent j r).event k =
      (l.setEvent j r).event k := by split <;> simp
  unfold LU.enableKind
  split
  · next h =>
    rw [hset]
    by_cases hkj : k = j
    · subst hkj
      simp_all
    · rw [LU.event_setEvent_other (Ne.symm hkj), if_neg hkj]
  · next h =>
    by_cases hkj : k = j
    · subst hkj
      have hkept : ((l.event k).enable || mask.getLsbD k.index) = (l.event k).enable := by
        cases he : (l.event k).enable <;> simp_all
      rw [if_pos rfl, hkept]
    · rw [if_neg hkj]

/-- The kinds that SET_REPORTS switches on and that are latched. -/
def LU.newlyReported (l : LU) (mask : Word16) (k : EventKind) : Bool :=
  !(l.event k).enable && mask.getLsbD k.index && (l.event k).latched

theorem LU.enableKind_queue (l : LU) (j : EventKind) :
    (l.enableKind mask j).queue = queueNotices l.queue (if l.newlyReported mask j then [j] else []) := by
  unfold LU.enableKind LU.newlyReported
  cases hon : !(l.event j).enable && mask.getLsbD j.index
  · rfl
  · cases hl : (l.event j).latched
    · rfl
    · exact LU.queueNotice_queue_eq _ j

theorem LU.enableKind_frame (l : LU) (j : EventKind) :
    l.enableKind mask j = { l with events := (l.enableKind mask j).events, queue := (l.enableKind mask j).queue } := by
  unfold LU.enableKind LU.queueNotice
  dsimp only
  repeat' split
  all_goals rfl

theorem LU.event_foldl_enableKind (ks : List EventKind) (l : LU) (k : EventKind) : (ks.foldl (LU.enableKind mask) l).event k =
    if k ∈ ks then { l.event k with enable := (l.event k).enable || mask.getLsbD k.index } else l.event k := by
  induction ks generalizing l with
  | nil => simp
  | cons j ks ih =>
    rw [List.foldl_cons, ih, LU.event_enableKind]
    by_cases hkj : k = j
    · subst hkj
      simp
    · simp [hkj]

theorem LU.foldl_enableKind_queue {ks : List EventKind} (hks : ks.Nodup) (l : LU) :
    (ks.foldl (LU.enableKind mask) l).queue = queueNotices l.queue (ks.filter (l.newlyReported mask)) := by
  induction ks generalizing l with
  | nil => rfl
  | cons j ks ih =>
    obtain ⟨hj, hks⟩ := List.nodup_cons.mp hks
    have hrest : ks.filter ((l.enableKind mask j).newlyReported mask) = ks.filter (l.newlyReported mask) := by
      refine List.filter_congr fun k hk => ?_
      have hkj : k ≠ j := fun h => hj (h ▸ hk)
      rw [LU.newlyReported, LU.event_enableKind, if_neg hkj, LU.newlyReported]
    rw [List.foldl_cons, ih hks, hrest, LU.enableKind_queue, List.filter_cons]
    split <;> rfl

theorem LU.foldl_enableKind_frame (ks : List EventKind) (l : LU) : ks.foldl (LU.enableKind mask) l =
    { l with events := (ks.foldl (LU.enableKind mask) l).events, queue := (ks.foldl (LU.enableKind mask) l).queue } := by
  induction ks generalizing l with
  | nil => rfl
  | cons j ks ih =>
    rw [List.foldl_cons]
    exact LU.frame_trans (LU.enableKind_frame mask l j) (ih _)

/-! ### The whole request -/

theorem LU.event_setReports (l : LU) (k : EventKind) : (l.setReports mask).event k = { l.event k with enable := mask.getLsbD k.index } := by
  rw [LU.setReports, LU.event_foldl_enableKind, if_pos (EventKind.mem_all k), LU.event_foldl_disable, if_pos (EventKind.mem_all k)]
  cases mask.getLsbD k.index <;> simp

/-- The notices that stay when kinds are switched off. -/
def LU.keptNotices (l : LU) (mask : Word16) : List EventKind := l.queue.filter fun k => !((l.event k).enable && !mask.getLsbD k.index)

theorem LU.queue_disabled (l : LU) : (EventKind.all.foldl (LU.disable mask) l).queue = l.keptNotices mask := by
  rw [LU.foldl_disable_queue]
  exact List.filter_congr fun k _ => by simp [EventKind.mem_all]

theorem LU.newlyReported_disabled (l : LU) : (EventKind.all.foldl (LU.disable mask) l).newlyReported mask = l.newlyReported mask := by
  funext k
  rw [LU.newlyReported, LU.event_foldl_disable, if_pos (EventKind.mem_all k), LU.newlyReported]
  cases mask.getLsbD k.index <;> simp

theorem LU.setReports_queue {l : LU} (hl : l.queue.length ≤ 8) : (l.setReports mask).queue =
    (l.keptNotices mask ++ EventKind.all.filter fun k => l.newlyReported mask k && !(l.keptNotices mask).contains k).take 8 := by
  have hlength : (l.keptNotices mask).length ≤ 8 := (List.length_filter_le _ _).trans hl
  have hswap (k : EventKind) : (!(l.keptNotices mask).contains k && l.newlyReported mask k) =
      (l.newlyReported mask k && !(l.keptNotices mask).contains k) := Bool.and_comm _ _
  rw [LU.setReports, LU.foldl_enableKind_queue mask EventKind.all_nodup, LU.queue_disabled, LU.newlyReported_disabled,
    queueNotices_eq_take hlength (EventKind.all_nodup.filter _), List.filter_filter]
  simp only [hswap]

theorem LU.setReports_eq (l : LU) :
    l.setReports mask = { l with events := (l.setReports mask).events, queue := (l.setReports mask).queue } :=
  LU.frame_trans (LU.foldl_disable_frame mask EventKind.all l) (LU.foldl_enableKind_frame mask EventKind.all _)

theorem LU.getLsbD_enableMask (l : LU) (k : EventKind) : l.enableMask.getLsbD k.index = (l.event k).enable := getLsbD_maskOf _ _

theorem LU.enableMask_setReports (l : LU) : (l.setReports mask).enableMask = mask :=
  eq_of_getLsbD_index_eq fun k => by rw [LU.getLsbD_enableMask, LU.event_setReports]

theorem LU.latchedMask_setReports (l : LU) : (l.setReports mask).latchedMask = l.latchedMask :=
  eq_of_getLsbD_index_eq fun k => by rw [LU.getLsbD_latchedMask, LU.event_setReports, LU.getLsbD_latchedMask]
end

theorem LU.replied_queue (l : LU) (kind : Byte) (payload content : List Byte) : (l.replied kind payload content).queue = l.queue := by
  unfold LU.replied
  dsimp only
  split <;> rfl

theorem State.Served.awake {s : State} (h : s.Served) : s.sc.opState ≠ .parked := by
  obtain ⟨hop, _⟩ := h
  rcases hop with hop | hop <;> simp [hop]

theorem State.setLu_eq_with (s : State) (l : LU) : s.setLu l = { s with lu := (s.setLu l).lu } := rfl

theorem setReportsOwner_eq (mask : Word16) (s : State) : setReportsOwner mask s = (s.setLu (s.lu.setReports mask),
    [0] ++ wordBytes mask ++ wordBytes s.lu.latchedMask ++ num8 (s.lu.setReports mask).queue.length) := by
  simp only [setReportsOwner, State.setLu_lu, LU.enableMask_setReports, LU.latchedMask_setReports, codeOk]

/-- The Link Unit with a frame in hand, or none. -/
def LU.withFrame (f : Option Frame) (l : LU) : LU := { l with inHand := f }

section
variable (f : Option Frame) (mask : Word16)

theorem LU.disable_withFrame (l : LU) (k : EventKind) : LU.disable mask (l.withFrame f) k = (l.disable mask k).withFrame f := by
  unfold LU.disable
  rw [apply_ite (LU.withFrame f)]
  rfl

theorem LU.queueNotice_withFrame (l : LU) (k : EventKind) : (l.withFrame f).queueNotice k = (l.queueNotice k).withFrame f := by
  unfold LU.queueNotice
  rw [apply_ite (LU.withFrame f), apply_ite (LU.withFrame f)]
  rfl

theorem LU.enableKind_withFrame (l : LU) (k : EventKind) : LU.enableKind mask (l.withFrame f) k = (l.enableKind mask k).withFrame f := by
  unfold LU.enableKind
  dsimp only
  rw [apply_ite (LU.withFrame f), apply_ite (LU.withFrame f), ← LU.queueNotice_withFrame]
  rfl

/-- What SET_REPORTS does to the Link Unit does not hang on the frame in hand. -/
theorem LU.setReports_withFrame (l : LU) : (l.withFrame f).setReports mask = (l.setReports mask).withFrame f := by
  have hfold (g : LU → EventKind → LU) (hg : ∀ m k, g (m.withFrame f) k = (g m k).withFrame f) (ks : List EventKind) (m : LU) :
      ks.foldl g (m.withFrame f) = (ks.foldl g m).withFrame f := by
    induction ks generalizing m with
    | nil => rfl
    | cons k ks ih => rw [List.foldl_cons, hg, ih, List.foldl_cons]
  rw [LU.setReports, hfold _ (LU.disable_withFrame f mask), hfold _ (LU.enableKind_withFrame f mask), LU.setReports]
end

/-- A served SET_REPORTS: the answer gives the mask back, what is latched, and the length of the queue (R158). -/
theorem exec_setReports_served (mask : Word16) {s : State} (h : s.Served) :
    exec (.setReports mask) s = .next (s.setLu ((s.lu.setReports mask).replied 0x03 (wordBytes mask)
      ([0] ++ wordBytes mask ++ wordBytes s.lu.latchedMask ++ num8 (s.lu.setReports mask).queue.length))) := by
  have hlu : (s.withInHand 0x03 (wordBytes mask)).lu.setReports mask =
      (s.lu.setReports mask).withFrame (some ⟨0x03, wordBytes mask⟩) := LU.setReports_withFrame _ mask s.lu
  have hlatched : (s.withInHand 0x03 (wordBytes mask)).lu.latchedMask = s.lu.latchedMask := rfl
  show request 0x03 (wordBytes mask) (dispatch 0x03 false (setReportsOwner mask)) s = _
  rw [request_served h, setReportsOwner_eq, hlu, hlatched]
  generalize s.lu.setReports mask = l
  dsimp only
  rw [kick_answerDue (s := (s.withInHand 0x03 (wordBytes mask)).setLu (l.withFrame (some ⟨0x03, wordBytes mask⟩))) h.awake 0x03
    (wordBytes mask) _ rfl]
  exact congrArg (fun l => Host.Outcome.next (s.setLu l)) (LU.replied_inHand l _ _ _ _)

/-- Settles O13: the removals come first, then the kinds in their order. -/
theorem setReportsEnablesAndQueues : Obligations.SetReportsEnablesAndQueues := by
  intro mask s hs hq
  refine ⟨_, exec_setReports_served mask hs, State.setLu_eq_with s _, fun k => ?_, ?_, ?_⟩
  · rw [State.setLu_lu, LU.event_replied, LU.event_setReports]
  · rw [State.setLu_lu, LU.replied_queue, LU.setReports_queue mask hq]
    rfl
  · rw [State.setLu_lu, LU.replied_events, LU.replied_queue]
    conv_lhs => rw [LU.setReports_eq]

end Sys2Proof.Machine

/-! ## Zone regulation (01) -/

namespace Sys2Proof.Machine

variable {s : State}

/-! ### Stage 1 (R5, R7, R16) -/

@[simp] theorem stage1_zone (z : Fin 12) : (stage1 s).zone z = s.regulated z := by simp [stage1, State.zone]

theorem Zone.counted_eq (x : Zone) : x.counted = decide (x.state = .active ∨ (x.state = .held ∧ x.tempUsed.isSome) ∨
    (x.state = .substitute ∧ (x.substitute = some .zoneMean ∨ x.substitute = some .returnAir))) := by
  unfold Zone.counted
  cases x.state with
  | off => simp
  | active => simp
  | held => cases x.tempUsed <;> simp
  | substitute =>
    cases x.substitute with
    | none => simp
    | some source => cases source <;> simp

theorem demandSet_zone (z : Fin 12) : s.demandSet.zones[z] =
    { handler := s.wm.zoneHandler z, weight := s.wm.zoneWeight z, state := (s.zone z).state
      counted := decide ((s.zone z).state = .active ∨ ((s.zone z).state = .held ∧ (s.zone z).tempUsed.isSome) ∨
        ((s.zone z).state = .substitute ∧ ((s.zone z).substitute = some .zoneMean ∨ (s.zone z).substitute = some .returnAir)))
      demand := (s.zone z).demand, hasReheat := (s.wm.zoneReheat z).isSome, rating := s.wm.zoneRating z } := by
  rw [← Zone.counted_eq]
  simp [State.demandSet]

/-- A stage 1 as a whole: the zone table, the cycle number, the flags, and the demand set of the new table (R5, R7, R16). -/
theorem stage1_eq : stage1 s = { s with
    zr := ⟨(stage1 s).zr.zones, s.zr.cycleTimer, s.zr.cycleNo + 1, true, false⟩
    bus := { s.bus with demandSets := s.bus.demandSets ++ [⟨false, (stage1 s).demandSet⟩] } } := rfl

/-- What a stage 1 leaves of a zone's record (R7). -/
theorem regulated_kept (z : Fin 12) : (s.regulated z).enabled = (s.zone z).enabled ∧ (s.regulated z).setpoint = (s.zone z).setpoint ∧
    (s.regulated z).limited = (s.zone z).limited ∧ (s.regulated z).grantedReheat = (s.zone z).grantedReheat := by
  unfold State.regulated
  cases s.zoneState z <;> simp

/-! ### The regulation cycle timer (R4, R5) -/

/-- The state in which a stage 1 that the cycle timer brings begins. -/
def State.cycleRestarted (s : State) : State := s.setZr { s.zr with cycleTimer := some (cyclePeriod s.sc.cadence) }

theorem exec_regulationTimerExpiry_stage1 (ht : s.zr.cycleTimer.isSome) (ho : s.zr.outstanding = false) :
    exec .regulationTimerExpiry s = .next (stage1 s.cycleRestarted) := by
  show execRegulationTimerExpiry s = _
  simp only [execRegulationTimerExpiry, if_pos ht, ho, Bool.false_eq_true, if_false]
  rfl

theorem regulated_cycleRestarted (z : Fin 12) : s.cycleRestarted.regulated z = s.regulated z := rfl

/-- Settles O16. -/
theorem regulationTimerBeginsACycle : Obligations.RegulationTimerBeginsACycle := by
  intro s period
  have hperiod : period = cyclePeriod s.sc.cadence := by
    simp only [period]
    cases s.sc.cadence <;> rfl
  rw [hperiod]
  refine ⟨fun ht => ?_, fun ht ho => ?_, fun ht ho => ?_⟩
  · show execRegulationTimerExpiry s = _
    simp [execRegulationTimerExpiry, ht]
  · show execRegulationTimerExpiry s = _
    simp only [execRegulationTimerExpiry, if_pos ht, if_pos ho]
    rfl
  · refine ⟨_, (stage1 s.cycleRestarted).demandSet, exec_regulationTimerExpiry_stage1 ht ho, stage1_eq, rfl, fun z => ?_⟩
    obtain ⟨henabled, hsetpoint, hlimited, hreheat⟩ := regulated_kept (s := s) z
    refine ⟨?_, ?_, ?_, ?_, demandSet_zone z⟩ <;> rw [stage1_zone, regulated_cycleRestarted]
    · exact henabled
    · exact hsetpoint
    · exact hlimited
    · exact hreheat

/-! ### The demand law (R8, R12 to R15) -/

theorem effectiveError_eq (setpoint temp db : Int) : effectiveError setpoint temp db =
    let e := max (-200) (min 200 (setpoint - temp))
    if (e.natAbs : Int) ≤ db then 0 else if db < e then e - db else e + db := by
  simp only [effectiveError, clampInt]
  repeat' split
  all_goals omega

theorem frozen_iff (z : Fin 12) (e : Int) : s.frozen z e = true ↔ (∃ d, s.wm.zoneDoor z = some d ∧ (s.door d).state = .opened) ∨
    ((s.zone z).limited = .heating ∧ 0 < e) ∨ ((s.zone z).limited = .cooling ∧ e < 0) ∨
    ((s.zone z).demand = 1000 ∧ 0 < e) ∨ ((s.zone z).demand = -1000 ∧ e < 0) := by
  unfold State.frozen
  cases s.wm.zoneDoor z <;> simp [or_assoc]

/-- The integral a zone starts from: a zone that was OFF starts from 0 (R15). -/
def Zone.integralBefore (x : Zone) : Int := if x.state = .off then 0 else x.integral

/-- The temperature a HELD zone keeps: a zone that was OFF has none (R15). -/
def Zone.tempBefore (x : Zone) : Option Int := if x.state = .off then none else x.tempUsed

/-- The integral of an ACTIVE zone after a stage 1 with an effective error (R14). -/
def State.integralAt (s : State) (z : Fin 12) (e : Int) : Int :=
  if s.frozen z e then (s.zone z).integralBefore else integralAfter s.wm.ki e (cadenceFactor s.sc.cadence) (s.zone z).integralBefore

theorem regulated_off {z : Fin 12} (h : s.zoneState z = .off) :
    s.regulated z = { s.zone z with state := .off, substitute := none, tempUsed := none, integral := 0, demand := 0 } := by
  simp only [State.regulated, h]

theorem regulated_active {z : Fin 12} (h : s.zoneState z = .active) :
    s.regulated z =
      let e := effectiveError (s.zone z).setpoint (s.zonePointValue z) s.wm.deadband
      { s.zone z with
        state := .active, substitute := none, tempUsed := some (s.zonePointValue z), integral := s.integralAt z e
        demand := demandOf s.wm.kp e (s.integralAt z e) } := by
  simp only [State.regulated, h]
  rfl

theorem regulated_held {z : Fin 12} (h : s.zoneState z = .held) :
    s.regulated z = { s.zone z with
      state := .held, substitute := none, tempUsed := (s.zone z).tempBefore, integral := (s.zone z).integralBefore } := by
  simp only [State.regulated, h]
  rfl

theorem regulated_substitute {z : Fin 12} (h : s.zoneState z = .substitute) :
    s.regulated z = { s.zone z with
      state := .substitute, substitute := some (s.substituteOf z).1, tempUsed := (s.substituteOf z).2
      integral := (s.zone z).integralBefore
      demand := match (s.substituteOf z).2 with
        | some t => demandOf s.wm.kp (effectiveError (s.zone z).setpoint t s.wm.deadband) (s.zone z).integralBefore
        | none => 0 } := by
  simp only [State.regulated, h]
  rfl

theorem integralAt_of_frozen {z : Fin 12} {e : Int} (h : s.frozen z e = true) : s.integralAt z e = (s.zone z).integralBefore := if_pos h

theorem integralAt_of_not_frozen {z : Fin 12} {e : Int} (h : ¬ s.frozen z e = true) : s.integralAt z e =
    max (-16000) (min 16000 ((s.zone z).integralBefore + s.wm.ki * e * (match s.sc.cadence with
      | .full => 1
      | .half => 2))) := by
  rw [State.integralAt, if_neg h, integralAfter, clampInt]
  cases s.sc.cadence <;> rfl

/-! ### The state of a zone (R8) -/

section
variable {z : Fin 12}

theorem zoneState_off (h : (s.zone z).enabled = false) : s.zoneState z = .off := by simp [State.zoneState, h]

variable (he : (s.zone z).enabled = true) {p : Fin 32}
include he

theorem zoneState_active (hz : s.wm.zonePoint z = some p) (hk : s.wm.pointKind p = .temp) (hv : (s.point p).state = .valid) :
    s.zoneState z = .active := by
  simp [State.zoneState, State.zonePointState, he, hz, hk, hv]

theorem zoneState_waiting (hz : s.wm.zonePoint z = some p) (hk : s.wm.pointKind p = .temp)
    (hw : (s.point p).state = .held ∨ (s.point p).state = .pending) :
    s.zoneState z = if (s.point p).age ≤ 10 * s.wm.holdLimit then .held else .substitute := by
  rcases hw with hw | hw <;> simp [State.zoneState, State.zonePointState, State.zonePointAge, he, hz, hk, hw]

theorem zoneState_lost (hl : ∀ p, s.wm.zonePoint z = some p → s.wm.pointKind p = .temp →
    (s.point p).state = .failed ∨ (s.point p).state = .absent) : s.zoneState z = .substitute := by
  have hstate : s.zonePointState z = .failed ∨ s.zonePointState z = .absent := by
    unfold State.zonePointState
    split
    · next p hz =>
      split
      · next hk => exact hl p hz hk
      · exact .inr rfl
    · exact .inr rfl
  rcases hstate with h | h <;> simp [State.zoneState, he, h]

end

theorem zonePointValue_of {z : Fin 12} {p : Fin 32} (hz : s.wm.zonePoint z = some p) : s.zonePointValue z = (s.point p).value := by
  simp [State.zonePointValue, hz]

theorem zoneState_eq_active_iff (z : Fin 12) : s.zoneState z = .active ↔ (s.zone z).enabled = true ∧
    ∃ p, s.wm.zonePoint z = some p ∧ s.wm.pointKind p = .temp ∧ (s.point p).state = .valid := by
  refine ⟨fun h => ?_, fun ⟨he, p, hz, hk, hv⟩ => zoneState_active he hz hk hv⟩
  cases he : (s.zone z).enabled with
  | false => simp [zoneState_off he] at h
  | true =>
    refine ⟨rfl, ?_⟩
    by_contra hno
    simp only [State.zoneState, he, State.zonePointState] at h
    cases hz : s.wm.zonePoint z with
    | none => simp [hz] at h
    | some p =>
      by_cases hk : s.wm.pointKind p = .temp
      · cases hv : (s.point p).state
        case valid => exact hno ⟨p, hz, hk, hv⟩
        all_goals simp only [hz, hk, hv, if_true, Bool.not_true, Bool.false_eq_true, if_false] at h
        case held => split at h <;> cases h
        case pending => split at h <;> cases h
        all_goals cases h
      · simp [hz, hk] at h

/-- Settles O17. -/
theorem activeZoneFollowsTheDemandLaw : Obligations.ActiveZoneFollowsTheDemandLaw := by
  intro s z p ht ho he hz hk hv
  dsimp only
  rw [← effectiveError_eq]
  generalize heff : effectiveError (s.zone z).setpoint (s.point p).value s.wm.deadband = e
  refine ⟨_, s.integralAt z e, exec_regulationTimerExpiry_stage1 ht ho, fun hf => ?_, fun hf => ?_, ?_⟩
  · exact integralAt_of_frozen ((frozen_iff z e).mpr hf)
  · exact integralAt_of_not_frozen fun h => hf ((frozen_iff z e).mp h)
  · rw [stage1_zone, regulated_cycleRestarted, regulated_active (zoneState_active he hz hk hv), zonePointValue_of hz, heff]
    rfl

/-! ### Substitutes (R10) -/

theorem sumInt_eq_sum (l : List Int) : sumInt l = l.sum := by rw [sumInt, List.sum_eq_foldl]

section
variable (s) (z : Fin 12)

/-- The temperature an ACTIVE zone of a handler gives its SUBSTITUTE zones. -/
def State.activeTemp (s : State) (h : Fin 2) (y : Fin 12) : Option Int := match s.wm.zonePoint y with
  | some p => if (s.zone y).enabled = true ∧ s.wm.zoneHandler y = h ∧ s.wm.pointKind p = .temp ∧ (s.point p).state = .valid
      then some (s.point p).value else none
  | none => none

theorem activeTemp_eq (h : Fin 2) (y : Fin 12) : s.activeTemp h y =
    if (s.wm.zoneHandler y == h && s.zoneState y == .active) = true then some (s.zonePointValue y) else none := by
  have hactive := zoneState_eq_active_iff (s := s) y
  unfold State.activeTemp
  cases hz : s.wm.zonePoint y with
  | none =>
    have hno : s.zoneState y ≠ .active := fun h => by
      obtain ⟨_, p, hp, _⟩ := hactive.mp h
      simp [hz] at hp
    simp [hno]
  | some p =>
    simp only [hz, Option.some.injEq, exists_eq_left'] at hactive
    simp only [zonePointValue_of hz, Bool.and_eq_true, beq_iff_eq, hactive]
    by_cases hh : s.wm.zoneHandler y = h <;> simp [hh]

/-- The temperatures of a handler's ACTIVE zones, in zone order. -/
theorem filterMap_activeTemp (h : Fin 2) : (List.finRange 12).filterMap (s.activeTemp h) = (s.activeZones h).map s.zonePointValue := by
  rw [State.activeZones, ← List.filterMap_eq_map, List.filterMap_filter]
  exact List.filterMap_congr fun y _ => by rw [activeTemp_eq]; rfl

theorem substituteOf_mean {temps : List Int} (ht : (List.finRange 12).filterMap (s.activeTemp (s.wm.zoneHandler z)) = temps)
    (hne : temps ≠ []) : s.substituteOf z = (.zoneMean, some (roundHalfAway temps.sum temps.length)) := by
  rw [filterMap_activeTemp] at ht
  unfold State.substituteOf
  cases ha : s.activeZones (s.wm.zoneHandler z) with
  | nil =>
    rw [ha] at ht
    exact absurd ht.symm hne
  | cons a as =>
    rw [ha] at ht
    simp only [ha]
    rw [← ht, sumInt_eq_sum, List.length_map]

theorem substituteOf_returnAir (ht : (List.finRange 12).filterMap (s.activeTemp (s.wm.zoneHandler z)) = []) {v : Int}
    (hv : s.usable (s.wm.returnPoint (s.wm.zoneHandler z)) = some v) : s.substituteOf z = (.returnAir, some v) := by
  rw [filterMap_activeTemp, List.map_eq_nil_iff] at ht
  simp only [State.substituteOf, ht, hv]

theorem substituteOf_noSource (ht : (List.finRange 12).filterMap (s.activeTemp (s.wm.zoneHandler z)) = [])
    (hv : s.usable (s.wm.returnPoint (s.wm.zoneHandler z)) = none) : s.substituteOf z = (.noSource, none) := by
  rw [filterMap_activeTemp, List.map_eq_nil_iff] at ht
  simp only [State.substituteOf, ht, hv]
end

/-- Settles O18. -/
theorem otherZonesByTheirState : Obligations.OtherZonesByTheirState := by
  intro s z ht ho
  intro before h active temps waiting lost substituting
  have hzone : (stage1 s.cycleRestarted).zone z = s.regulated z := by rw [stage1_zone, regulated_cycleRestarted]
  have hsub (hs : substituting) : s.zoneState z = .substitute := by
    obtain ⟨he, hlost | ⟨p, hz, hk, hw, hage⟩⟩ := hs
    · exact zoneState_lost he hlost
    · rw [zoneState_waiting he hz hk hw, if_neg (by omega)]
  refine ⟨_, exec_regulationTimerExpiry_stage1 ht ho, fun he => ?_, fun he hw => ?_, fun hs hne v hv => ?_, fun hs hnil v hv => ?_,
    fun hs hnil hv => ?_⟩ <;> rw [hzone]
  · exact regulated_off (zoneState_off he)
  · obtain ⟨p, hz, hk, hw, hage⟩ := hw
    exact regulated_held (by rw [zoneState_waiting he hz hk hw, if_pos hage])
  · rw [regulated_substitute (hsub hs), substituteOf_mean s z (temps := temps) rfl hne, ← hv]
    rfl
  · rw [regulated_substitute (hsub hs), substituteOf_returnAir s z hnil hv]
    rfl
  · rw [regulated_substitute (hsub hs), substituteOf_noSource s z hnil hv]
    rfl

/-! ### The allotment returns (R5, R17) -/

/-- The zone table once an allotment has been written into it (R17). -/
def State.allotted (s : State) (a : Allotment) : State := s.setZr { s.zr with
  zones := Vector.ofFn fun z => { s.zone z with grantedReheat := (a.zones[z]).duty, limited := (a.zones[z]).limited }
  outstanding := false }

@[simp] theorem allotted_zone (a : Allotment) (z : Fin 12) : (s.allotted a).zone z =
    { s.zone z with grantedReheat := (a.zones[z]).duty, limited := (a.zones[z]).limited } := by
  simp [State.allotted, State.zone]

theorem zrAccepts_iff (a : Allotment) :
    s.zrAccepts a = true ↔ s.sc.opState = .run ∧ s.zr.outstanding = true ∧ a.cycleNo = s.zr.cycleNo := by
  simp [State.zrAccepts, and_assoc]

theorem takeAllotment_eq (a : Allotment) : takeAllotment a s = if s.zr.deferred then stage1 (s.allotted a) else s.allotted a := rfl

/-- What a stage 1 makes of the zones and hands on comes from the zone table, the cycle number, the points and doors, and the settings. -/
theorem stage1_congr {u v : State} (hzones : u.zr.zones = v.zr.zones) (hcycle : u.zr.cycleNo = v.zr.cycleNo) (hsu : u.su = v.su)
    (hpl : u.pl = v.pl) (hsc : u.sc = v.sc) (hbus : u.bus.demandSets = v.bus.demandSets) :
    (stage1 u).zr.zones = (stage1 v).zr.zones ∧ (stage1 u).bus.demandSets = (stage1 v).bus.demandSets := by
  have hregulated : u.regulated = v.regulated := by
    obtain ⟨⟨zones⟩⟩ := u
    obtain ⟨⟨zones⟩⟩ := v
    dsimp only at hzones hsu hpl hsc
    subst hzones hsu hpl hsc
    rfl
  have htable : (stage1 u).zr.zones = (stage1 v).zr.zones := congrArg Vector.ofFn hregulated
  have hzone (z : Fin 12) : (stage1 u).zone z = (stage1 v).zone z := by rw [State.zone, htable, State.zone]
  have hwm : (stage1 u).wm = (stage1 v).wm := congrArg PL.wm hpl
  have hnumber : (stage1 u).zr.cycleNo = (stage1 v).zr.cycleNo := congrArg (· + 1) hcycle
  have hset : (stage1 u).demandSet = (stage1 v).demandSet := by simp only [State.demandSet, hzone, hwm, hnumber]
  have hbus' (w : State) : (stage1 w).bus.demandSets = w.bus.demandSets ++ [⟨false, (stage1 w).demandSet⟩] := rfl
  exact ⟨htable, by rw [hbus', hbus', hbus, hset]⟩

section
variable {a : Allotment} {rest : List Allotment} (hb : s.bus.allotZR = a :: rest)
include hb

theorem exec_allotmentAtZr_discarded (h : ¬ s.zrAccepts a = true) :
    exec .allotmentAtZr s = .next (s.setBus { s.bus with allotZR := rest }) := by
  show execAllotmentAtZr s = _
  simp only [execAllotmentAtZr, hb, if_neg h]

theorem exec_allotmentAtZr_taken (h : s.zrAccepts a = true) (hd : s.zr.deferred = false) :
    exec .allotmentAtZr s = .next ((s.setBus { s.bus with allotZR := rest }).allotted a) := by
  show execAllotmentAtZr s = _
  simp only [execAllotmentAtZr, hb, if_pos h, takeAllotment_eq, State.setBus_zr, hd, Bool.false_eq_true, if_false]

theorem exec_allotmentAtZr_deferred (h : s.zrAccepts a = true) (hd : s.zr.deferred = true) :
    exec .allotmentAtZr s = .next (stage1 ((s.setBus { s.bus with allotZR := rest }).allotted a)) := by
  show execAllotmentAtZr s = _
  simp only [execAllotmentAtZr, hb, if_pos h, takeAllotment_eq, State.setBus_zr, hd, if_true]
end

/-- Settles O19. -/
theorem allotmentReturnsToTheZones : Obligations.AllotmentReturnsToTheZones := by
  intro s a rest hb accepted written
  have haccepts : s.zrAccepts a = true ↔ accepted := zrAccepts_iff a
  refine ⟨fun hno => ?_, fun hyes hd => ?_, fun hyes hd => ?_⟩
  · exact exec_allotmentAtZr_discarded hb fun h => hno (haccepts.mp h)
  · exact ⟨_, exec_allotmentAtZr_taken hb (haccepts.mpr hyes) hd, rfl, allotted_zone a⟩
  · set u := (s.setBus { s.bus with allotZR := rest }).allotted a with hu
    have hzone (z : Fin 12) : u.zone z = { s.zone z with grantedReheat := (a.zones[z]).duty, limited := (a.zones[z]).limited } :=
      allotted_zone a z
    refine ⟨_, (stage1 u).demandSet, exec_allotmentAtZr_deferred hb (haccepts.mpr hyes) hd, stage1_eq, rfl, ?_, fun z => ?_,
      fun z p he hz hk hv => ?_⟩
    · exact ⟨_, exec_regulationTimerExpiry_stage1 rfl rfl, stage1_congr rfl rfl rfl rfl rfl rfl⟩
    · obtain ⟨henabled, hsetpoint, hlimited, hreheat⟩ := regulated_kept (s := u) z
      rw [hzone] at henabled hsetpoint hlimited hreheat
      refine ⟨?_, ?_, ?_, ?_, demandSet_zone z⟩ <;> rw [stage1_zone]
      · exact henabled
      · exact hsetpoint
      · exact hreheat
      · exact hlimited
    · dsimp only
      have hu_enabled : (u.zone z).enabled = true := by rw [hzone]; exact he
      have hvalue : u.zonePointValue z = (s.point p).value := zonePointValue_of (s := u) hz
      have hsetpoint : (u.zone z).setpoint = (s.zone z).setpoint := by rw [hzone]
      have hbefore : (u.zone z).integralBefore = if (s.zone z).state = .off then 0 else (s.zone z).integral := by rw [hzone]; rfl
      have hdeadband : u.wm.deadband = s.wm.deadband := rfl
      rw [← effectiveError_eq, stage1_zone, regulated_active (zoneState_active (s := u) hu_enabled hz hk hv), hvalue, hsetpoint, hdeadband]
      generalize effectiveError (s.zone z).setpoint (s.point p).value s.wm.deadband = e
      have hfrozen := frozen_iff (s := u) z e
      rw [hzone] at hfrozen
      refine ⟨rfl, rfl, rfl, fun hf => ?_, fun hf => ?_, rfl⟩
      · exact (integralAt_of_frozen (hfrozen.mpr hf)).trans hbefore
      · rw [← hbefore]
        exact integralAt_of_not_frozen fun h => hf (hfrozen.mp h)

end Sys2Proof.Machine

/-! ## Requests to the zones (01) -/

namespace Sys2Proof.Machine

variable {s : State}

/-! ### Served requests whose owner leaves the Link Unit alone (R149, R150) -/

theorem request_answered (h : s.Served) (k : Byte) (p : List Byte) {owner : State → State × List Byte} {t : State} {content : List Byte}
    (howner : owner (s.withInHand k p) = (t, content)) (hlu : t.lu = (s.withInHand k p).lu) (hop : t.sc.opState ≠ .parked) :
    request k p (dispatch k false owner) s = .next (t.setLu (s.lu.replied k p content)) := by
  have hstate : (owner (s.withInHand k p)).1 = t := congrArg Prod.fst howner
  have hcontent : (owner (s.withInHand k p)).2 = content := congrArg Prod.snd howner
  rw [served_answer h k p false owner (by rw [hstate, hlu]) (by rw [hstate]; exact hop), hstate, hcontent]

/-- A served request whose owner only answers. -/
theorem request_only_answered (h : s.Served) (k : Byte) (p : List Byte) {owner : State → State × List Byte} {content : List Byte}
    (howner : owner (s.withInHand k p) = (s.withInHand k p, content)) :
    request k p (dispatch k false owner) s = .next { s with lu := s.lu.replied k p content } :=
  request_answered (t := s.withInHand k p) h k p howner rfl h.awake

/-! ### SET_SETPOINTS (R18) -/

theorem exec_setSetpoints_badLength (h : s.Served) {pairs : List (Byte × Word16)} (hl : ¬ (1 ≤ pairs.length ∧ pairs.length ≤ 12)) :
    exec (.setSetpoints pairs) s = .next { s with lu := s.lu.replied 0x10 (pairPayload pairs) [8] } := by
  rw [exec_request_awake rfl h.awake, requestAct_setSetpoints_badLength hl, takeFrame_answerDue h.awake h.2]
  rfl

theorem exec_setSetpoints (hs : s.sc.opState ≠ .parked) {pairs : List (Byte × Word16)} (hl : 1 ≤ pairs.length ∧ pairs.length ≤ 12) :
    exec (.setSetpoints pairs) s = request 0x10 (pairPayload pairs) (dispatch 0x10 false (setSetpointsOwner pairs)) s := by
  rw [exec_request_awake rfl hs, requestAct_setSetpoints hl, request, if_neg hs]
  rfl

theorem applyPair_zone (u : State) (p : Byte × Word16) (z : Fin 12) : (applyPair u p).zone z =
    if p.1.toNat = z.val then { u.zone z with setpoint := clampedSetpoint p.2 } else u.zone z := by
  unfold applyPair
  split
  · next h =>
    by_cases hz : p.1.toNat = z.val
    · obtain rfl : (⟨p.1.toNat, h⟩ : Fin 12) = z := Fin.ext hz
      simp
    · have hne : (⟨p.1.toNat, h⟩ : Fin 12) ≠ z := fun he => hz (congrArg Fin.val he)
      rw [State.putZone_zone_other (s := u) hne, if_neg hz]
  · next h => rw [if_neg (by have := z.isLt; omega)]

/-- The last setpoint that names a zone, as it is applied. -/
def setpointNamed (pairs : List (Byte × Word16)) (z : Fin 12) : Option Int :=
  ((pairs.filter fun p => p.1.toNat == z.val).getLast?).map fun p => clampedSetpoint p.2

/-- Each zone takes the last setpoint that names it. -/
theorem foldl_applyPair_zone (pairs : List (Byte × Word16)) (u : State) (z : Fin 12) : (pairs.foldl applyPair u).zone z =
    { u.zone z with setpoint := (setpointNamed pairs z).getD (u.zone z).setpoint } := by
  unfold setpointNamed
  induction pairs generalizing u with
  | nil => simp
  | cons p pairs ih =>
    rw [List.foldl_cons, ih, applyPair_zone]
    by_cases hz : p.1.toNat = z.val
    · rw [if_pos hz, List.filter_cons_of_pos (by simpa using hz), List.getLast?_cons]
      cases (pairs.filter fun p => p.1.toNat == z.val).getLast? <;> simp
    · rw [if_neg hz, List.filter_cons_of_neg (by simpa using hz)]

theorem zoneTable_trans {u v w : State} (hv : v = { u with zr := { u.zr with zones := v.zr.zones } })
    (hw : w = { v with zr := { v.zr with zones := w.zr.zones } }) : w = { u with zr := { u.zr with zones := w.zr.zones } } := by
  rw [hv] at hw
  exact hw

theorem foldl_applyPair_eq (pairs : List (Byte × Word16)) (u : State) :
    pairs.foldl applyPair u = { u with zr := { u.zr with zones := (pairs.foldl applyPair u).zr.zones } } := by
  induction pairs generalizing u with
  | nil => rfl
  | cons p pairs ih =>
    have happly : applyPair u p = { u with zr := { u.zr with zones := (applyPair u p).zr.zones } } := by
      unfold applyPair
      split <;> rfl
    exact zoneTable_trans happly (ih _)

theorem pairBytes_eq (u : State) {p : Byte × Word16} (hp : p.1.toNat < 12) :
    u.pairBytes p = p.1 :: int16 (u.zone (Fin.ofNat 12 p.1.toNat)).setpoint := by
  have hzone : Fin.ofNat 12 p.1.toNat = ⟨p.1.toNat, hp⟩ := Fin.ext (Nat.mod_eq_of_lt hp)
  rw [State.pairBytes, dif_pos hp, hzone]
  rfl

theorem clampedSetpoint_eq_self_iff (w : Word16) : clampedSetpoint w = w.toInt ↔ 120 ≤ w.toInt ∧ w.toInt ≤ 300 := by
  simp only [clampedSetpoint, clampInt]
  omega

theorem setSetpointsOwner_badArg {pairs : List (Byte × Word16)} (hp : ∃ p ∈ pairs, 12 ≤ p.1.toNat) (u : State) :
    setSetpointsOwner pairs u = (u, [7]) := by
  have hany : (pairs.any fun p => decide (12 ≤ p.1.toNat)) = true := by simpa using hp
  simp only [setSetpointsOwner, hany, if_true]
  rfl

theorem setSetpointsOwner_ok {pairs : List (Byte × Word16)} (hp : ∀ p ∈ pairs, p.1.toNat < 12) (u : State) :
    setSetpointsOwner pairs u = (pairs.foldl applyPair u,
      [if ∀ p ∈ pairs, 120 ≤ p.2.toInt ∧ p.2.toInt ≤ 300 then 0 else 1] ++ num8 pairs.length
        ++ pairs.flatMap fun p => p.1 :: int16 ((pairs.foldl applyPair u).zone (Fin.ofNat 12 p.1.toNat)).setpoint) := by
  have hnone : (pairs.any fun p => decide (12 ≤ p.1.toNat)) = false := by simpa using hp
  have hcode : (if (pairs.any fun p => clampedSetpoint p.2 != p.2.toInt) = true then codeClamped else codeOk) =
      if ∀ p ∈ pairs, 120 ≤ p.2.toInt ∧ p.2.toInt ≤ 300 then (0 : Byte) else 1 := by
    have hall : (pairs.any fun p => clampedSetpoint p.2 != p.2.toInt) = true ↔ ¬ ∀ p ∈ pairs, 120 ≤ p.2.toInt ∧ p.2.toInt ≤ 300 := by
      simp only [List.any_eq_true, bne_iff_ne, ne_eq, clampedSetpoint_eq_self_iff]
      push Not
      rfl
    by_cases h : ∀ p ∈ pairs, 120 ≤ p.2.toInt ∧ p.2.toInt ≤ 300
    · rw [if_pos h, if_neg (fun hc => hall.mp hc h)]
      rfl
    · rw [if_neg h, if_pos (hall.mpr h)]
      rfl
  have hbytes : pairs.flatMap (pairs.foldl applyPair u).pairBytes =
      pairs.flatMap fun p => p.1 :: int16 ((pairs.foldl applyPair u).zone (Fin.ofNat 12 p.1.toNat)).setpoint :=
    List.flatMap_congr fun p hmem => pairBytes_eq _ (hp p hmem)
  simp only [setSetpointsOwner, hnone, Bool.false_eq_true, if_false]
  rw [hcode, hbytes]

/-! ### SET_ZONE_ENABLE (R19) -/

theorem setZoneEnableOwner_ok (z : Fin 12) (on : Bool) (u : State) :
    setZoneEnableOwner (BitVec.ofNat 8 z) (if on then 1 else 0) u =
      (u.putZone z { u.zone z with enabled := on }, [0, BitVec.ofNat 8 z, if on then 1 else 0]) := by
  have hz : (BitVec.ofNat 8 z).toNat = z.val := by
    rw [BitVec.toNat_ofNat, Nat.mod_eq_of_lt]
    omega
  have hzone : (⟨(BitVec.ofNat 8 z).toNat, by omega⟩ : Fin 12) = z := Fin.ext hz
  have hon : (if on then (1 : Byte) else 0).toNat < 2 := by cases on <;> decide
  have henable : ((if on then (1 : Byte) else 0) == 1) = on := by cases on <;> rfl
  rw [setZoneEnableOwner, dif_pos ⟨by omega, hon⟩]
  simp only [hzone, henable]
  rfl

theorem setZoneEnableOwner_badArg {z e : Byte} (h : 12 ≤ z.toNat ∨ 2 ≤ e.toNat) (u : State) : setZoneEnableOwner z e u = (u, [7]) := by
  rw [setZoneEnableOwner, dif_neg (by omega)]
  rfl

/-- Settles O15. -/
theorem zoneRequestsWriteZones : Obligations.ZoneRequestsWriteZones := by
  intro s hs
  refine ⟨fun pairs hl => exec_setSetpoints_badLength hs hl, fun pairs hl hp => ?_, fun pairs hl hp => ?_, fun z on => ?_, fun z e h => ?_⟩
  · rw [exec_setSetpoints hs.awake hl]
    exact request_only_answered hs _ _ (setSetpointsOwner_badArg hp _)
  · rw [exec_setSetpoints hs.awake hl]
    have hstate := foldl_applyPair_eq pairs (s.withInHand 0x10 (pairPayload pairs))
    have hzone := foldl_applyPair_zone pairs (s.withInHand 0x10 (pairPayload pairs))
    have howner := setSetpointsOwner_ok hp (s.withInHand 0x10 (pairPayload pairs))
    generalize pairs.foldl applyPair (s.withInHand 0x10 (pairPayload pairs)) = u at hstate hzone howner
    refine ⟨_, request_answered hs _ _ howner (by rw [hstate]) (by rw [hstate]; exact hs.awake), ?_, hzone⟩
    conv_lhs => rw [hstate]
    rfl
  · exact request_answered hs 0x11 [BitVec.ofNat 8 z, if on then 1 else 0] (setZoneEnableOwner_ok z on _) rfl hs.awake
  · exact request_only_answered hs 0x11 [z, e] (setZoneEnableOwner_badArg h _)

end Sys2Proof.Machine

/-! ## Power allotment (03) -/

namespace Sys2Proof.Machine

variable {s : State}

/-! ### The grant (R42, R44, R45) -/

theorem kick_eq (s : State) : kick s = s.setLu (kick s).lu := by
  unfold kick
  split <;> rfl

theorem kick_events (s : State) : (kick s).lu.events = s.lu.events := by
  unfold kick
  split
  · rfl
  · simp

theorem kick_event (s : State) (k : EventKind) : (kick s).lu.event k = s.lu.event k := by rw [LU.event, kick_events, LU.event]

theorem grantOwner_eq (w : Word16) (l : Byte) (u : State) : grantOwner w l u =
    (u.setPa { u.pa with
        liveGrant := min w.toNat 60000, lifetime := max 1 (min l.toNat 120), live := true
        timer := some (100000 * max 1 (min l.toNat 120)) },
      [if w.toNat ≤ 60000 ∧ 1 ≤ l.toNat ∧ l.toNat ≤ 120 then 0 else 1] ++ num16 (min w.toNat 60000) ++ num8 (max 1 (min l.toNat 120))) := by
  have hcode : (if min w.toNat 60000 ≠ w.toNat ∨ max 1 (min l.toNat 120) ≠ l.toNat then codeClamped else codeOk) =
      if w.toNat ≤ 60000 ∧ 1 ≤ l.toNat ∧ l.toNat ≤ 120 then (0 : Byte) else 1 := by
    by_cases h : w.toNat ≤ 60000 ∧ 1 ≤ l.toNat ∧ l.toNat ≤ 120
    · rw [if_pos h, if_neg (by omega)]
      rfl
    · rw [if_neg h, if_pos (by omega)]
      rfl
  rw [grantOwner, hcode]
  simp only [sec, Nat.mul_comm]

theorem exec_lifetimeExpiry (ht : s.pa.timer.isSome) : exec .lifetimeExpiry s =
    .next (kick (latch .grantExpired 0 (s.pa.liveGrant / 10 : Nat) (s.setPa { s.pa with live := false, timer := none }))) := by
  show execLifetimeExpiry s = _
  rw [execLifetimeExpiry, if_pos ht]

/-- Settles O24. -/
theorem grantTakesForceAndExpires : Obligations.GrantTakesForceAndExpires := by
  intro s
  refine ⟨fun w l hs => ?_, fun ht => ?_, fun ht => ⟨_, exec_lifetimeExpiry ht, ?_, ?_, ?_, fun k hk => ?_⟩⟩
  · exact request_answered hs 0x20 (wordBytes w ++ [l]) (grantOwner_eq w l _) rfl hs.awake
  · show execLifetimeExpiry s = _
    simp [execLifetimeExpiry, ht]
  · rw [kick_eq]
    rfl
  · rw [kick_eq]
    rfl
  · have hvalue : clampInt (-32768) 32767 ((s.pa.liveGrant / 10 : Nat) : Int) = min 32767 ((s.pa.liveGrant / 10 : Nat) : Int) := by
      simp only [clampInt]
      omega
    rw [kick_event, latch_event, hvalue]
    rfl
  · rw [kick_event]
    exact LU.event_occur_other (Ne.symm hk) _ _ _

/-! ### One allotment (R46, R47, R55, R56) -/

section
variable {r : Handed RequestSet} {rest : List (Handed RequestSet)} (hb : s.bus.requestSets = r :: rest)
include hb

theorem exec_requestSetReceived_discarded (h : s.sc.opState ≠ .run ∨ r.dropped = true) :
    exec .requestSetReceived s = .next (s.setBus { s.bus with requestSets := rest }) := by
  have hno : ¬ (s.sc.opState = .run ∧ (!r.dropped) = true) := by
    rintro ⟨hrun, hkept⟩
    rcases h with h | h
    · exact h hrun
    · simp [h] at hkept
  show execRequestSetReceived s = _
  simp only [execRequestSetReceived, hb, if_neg hno]

theorem exec_requestSetReceived_taken (hrun : s.sc.opState = .run) (hd : r.dropped = false) :
    exec .requestSetReceived s = .next (stage3 r.set (s.setBus { s.bus with requestSets := rest })) := by
  have hyes : s.sc.opState = .run ∧ (!r.dropped) = true := ⟨hrun, by simp [hd]⟩
  show execRequestSetReceived s = _
  simp only [execRequestSetReceived, hb, if_pos hyes]
end

section
variable (m : Made) (r : RequestSet) (g : Nat) (live : Bool)

theorem Made.allotment_handler (h : Fin 2) : (m.allotment r).handlers[h] = ⟨m.fixed.outcome[h], m.command[h]⟩ := by
  simp [Made.allotment]

theorem Made.allotment_zone (z : Fin 12) : (m.allotment r).zones[z] = ⟨m.duty[z], m.limited[z]⟩ := by simp [Made.allotment]

theorem Made.record_handler (h : Fin 2) : (m.record g live r).handlers[h] =
    ⟨(r.handlers[h]).mode, (r.handlers[h]).qReq, m.fixed.outcome[h], m.command[h], (r.handlers[h]).rating * m.command[h] / 1000⟩ := by
  simp [Made.record]

theorem Made.record_zone (z : Fin 12) : (m.record g live r).zones[z] =
    ⟨(r.zones[z]).request, m.duty[z], (r.zones[z]).rating * m.duty[z] / 1000, m.limited[z]⟩ := by
  simp [Made.record]
end

/-- Settles O25. -/
theorem requestSetMakesAnAllotment : Obligations.RequestSetMakesAnAllotment := by
  intro s r rest hb
  refine ⟨exec_requestSetReceived_discarded hb, fun hrun hd => ?_⟩
  intro m a compressors elements
  have htotal : m.total r.set = compressors + elements := m.total_eq_allotment_sums r.set
  refine ⟨_, exec_requestSetReceived_taken hb hrun hd, rfl, rfl, rfl, rfl, rfl, rfl, rfl, rfl, rfl, ?_, ?_, fun h => ?_, fun z => ?_⟩
  · rw [← htotal]
    rfl
  · rw [← htotal]
    rfl
  · rw [m.allotment_handler]
    exact ⟨rfl, rfl, m.record_handler r.set s.effectiveGrant s.pa.live h⟩
  · rw [m.allotment_zone]
    exact ⟨rfl, rfl, m.record_zone r.set s.effectiveGrant s.pa.live z⟩

end Sys2Proof.Machine

/-! ## The five steps of an allotment (R48 to R52, R54) -/

namespace Sys2Proof.Machine

/-! ### Step 1: fixed power (R48) -/

section
variable (cap qDef : Nat) (r : RequestSet)

/-- The fixed power a handler asks for. -/
def fixedNeed (h : Fin 2) : Nat := (r.handlers[h]).rating * qDef

/-- The fixed power after a handler that may ask: it is taken whole or not at all. -/
def powerAfter (p : Nat) (asked : Bool) (h : Fin 2) : Nat :=
  if asked = true ∧ p + fixedNeed qDef r h ≤ cap then p + fixedNeed qDef r h else p

/-- The fixed power before the candidates, and after each of them. -/
def powerRunning0 : Nat := powerAfter cap qDef r 0 (r.handlers[(0 : Fin 2)]).runningDefrost 0
def powerRunning : Nat := powerAfter cap qDef r (powerRunning0 cap qDef r) (r.handlers[(1 : Fin 2)]).runningDefrost 1
def powerOffers0 : Nat := powerAfter cap qDef r (powerRunning cap qDef r) (r.handlers[(0 : Fin 2)]).candidate 0
def powerOffers : Nat := powerAfter cap qDef r (powerOffers0 cap qDef r) (r.handlers[(1 : Fin 2)]).candidate 1

/-- What a handler gets when it is looked at with the given fixed power as running and as a candidate. -/
def outcomeWith (h : Fin 2) (runs offers : Nat) : FixedOutcome :=
  if (r.handlers[h]).candidate = true then (if offers + fixedNeed qDef r h ≤ cap then .admitted else .refused)
  else if (r.handlers[h]).runningDefrost = true then (if runs + fixedNeed qDef r h ≤ cap then .kept else .aborted) else .none

def outcomeOf (h : Fin 2) : FixedOutcome :=
  if h = 0 then outcomeWith cap qDef r 0 0 (powerRunning cap qDef r)
  else outcomeWith cap qDef r 1 (powerRunning0 cap qDef r) (powerOffers0 cap qDef r)

def fixedCommand (h : Fin 2) : Nat := if outcomeOf cap qDef r h = .kept ∨ outcomeOf cap qDef r h = .admitted then qDef else 0

variable {cap qDef r} (mark : RequestHandler → Bool) (yes no : FixedOutcome) (h : Fin 2) (x : Fixed)

theorem fixOne_power : (fixOne cap qDef r mark yes no h x).power = powerAfter cap qDef r x.power (mark r.handlers[h]) h := by
  unfold fixOne powerAfter fixedNeed
  dsimp only
  split
  · split <;> simp_all
  · simp_all

theorem getElem_set_fin {α : Type} {n : Nat} (v : Vector α n) (i k : Fin n) (a : α) :
    (v.set i a)[k] = if k = i then a else v[k] := by
  by_cases hki : k = i
  · subst hki
    simp
  · rw [if_neg hki]
    exact Vector.getElem_set_ne _ _ fun e => hki (Fin.ext e.symm)

theorem fixOne_outcome (k : Fin 2) : (fixOne cap qDef r mark yes no h x).outcome[k] =
    if k = h ∧ mark r.handlers[h] = true then (if x.power + fixedNeed qDef r h ≤ cap then yes else no) else x.outcome[k] := by
  unfold fixOne fixedNeed
  by_cases hm : mark r.handlers[h] = true
  · by_cases hfits : x.power + (r.handlers[h]).rating * qDef ≤ cap <;> simp only [hm, hfits, if_true, if_false, getElem_set_fin, and_true]
  · simp only [hm, if_false, and_false, Bool.false_eq_true]

/-- The command that goes with an outcome of step 1: the defrost command, or 0. -/
def Fixed.Consistent (qDef : Nat) (x : Fixed) : Prop :=
  ∀ k : Fin 2, x.command[k] = if x.outcome[k] = .kept ∨ x.outcome[k] = .admitted then qDef else 0

theorem fixOne_consistent (hyes : yes = .kept ∨ yes = .admitted) (hno : ¬ (no = .kept ∨ no = .admitted)) (hx : x.Consistent qDef) :
    (fixOne cap qDef r mark yes no h x).Consistent qDef := by
  intro k
  unfold fixOne
  by_cases hm : mark r.handlers[h] = true
  · by_cases hfits : x.power + (r.handlers[h]).rating * qDef ≤ cap
    · simp only [hm, hfits, if_true, getElem_set_fin]
      by_cases hkh : k = h
      · simp only [hkh, if_true, if_pos hyes]
      · simp only [hkh, if_false, hx k]
    · simp only [hm, hfits, if_true, if_false, getElem_set_fin]
      by_cases hkh : k = h
      · simp only [hkh, if_true, if_neg hno]
      · simp only [hkh, if_false, hx k]
  · simp only [hm, if_false, hx k, Bool.false_eq_true]
end

section
variable (cap qDef : Nat) (r : RequestSet)

theorem fixedRequests_power : (fixedRequests cap qDef r).power = powerOffers cap qDef r := by
  simp only [fixedRequests, fixOne_power]
  rfl

theorem outcomeOf_zero : outcomeOf cap qDef r 0 = outcomeWith cap qDef r 0 0 (powerRunning cap qDef r) := if_pos rfl

theorem outcomeOf_one : outcomeOf cap qDef r 1 = outcomeWith cap qDef r 1 (powerRunning0 cap qDef r) (powerOffers0 cap qDef r) :=
  if_neg (by decide)

theorem fixedRequests_outcome (h : Fin 2) : (fixedRequests cap qDef r).outcome[h] = outcomeOf cap qDef r h := by
  have hnone : (Vector.replicate 2 FixedOutcome.none)[h] = .none := by simp
  have hcases : h = 0 ∨ h = 1 := by omega
  simp only [fixedRequests, fixOne_outcome, fixOne_power, hnone]
  rcases hcases with rfl | rfl
  · rw [outcomeOf_zero]
    simp only [outcomeWith, powerRunning, powerRunning0, true_and, zero_ne_one, false_and, if_false]
    rfl
  · rw [outcomeOf_one]
    simp only [outcomeWith, powerOffers0, powerRunning, powerRunning0, true_and, one_ne_zero, false_and, if_false]
    rfl

theorem fixedRequests_command (h : Fin 2) : (fixedRequests cap qDef r).command[h] = fixedCommand cap qDef r h := by
  have hstart : (⟨0, Vector.replicate 2 .none, Vector.replicate 2 0⟩ : Fixed).Consistent qDef := fun k => by simp
  have hrun (h : Fin 2) (x : Fixed) (hx : x.Consistent qDef) :=
    fixOne_consistent (cap := cap) (r := r) (·.runningDefrost) .kept .aborted h x (.inl rfl) (by simp) hx
  have hcand (h : Fin 2) (x : Fixed) (hx : x.Consistent qDef) :=
    fixOne_consistent (cap := cap) (r := r) (·.candidate) .admitted .refused h x (.inr rfl) (by simp) hx
  have hall := hcand 1 _ (hcand 0 _ (hrun 1 _ (hrun 0 _ hstart))) h
  refine hall.trans ?_
  rw [fixedCommand, ← fixedRequests_outcome]
  rfl
end

/-! ### Steps 2 and 3: the variable requests and the sweep (R49 to R51) -/

section
variable (cap qMin qDef : Nat) (r : RequestSet)

/-- The handler's request is variable. -/
abbrev Varies (h : Fin 2) : Prop :=
  ((r.handlers[h]).mode = .heat ∨ (r.handlers[h]).mode = .cool) ∧ 0 < (r.handlers[h]).qReq ∧ outcomeOf cap qDef r h ≠ .admitted

/-- The power a handler draws with a command, as far as it is variable. -/
def draws (h : Fin 2) (q : Nat) : Nat := if Varies cap qDef r h then (r.handlers[h]).rating * q else 0

def wantOf : Nat := draws cap qDef r 0 (r.handlers[(0 : Fin 2)]).qReq + draws cap qDef r 1 (r.handlers[(1 : Fin 2)]).qReq

def scaleAt : Nat :=
  if wantOf cap qDef r ≤ cap - powerOffers cap qDef r then 1000 else 1000 * (cap - powerOffers cap qDef r) / wantOf cap qDef r

def scaledAt (h : Fin 2) : Nat :=
  if Varies cap qDef r h then (r.handlers[h]).qReq * scaleAt cap qDef r / 1000 else fixedCommand cap qDef r h

/-- A handler's command after the sweep, with what the other one draws. -/
def sweepAt (h : Fin 2) (q other : Nat) : Nat :=
  if Varies cap qDef r h ∧ 0 < q ∧ q < qMin
  then (if powerOffers cap qDef r + (r.handlers[h]).rating * qMin + other ≤ cap then qMin else 0) else q

def command0 : Nat := sweepAt cap qMin qDef r 0 (scaledAt cap qDef r 0) (draws cap qDef r 1 (scaledAt cap qDef r 1))
def command1 : Nat := sweepAt cap qMin qDef r 1 (scaledAt cap qDef r 1) (draws cap qDef r 0 (command0 cap qMin qDef r))
def commandAt (h : Fin 2) : Nat := if h = 0 then command0 cap qMin qDef r else command1 cap qMin qDef r

theorem isVariable_iff (h : Fin 2) : isVariable r (fixedRequests cap qDef r) h = true ↔ Varies cap qDef r h := by
  unfold isVariable RequestHandler.conditioning
  rw [fixedRequests_outcome]
  simp only [Bool.and_eq_true, Bool.or_eq_true, beq_iff_eq, decide_eq_true_eq, bne_iff_ne, and_assoc]

theorem variableWant_eq : variableWant r (fixedRequests cap qDef r) = wantOf cap qDef r := by
  simp only [variableWant, sumHandlers, isVariable_iff]
  rfl

theorem scaleOf_eq : scaleOf (variableWant r (fixedRequests cap qDef r)) (cap - (fixedRequests cap qDef r).power) = scaleAt cap qDef r := by
  rw [variableWant_eq, fixedRequests_power]
  rfl

theorem scaledCommands_getElem (h : Fin 2) :
    (scaledCommands r (fixedRequests cap qDef r) (scaleAt cap qDef r))[h] = scaledAt cap qDef r h := by
  simp only [scaledCommands, isVariable_iff, fixedRequests_command]
  simp [scaledAt]

theorem runningTotal_eq (q : Vector Nat 2) : runningTotal r (fixedRequests cap qDef r) q =
    powerOffers cap qDef r + (draws cap qDef r 0 q[(0 : Fin 2)] + draws cap qDef r 1 q[(1 : Fin 2)]) := by
  simp only [runningTotal, sumHandlers, isVariable_iff, fixedRequests_power]
  rfl

theorem sweepOne_getElem (h : Fin 2) (q : Vector Nat 2) (k : Fin 2) : (sweepOne cap qMin r (fixedRequests cap qDef r) h q)[k] =
    if k = h then (if Varies cap qDef r h ∧ 0 < q[h] ∧ q[h] < qMin
      then (if runningTotal r (fixedRequests cap qDef r) (q.set h qMin) ≤ cap then qMin else 0) else q[h]) else q[k] := by
  unfold sweepOne
  simp only [isVariable_iff]
  by_cases hsweep : Varies cap qDef r h ∧ 0 < q[h] ∧ q[h] < qMin
  · simp only [if_pos hsweep]
    split
    · exact getElem_set_fin q h k qMin
    · exact getElem_set_fin q h k 0
  · simp only [if_neg hsweep]
    by_cases hkh : k = h
    · rw [if_pos hkh, hkh]
    · rw [if_neg hkh]

theorem sweep_eq {h g : Fin 2} (q : Vector Nat 2) (htotal : Varies cap qDef r h →
      runningTotal r (fixedRequests cap qDef r) (q.set h qMin) =
        powerOffers cap qDef r + (r.handlers[h]).rating * qMin + draws cap qDef r g q[g]) :
    (sweepOne cap qMin r (fixedRequests cap qDef r) h q)[h] = sweepAt cap qMin qDef r h q[h] (draws cap qDef r g q[g]) := by
  rw [sweepOne_getElem, if_pos rfl]
  unfold sweepAt
  by_cases hv : Varies cap qDef r h
  · rw [htotal hv]
  · rw [if_neg (fun hc => hv hc.1), if_neg (fun hc => hv hc.1)]

theorem grantedCommands_getElem (h : Fin 2) :
    (grantedCommands cap qMin r (fixedRequests cap qDef r) (scaleAt cap qDef r))[h] = commandAt cap qMin qDef r h := by
  set q := scaledCommands r (fixedRequests cap qDef r) (scaleAt cap qDef r)
  have hq (h : Fin 2) : q[h] = scaledAt cap qDef r h := scaledCommands_getElem cap qDef r h
  have hfirst : (sweepOne cap qMin r (fixedRequests cap qDef r) 0 q)[(0 : Fin 2)] = command0 cap qMin qDef r := by
    rw [sweep_eq cap qMin qDef r (g := 1) q, hq, hq]
    · rfl
    · intro hv
      rw [runningTotal_eq, getElem_set_fin, getElem_set_fin, if_pos rfl, if_neg (by decide), draws, if_pos hv]
      omega
  have hkept : (sweepOne cap qMin r (fixedRequests cap qDef r) 0 q)[(1 : Fin 2)] = scaledAt cap qDef r 1 := by
    rw [sweepOne_getElem, if_neg (by decide), hq]
  have hcases : h = 0 ∨ h = 1 := by omega
  rcases hcases with rfl | rfl
  · rw [grantedCommands, sweepOne_getElem, if_neg (by decide)]
    exact hfirst
  · rw [grantedCommands, sweep_eq cap qMin qDef r (g := 0), hfirst, hkept]
    · rfl
    · intro hv
      rw [runningTotal_eq, getElem_set_fin, getElem_set_fin, if_pos rfl, if_neg (by decide), draws.eq_1 (h := 1), if_pos hv]
      omega

end

/-! ### Steps 4 and 5: reheat and the limited directions (R52, R54) -/

section
variable (cap qMin qDef : Nat) (r : RequestSet)

def heatWant : Nat := ((List.finRange 12).map fun z => (r.zones[z]).rating * (r.zones[z]).request).sum

def powerLeft : Nat := cap - ((r.handlers[(0 : Fin 2)]).rating * command0 cap qMin qDef r
  + (r.handlers[(1 : Fin 2)]).rating * command1 cap qMin qDef r)

def scale2At : Nat := if heatWant r ≤ powerLeft cap qMin qDef r then 1000 else 1000 * powerLeft cap qMin qDef r / heatWant r

abbrev IsShort (h : Fin 2) : Prop := ((r.handlers[h]).mode = .heat ∨ (r.handlers[h]).mode = .cool) ∧
  outcomeOf cap qDef r h ≠ .admitted ∧ commandAt cap qMin qDef r h < (r.handlers[h]).qReq

theorem reheatWant_eq : reheatWant r = heatWant r := by
  rw [reheatWant, sumZones_eq_sum, Fin.sum_univ_def]
  rfl

variable (g : Nat)

theorem allot_fixed : (allot g qMin qDef r).fixed = fixedRequests (1000 * g) qDef r := rfl

theorem allot_scale : (allot g qMin qDef r).scale = scaleAt (1000 * g) qDef r := scaleOf_eq (1000 * g) qDef r

theorem allot_command (h : Fin 2) : (allot g qMin qDef r).command[h] = commandAt (1000 * g) qMin qDef r h := by
  rw [← grantedCommands_getElem, ← scaleOf_eq]
  rfl

theorem allot_scale2 : (allot g qMin qDef r).scale2 = scale2At (1000 * g) qMin qDef r := by
  have hscale2 : (allot g qMin qDef r).scale2 =
      scaleOf (reheatWant r) (1000 * g - compressorPower r (allot g qMin qDef r).command) := rfl
  have hpower : compressorPower r (allot g qMin qDef r).command = (r.handlers[(0 : Fin 2)]).rating * command0 (1000 * g) qMin qDef r
      + (r.handlers[(1 : Fin 2)]).rating * command1 (1000 * g) qMin qDef r := by
    rw [compressorPower, sumHandlers, allot_command, allot_command]
    rfl
  rw [hscale2, hpower, reheatWant_eq]
  rfl

theorem allot_duty (z : Fin 12) : (allot g qMin qDef r).duty[z] = (r.zones[z]).request * scale2At (1000 * g) qMin qDef r / 1000 := by
  have hduty : (allot g qMin qDef r).duty = grantedDuties r (allot g qMin qDef r).scale2 := rfl
  rw [hduty, allot_scale2]
  simp [grantedDuties]

theorem isShort_iff (h : Fin 2) : isShort r (allot g qMin qDef r).fixed (allot g qMin qDef r).command h = true ↔
    IsShort (1000 * g) qMin qDef r h := by
  unfold isShort RequestHandler.conditioning
  rw [allot_fixed, fixedRequests_outcome, allot_command]
  simp only [Bool.and_eq_true, Bool.or_eq_true, beq_iff_eq, decide_eq_true_eq, bne_iff_ne, and_assoc]

theorem allot_limited (z : Fin 12) : (allot g qMin qDef r).limited[z] =
    let y := r.demand.zones[z]
    if 0 < y.demand ∧ (((r.handlers[y.handler]).mode = .heat ∧ IsShort (1000 * g) qMin qDef r y.handler) ∨
        (r.zones[z]).request * scale2At (1000 * g) qMin qDef r / 1000 < (r.zones[z]).request) then .heating
      else if y.demand < 0 ∧ (r.handlers[y.handler]).mode = .cool ∧ IsShort (1000 * g) qMin qDef r y.handler then .cooling else .none := by
  have hlimited : (allot g qMin qDef r).limited[z] =
      limitedOf r (allot g qMin qDef r).fixed (allot g qMin qDef r).command (allot g qMin qDef r).duty z := by simp [allot]
  rw [hlimited, limitedOf]
  simp only [isShort_iff, allot_duty]
end

/-! ### At the limits (R59) -/

section
variable (cap qMin qDef : Nat) (r : RequestSet)

theorem powerAfter_not_asked {p : Nat} {asked : Bool} (h : Fin 2) (hno : asked = false) : powerAfter cap qDef r p asked h = p :=
  if_neg (by simp [hno])

theorem outcomeOf_eq_outcomeWith (h : Fin 2) : ∃ runs offers, outcomeOf cap qDef r h = outcomeWith cap qDef r h runs offers := by
  have hcases : h = 0 ∨ h = 1 := by omega
  rcases hcases with rfl | rfl
  · exact ⟨_, _, outcomeOf_zero cap qDef r⟩
  · exact ⟨_, _, outcomeOf_one cap qDef r⟩

theorem sweepAt_of_enough {h : Fin 2} {q other : Nat} (hq : q = 0 ∨ qMin ≤ q) : sweepAt cap qMin qDef r h q other = q :=
  if_neg (by omega)

section
variable (hplain : ∀ h : Fin 2, (r.handlers[h]).candidate = false ∧ (r.handlers[h]).runningDefrost = false ∧
  ((r.handlers[h]).mode = .heat ∨ (r.handlers[h]).mode = .cool ∨ (r.handlers[h]).qReq = 0) ∧
  ((r.handlers[h]).qReq = 0 ∨ qMin ≤ (r.handlers[h]).qReq))
include hplain

theorem outcomeOf_plain (h : Fin 2) : outcomeOf cap qDef r h = .none := by
  obtain ⟨hcand, hrun, -, -⟩ := hplain h
  obtain ⟨runs, offers, ho⟩ := outcomeOf_eq_outcomeWith cap qDef r h
  simp only [ho, outcomeWith, hcand, hrun, Bool.false_eq_true, if_false]

theorem powerOffers_plain : powerOffers cap qDef r = 0 := by
  obtain ⟨hcand0, hrun0, -, -⟩ := hplain 0
  obtain ⟨hcand1, hrun1, -, -⟩ := hplain 1
  rw [powerOffers, powerAfter_not_asked _ _ _ _ hcand1, powerOffers0, powerAfter_not_asked _ _ _ _ hcand0, powerRunning,
    powerAfter_not_asked _ _ _ _ hrun1, powerRunning0, powerAfter_not_asked _ _ _ _ hrun0]

theorem varies_plain_iff (h : Fin 2) : Varies cap qDef r h ↔ 0 < (r.handlers[h]).qReq := by
  obtain ⟨-, -, hmode, -⟩ := hplain h
  have hnone := outcomeOf_plain cap qMin qDef r hplain h
  refine ⟨fun hv => hv.2.1, fun hq => ⟨?_, hq, by simp [hnone]⟩⟩
  rcases hmode with hm | hm | hm
  · exact .inl hm
  · exact .inr hm
  · omega

theorem draws_plain (h : Fin 2) : draws cap qDef r h (r.handlers[h]).qReq = (r.handlers[h]).rating * (r.handlers[h]).qReq := by
  unfold draws
  split
  · rfl
  · next hv =>
    have hzero : (r.handlers[h]).qReq = 0 := by
      rw [varies_plain_iff cap qMin qDef r hplain] at hv
      omega
    rw [hzero, Nat.mul_zero]

variable (hfits : wantOf cap qDef r ≤ cap)
include hfits

theorem scaledAt_plain (h : Fin 2) : scaledAt cap qDef r h = (r.handlers[h]).qReq := by
  have hscale : scaleAt cap qDef r = 1000 := by
    rw [scaleAt, powerOffers_plain cap qMin qDef r hplain, Nat.sub_zero, if_pos hfits]
  unfold scaledAt
  split
  · rw [hscale]
    omega
  · next hv =>
    rw [varies_plain_iff cap qMin qDef r hplain] at hv
    rw [fixedCommand, outcomeOf_plain cap qMin qDef r hplain, if_neg (by simp)]
    omega

theorem commandAt_plain (h : Fin 2) : commandAt cap qMin qDef r h = (r.handlers[h]).qReq := by
  have hcases : h = 0 ∨ h = 1 := by omega
  obtain ⟨-, -, -, hmin⟩ := hplain h
  rcases hcases with rfl | rfl
  · rw [commandAt, if_pos rfl, command0, scaledAt_plain cap qMin qDef r hplain hfits 0, sweepAt_of_enough _ _ _ _ hmin]
  · rw [commandAt, if_neg (by decide), command1, scaledAt_plain cap qMin qDef r hplain hfits 1, sweepAt_of_enough _ _ _ _ hmin]
end

theorem wantOf_add_heatWant_plain (hplain : ∀ h : Fin 2, (r.handlers[h]).candidate = false ∧ (r.handlers[h]).runningDefrost = false ∧
      ((r.handlers[h]).mode = .heat ∨ (r.handlers[h]).mode = .cool ∨ (r.handlers[h]).qReq = 0) ∧
      ((r.handlers[h]).qReq = 0 ∨ qMin ≤ (r.handlers[h]).qReq)) :
    wantOf cap qDef r = ((List.finRange 2).map fun h => (r.handlers[h]).rating * (r.handlers[h]).qReq).sum := by
  rw [wantOf, draws_plain cap qMin qDef r hplain, draws_plain cap qMin qDef r hplain, ← Fin.sum_univ_def, Fin.sum_univ_two]

theorem scale2At_plain (hplain : ∀ h : Fin 2, (r.handlers[h]).candidate = false ∧ (r.handlers[h]).runningDefrost = false ∧
      ((r.handlers[h]).mode = .heat ∨ (r.handlers[h]).mode = .cool ∨ (r.handlers[h]).qReq = 0) ∧
      ((r.handlers[h]).qReq = 0 ∨ qMin ≤ (r.handlers[h]).qReq)) (hfits : wantOf cap qDef r + heatWant r ≤ cap) :
    scale2At cap qMin qDef r = 1000 := by
  have hwant : wantOf cap qDef r ≤ cap := by omega
  have h0 : command0 cap qMin qDef r = (r.handlers[(0 : Fin 2)]).qReq := commandAt_plain cap qMin qDef r hplain hwant 0
  have h1 : command1 cap qMin qDef r = (r.handlers[(1 : Fin 2)]).qReq := commandAt_plain cap qMin qDef r hplain hwant 1
  rw [wantOf, draws_plain cap qMin qDef r hplain, draws_plain cap qMin qDef r hplain] at hfits
  refine if_pos ?_
  rw [powerLeft, h0, h1]
  omega

/-- A handler that runs a defrost without being variable has its fixed command. -/
theorem commandAt_of_not_varies {h : Fin 2} (hv : ¬ Varies cap qDef r h) : commandAt cap qMin qDef r h = fixedCommand cap qDef r h := by
  have hcases : h = 0 ∨ h = 1 := by omega
  rcases hcases with rfl | rfl
  · rw [commandAt, if_pos rfl, command0, sweepAt, if_neg (fun hc => hv hc.1), scaledAt, if_neg hv]
  · rw [commandAt, if_neg (by decide), command1, sweepAt, if_neg (fun hc => hv hc.1), scaledAt, if_neg hv]

theorem outcomeOf_running {h : Fin 2} (hrun : (r.handlers[h]).runningDefrost = true) (hcand : (r.handlers[h]).candidate = false) :
    outcomeOf cap qDef r h = .kept ∨ outcomeOf cap qDef r h = .aborted := by
  obtain ⟨runs, offers, ho⟩ := outcomeOf_eq_outcomeWith cap qDef r h
  simp only [ho, outcomeWith, hcand, hrun, Bool.false_eq_true, if_false, if_true]
  split
  · exact .inl rfl
  · exact .inr rfl

section
variable (hqDef : 0 < qDef) (hrating : ∀ h : Fin 2, 0 < (r.handlers[h]).rating)
include hqDef hrating

theorem fixedNeed_pos (h : Fin 2) : 0 < fixedNeed qDef r h := Nat.mul_pos (hrating h) hqDef

theorem fixedCommand_no_power (h : Fin 2) : fixedCommand 0 qDef r h = 0 := by
  have hneed := fixedNeed_pos qDef r hqDef hrating h
  obtain ⟨runs, offers, ho⟩ := outcomeOf_eq_outcomeWith 0 qDef r h
  refine if_neg ?_
  rw [ho, outcomeWith, if_neg (by omega : ¬ offers + fixedNeed qDef r h ≤ 0), if_neg (by omega : ¬ runs + fixedNeed qDef r h ≤ 0)]
  repeat' split
  all_goals simp

theorem scaledAt_no_power (h : Fin 2) : scaledAt 0 qDef r h = 0 := by
  unfold scaledAt
  split
  · next hv =>
    have hdraws : 0 < draws 0 qDef r h (r.handlers[h]).qReq := by
      rw [draws, if_pos hv]
      exact Nat.mul_pos (hrating h) hv.2.1
    have hcases : h = 0 ∨ h = 1 := by omega
    have hwant : 0 < wantOf 0 qDef r := by
      unfold wantOf
      rcases hcases with rfl | rfl <;> omega
    rw [scaleAt, if_neg (by omega)]
    simp
  · exact fixedCommand_no_power qDef r hqDef hrating h

theorem commandAt_no_power (h : Fin 2) : commandAt 0 qMin qDef r h = 0 := by
  have hcases : h = 0 ∨ h = 1 := by omega
  rcases hcases with rfl | rfl
  · rw [commandAt, if_pos rfl, command0, scaledAt_no_power qDef r hqDef hrating 0, sweepAt_of_enough _ _ _ _ (.inl rfl)]
  · rw [commandAt, if_neg (by decide), command1, scaledAt_no_power qDef r hqDef hrating 1, sweepAt_of_enough _ _ _ _ (.inl rfl)]

omit hqDef hrating in
theorem duty_no_power (hzones : ∀ z : Fin 12, 0 < (r.zones[z]).rating) (z : Fin 12) :
    (r.zones[z]).request * scale2At 0 qMin qDef r / 1000 = 0 := by
  have hleft : powerLeft 0 qMin qDef r = 0 := Nat.zero_sub _
  unfold scale2At
  rw [hleft]
  split
  · next hheat =>
    have hterm : (r.zones[z]).rating * (r.zones[z]).request ≤ heatWant r :=
      List.single_le_sum (fun _ _ => Nat.zero_le _) _ (List.mem_map_of_mem (List.mem_finRange z))
    have hzero : (r.zones[z]).rating * (r.zones[z]).request = 0 := by omega
    rcases Nat.mul_eq_zero.mp hzero with h0 | h0
    · have := hzones z
      omega
    · rw [h0, Nat.zero_mul, Nat.zero_div]
  · simp
end
end

section
variable (g qMin qDef : Nat) (r : RequestSet)

theorem allotment_handler (h : Fin 2) : ((allot g qMin qDef r).allotment r).handlers[h] =
    ⟨outcomeOf (1000 * g) qDef r h, commandAt (1000 * g) qMin qDef r h⟩ := by
  rw [Made.allotment_handler, allot_command, allot_fixed, fixedRequests_outcome]

/-- The direction in which a zone fell short of what it asked for. -/
def limitedAt (cap : Nat) (z : Fin 12) : Limited :=
  let y := r.demand.zones[z]
  if 0 < y.demand ∧ (((r.handlers[y.handler]).mode = .heat ∧ IsShort cap qMin qDef r y.handler) ∨
      (r.zones[z]).request * scale2At cap qMin qDef r / 1000 < (r.zones[z]).request) then .heating
  else if y.demand < 0 ∧ (r.handlers[y.handler]).mode = .cool ∧ IsShort cap qMin qDef r y.handler then .cooling else .none

theorem allotment_zone (z : Fin 12) : ((allot g qMin qDef r).allotment r).zones[z] =
    ⟨(r.zones[z]).request * scale2At (1000 * g) qMin qDef r / 1000, limitedAt qMin qDef r (1000 * g) z⟩ := by
  rw [Made.allotment_zone, allot_duty, allot_limited]
  rfl
end

/-- Settles O27. -/
theorem allotmentAtItsLimits : Obligations.AllotmentAtItsLimits := by
  intro g qMin qDef r
  have hhandler := allotment_handler g qMin qDef r
  have hzone := allotment_zone g qMin qDef r
  refine ⟨fixedRequests_power (1000 * g) qDef r, allot_scale qMin qDef r g, allot_scale2 qMin qDef r g, hhandler, hzone,
    fun hplain hfits => ?_, fun h hrun hcand hmode => ?_, fun hg hqDef hrating hzones => ?_⟩
  · have hfits' : wantOf (1000 * g) qDef r + heatWant r ≤ 1000 * g :=
      (congrArg (· + heatWant r) (wantOf_add_heatWant_plain (1000 * g) qMin qDef r hplain)).trans_le hfits
    refine ⟨fun h => ?_, fun z => ?_⟩
    · rw [hhandler, outcomeOf_plain _ qMin _ _ hplain, commandAt_plain _ _ _ _ hplain (by omega)]
      exact ⟨rfl, rfl⟩
    · rw [hzone, scale2At_plain _ _ _ _ hplain hfits']
      exact Nat.mul_div_cancel _ (by decide)
  · have hv : ¬ Varies (1000 * g) qDef r h := fun hv => by
      rcases hv.1 with hm | hm
      · exact hmode.1 hm
      · exact hmode.2 hm
    rw [hhandler, commandAt_of_not_varies _ _ _ _ hv, fixedCommand]
    rcases outcomeOf_running (1000 * g) qDef r hrun hcand with ho | ho <;> simp [ho]
  · subst hg
    refine ⟨fun h => ?_, fun z => ?_⟩
    · rw [hhandler]
      exact commandAt_no_power qMin qDef r hqDef hrating h
    · rw [hzone]
      exact duty_no_power qMin qDef r hzones z

end Sys2Proof.Machine

/-! ## The output channels (06) -/

namespace Sys2Proof.Machine

variable {s : State}

/-! ### Going through numbered records in order -/

/-- A pass over numbered records, each step of which rewrites its own record and no other: every record named is rewritten once. -/
theorem foldl_pointwise {ι α : Type} [DecidableEq ι] (get : State → ι → α) (f : ι → State → State) (g : ι → α → α) (Inv : State → Prop)
    (hinv : ∀ i u, Inv u → Inv (f i u)) (hget : ∀ i u k, Inv u → get (f i u) k = if k = i then g i (get u i) else get u k)
    {is : List ι} (his : is.Nodup) {u : State} (hu : Inv u) (k : ι) :
    get (is.foldl (fun s i => f i s) u) k = if k ∈ is then g k (get u k) else get u k := by
  induction is generalizing u with
  | nil => simp
  | cons i is ih =>
    obtain ⟨hi, his⟩ := List.nodup_cons.mp his
    rw [List.foldl_cons, ih his (hinv i u hu), hget i u k hu]
    by_cases hki : k = i
    · subst hki
      simp [hi]
    · simp [hki]

theorem forChannels_channel (f : Fin 16 → State → State) (g : Fin 16 → Channel → Channel) (Inv : State → Prop)
    (hinv : ∀ c u, Inv u → Inv (f c u))
    (hchannel : ∀ c u k, Inv u → (f c u).channel k = if k = c then g c (u.channel c) else u.channel k) {u : State} (hu : Inv u)
    (k : Fin 16) : (forChannels f u).channel k = g k (u.channel k) := by
  rw [forChannels, foldl_pointwise State.channel f g Inv hinv hchannel (List.nodup_finRange 16) hu, if_pos (List.mem_finRange k)]

theorem putChannel_channel (c k : Fin 16) (x : Channel) : (s.putChannel c x).channel k = if k = c then x else s.channel k := by
  by_cases hkc : k = c
  · subst hkc
    simp
  · rw [if_neg hkc, State.putChannel_channel_other (s := s) (Ne.symm hkc)]

/-! ### OU_VALUE_RECEIVED (R106) -/

/-- A channel once a value for a role has gone out (R106). -/
def Channel.given (r : Role) (v : Nat) (x : Channel) : Channel :=
  if x.role = r ∧ x.bound then ({ x with received := v }).recompute else x

theorem takeValue_channel (r : Role) (v : Nat) (c k : Fin 16) :
    (takeValue r v c s).channel k = if k = c then (s.channel c).given r v else s.channel k := by
  unfold takeValue Channel.given
  dsimp only
  split
  · exact putChannel_channel c k _
  · by_cases hkc : k = c
    · rw [if_pos hkc, hkc]
    · rw [if_neg hkc]

theorem forChannels_takeValue_channel (r : Role) (v : Nat) (k : Fin 16) :
    (forChannels (takeValue r v) s).channel k = (s.channel k).given r v :=
  forChannels_channel (takeValue r v) (fun _ => Channel.given r v) (fun _ => True) (fun _ _ _ => trivial)
    (fun c _ k _ => takeValue_channel r v c k) trivial k

section
variable {r : Role} {v : Nat} {rest : List (Role × Nat)} (hb : s.bus.ouValues = (r, v) :: rest)
include hb

theorem exec_ouValueReceived_run (hs : s.sc.opState = .run) :
    exec .ouValueReceived s = .next (forChannels (takeValue r v) (s.setBus { s.bus with ouValues := rest })) := by
  show execOuValueReceived s = _
  simp only [execOuValueReceived, hb, if_pos hs]

theorem exec_ouValueReceived_outside (hs : s.sc.opState ≠ .run) :
    exec .ouValueReceived s = .next (s.setBus { s.bus with ouValues := rest }) := by
  show execOuValueReceived s = _
  simp only [execOuValueReceived, hb, if_neg hs]
end

theorem foldl_takeValue_eq (r : Role) (v : Nat) (cs : List (Fin 16)) (u : State) : cs.foldl (fun s c => takeValue r v c s) u =
    { u with ou := { u.ou with channels := (cs.foldl (fun s c => takeValue r v c s) u).ou.channels } } := by
  induction cs generalizing u with
  | nil => rfl
  | cons c cs ih =>
    have hstep : takeValue r v c u = { u with ou := { u.ou with channels := (takeValue r v c u).ou.channels } } := by
      unfold takeValue
      dsimp only
      split <;> rfl
    have hrest := ih (takeValue r v c u)
    rw [List.foldl_cons]
    generalize takeValue r v c u = w at hstep hrest
    rw [hstep] at hrest ⊢
    exact hrest

/-- Settles O38. -/
theorem valuesReachTheirChannels : Obligations.ValuesReachTheirChannels := by
  intro s r v rest hb
  refine ⟨exec_ouValueReceived_outside hb, fun hs => ⟨_, exec_ouValueReceived_run hb hs, foldl_takeValue_eq r v _ _,
    fun c => ⟨fun hno => ?_, fun hrole hbound e he => ?_⟩⟩⟩
  · rw [forChannels_takeValue_channel]
    exact if_neg hno
  · rw [forChannels_takeValue_channel]
    have heffective : effectiveOf (s.channel c).role v (s.channel c).override = e := by
      rw [he]
      cases (s.channel c).role <;> cases (s.channel c).override <;> rfl
    refine (if_pos ⟨hrole, hbound⟩).trans ?_
    rw [← heffective]
    rfl

/-! ### OVERRIDE (R108 to R110) -/

theorem toNat_channelByte (c : Fin 16) : (BitVec.ofNat 8 c.val : Byte).toNat = c.val := by
  rw [BitVec.toNat_ofNat, Nat.mod_eq_of_lt]
  omega

section
variable (c : Fin 16) (act : Byte) (v : Word16) (u : State)

theorem overrideOwner_channel : overrideOwner (BitVec.ofNat 8 c) act v u =
    if 1 < act.toNat ∨ (act = 0 ∧ 1000 < v.toNat) then (u, [7])
    else if (u.channel c).role = .none then (u, [7])
    else if u.sc.opState = .standby then (u, [4] ++ u.overrideBytes c)
    else
      let t := u.putChannel c ({ u.channel c with override := if act = 0 then some v.toNat else none }).recompute
      (t, [0] ++ t.overrideBytes c) := by
  have hc : (⟨(BitVec.ofNat 8 c.val : Byte).toNat, by rw [toNat_channelByte]; exact c.isLt⟩ : Fin 16) = c := Fin.ext (toNat_channelByte c)
  rw [overrideOwner, dif_pos (by rw [toNat_channelByte]; exact c.isLt)]
  simp only [hc]
  rfl

section
variable {act v}

theorem overrideOwner_refused (h : (u.channel c).role = .none ∨ (act = 0 ∧ 1000 < v.toNat)) :
    overrideOwner (BitVec.ofNat 8 c) act v u = (u, [7]) := by
  rw [overrideOwner_channel]
  rcases h with hrole | hv
  · rw [if_pos hrole, ite_self]
  · rw [if_pos (.inr hv)]

variable (hrole : (u.channel c).role ≠ .none) (hact : ¬ 1 < act.toNat) (hv : ¬ (act = 0 ∧ 1000 < v.toNat))
include hrole hact hv

theorem overrideOwner_standby (hop : u.sc.opState = .standby) :
    overrideOwner (BitVec.ofNat 8 c) act v u = (u, [4] ++ u.overrideBytes c) := by
  rw [overrideOwner_channel, if_neg (by tauto), if_neg hrole, if_pos hop]

theorem overrideOwner_run (hop : u.sc.opState = .run) {y : Channel}
    (hy : ({ u.channel c with override := if act = 0 then some v.toNat else none } : Channel).recompute = y) :
    overrideOwner (BitVec.ofNat 8 c) act v u = (u.putChannel c y, [0] ++ (u.putChannel c y).overrideBytes c) := by
  rw [overrideOwner_channel, if_neg (by tauto), if_neg hrole, if_neg (by simp [hop]), hy]
end

theorem overrideOwner_badArg {ch : Byte} (h : 16 ≤ ch.toNat ∨ 2 ≤ act.toNat) : overrideOwner ch act v u = (u, [7]) := by
  unfold overrideOwner
  split
  · dsimp only
    rw [if_pos (by omega)]
    rfl
  · rfl

/-- What OVERRIDE answers of a channel's record (R110). -/
def Channel.overrideFields (c : Fin 16) (y : Channel) : List Byte :=
  [BitVec.ofNat 8 c] ++ num8 y.role.code ++ orAbsent16 (y.override.map Int.ofNat) ++ num16 y.received
    ++ num16 y.effective ++ num16 y.pendingCompare ++ num16 y.compare

theorem overrideBytes_eq : u.overrideBytes c = (u.channel c).overrideFields c := rfl
end

/-- Settles O37. -/
theorem overrideSetsTheEffectiveValue : Obligations.OverrideSetsTheEffectiveValue := by
  intro s hs
  refine ⟨fun ch act v h => ?_, fun c set v => ?_⟩
  · exact request_only_answered hs 0x38 ([ch, act] ++ wordBytes v) (overrideOwner_badArg act v _ h)
  · intro x ch act payload fields
    have hact : ¬ 1 < act.toNat := by cases set <;> decide
    have hset : act = 0 ↔ set = true := by cases set <;> decide
    refine ⟨fun h => ?_, fun hrole hv hop => ?_, fun hrole hv hop e y he hy => ?_⟩
    · rw [← hset] at h
      exact request_only_answered hs 0x38 payload (overrideOwner_refused c _ h)
    · rw [← hset] at hv
      exact request_only_answered hs 0x38 payload (overrideOwner_standby c (s.withInHand 0x38 payload) hrole hact hv hop)
    · have hy' : ({ x with override := if act = 0 then some v.toNat else none } : Channel).recompute = y := by
        rw [hy, he]
        cases set <;> cases hr : x.role <;> simp_all [Channel.recompute, effectiveOf, compareOf]
      rw [← hset] at hv
      have howner := overrideOwner_run c (s.withInHand 0x38 payload) hrole hact hv hop hy'
      rw [overrideBytes_eq, State.putChannel_channel_same] at howner
      exact request_answered hs 0x38 payload howner rfl hs.awake

/-! ### PERIOD_END and COMPARE_REACHED (R103 to R105) -/

/-- Settles O39. -/
theorem periodsEndAndCompare : Obligations.PeriodsEndAndCompare := by
  intro s c x put
  refine ⟨fun hl => ?_, fun hl m v hm hv => ?_, fun hl hcounter hcompare => ⟨_, ?_, ?_, ?_, rfl⟩, fun hpast => ?_, fun hl => ?_, fun hl => ?_⟩
  · show execPeriodEnd c s = _
    rw [execPeriodEnd, if_neg hl]
  · show execPeriodEnd c s = _
    rw [execPeriodEnd, if_pos hl, hv, hm]
    rfl
  · show execCompareReached c s = _
    simp only [execCompareReached]
    rw [if_pos ⟨hl, hcounter, hcompare⟩]
    rfl
  · exact decide_eq_true hcounter
  · exact decide_eq_false (lt_irrefl _)
  · show execCompareReached c s = _
    simp only [execCompareReached]
    rw [if_neg (fun h => absurd h.2.1 (Nat.not_lt.mpr hpast))]
  · have hfalse : (s.pl.loadState == .loaded) = false := beq_eq_false_iff_ne.mpr hl
    rw [State.pinLevel, hfalse, Bool.false_and]
  · have htrue : (s.pl.loadState == .loaded) = true := beq_iff_eq.mpr hl
    rw [State.pinLevel, htrue, Bool.true_and]
    cases hp : (s.channel c).polarity
    · simp only [x, hp]
      rfl
    · simp only [x, hp, Channel.active, ← decide_not, Nat.not_lt]

end Sys2Proof.Machine

/-! ## Sensing (05) -/

namespace Sys2Proof.Machine

variable {s : State}

/-! ### Banks and points as numbered records -/

theorem putBank_bank (b k : Fin 3) (x : Bank) : (s.putBank b x).bank k = if k = b then x else s.bank k := by
  by_cases hk : k = b
  · subst hk
    simp
  · rw [if_neg hk, State.putBank_bank_other (s := s) (Ne.symm hk)]

theorem putPoint_point (p k : Fin 32) (x : Point) : (s.putPoint p x).point k = if k = p then x else s.point k := by
  by_cases hk : k = p
  · subst hk
    simp
  · rw [if_neg hk, State.putPoint_point_other (s := s) (Ne.symm hk)]

theorem forBanks_bank (f : Fin 3 → State → State) (g : Fin 3 → Bank → Bank)
    (hbank : ∀ b u k, (f b u).bank k = if k = b then g b (u.bank b) else u.bank k) (u : State) (k : Fin 3) :
    (forBanks f u).bank k = g k (u.bank k) := by
  rw [forBanks, foldl_pointwise State.bank f g (fun _ => True) (fun _ _ _ => trivial) (fun b u k _ => hbank b u k)
    (List.nodup_finRange 3) trivial, if_pos (List.mem_finRange k)]

theorem trimUnderWay_iff : s.trimUnderWay = true ↔ ∃ b, (s.bank b).trim ≠ .idle := by
  simp [State.trimUnderWay]

theorem trimUnderWay_eq_false_iff : s.trimUnderWay = false ↔ ∀ b, (s.bank b).trim = .idle := by
  simp [State.trimUnderWay]

/-- Every bank is rewritten at once. -/
theorem mapBanks_bank (f : Bank → Bank) (b : Fin 3) :
    (s.setSu { s.su with banks := s.su.banks.map f }).bank b = f (s.bank b) := by
  simp [State.bank, State.setSu]

/-! ### TRIM (R90) and TRIM_INTERVAL_EXPIRY (R89) -/

/-- The banks that TRIM names are queued for a full trim. -/
def queueNamedBanks (v : Byte) (s : State) : State :=
  forBanks (fun b s => if v = 3 ∨ v.toNat = b then s.putBank b { s.bank b with trim := .fullQueued } else s) s

theorem queueNamedBanks_eq (v : Byte) (u : State) :
    queueNamedBanks v u = { u with su := { u.su with banks := (queueNamedBanks v u).su.banks } } := by
  have hfold (bs : List (Fin 3)) (u : State) (f : Fin 3 → State → State)
      (hf : ∀ b u, f b u = { u with su := { u.su with banks := (f b u).su.banks } }) :
      bs.foldl (fun s b => f b s) u =
        { u with su := { u.su with banks := (bs.foldl (fun s b => f b s) u).su.banks } } := by
    induction bs generalizing u with
    | nil => rfl
    | cons b bs ih =>
      have hrest := ih (f b u)
      have hstep := hf b u
      rw [List.foldl_cons]
      generalize f b u = w at hstep hrest
      rw [hstep] at hrest ⊢
      exact hrest
  refine hfold _ u _ fun b u => ?_
  dsimp only
  split <;> rfl

theorem queueNamedBanks_bank (v : Byte) (hv : v.toNat ≤ 3) (u : State) (hidle : ∀ b, (u.bank b).trim = .idle) (b : Fin 3) :
    (queueNamedBanks v u).bank b = { u.bank b with trim := if v.toNat = 3 ∨ v.toNat = b then .fullQueued else .idle } := by
  have hthree : v = 3 ↔ v.toNat = 3 := by
    rw [← BitVec.toNat_inj]
    rfl
  rw [queueNamedBanks, forBanks_bank _ (fun b x => if v = 3 ∨ v.toNat = b then { x with trim := .fullQueued } else x)]
  · simp only [hthree]
    by_cases h : v.toNat = 3 ∨ v.toNat = b
    · rw [if_pos h, if_pos h]
    · rw [if_neg h, if_neg h, ← hidle b]
  · intro b u k
    dsimp only
    split
    · exact putBank_bank b k _
    · by_cases hk : k = b
      · rw [if_pos hk, hk]
      · rw [if_neg hk]

theorem trimOwner_idle (v : Byte) (hv : v.toNat ≤ 3) (u : State) (hidle : ∀ b, (u.bank b).trim = .idle) : trimOwner v u =
    (queueNamedBanks v u, [0] ++ num8 ((queueNamedBanks v u).bank 0).trim.code ++ num8 ((queueNamedBanks v u).bank 1).trim.code
      ++ num8 ((queueNamedBanks v u).bank 2).trim.code) := by
  rw [trimOwner, if_neg (by omega), if_neg (by rw [trimUnderWay_eq_false_iff.mpr hidle]; exact Bool.false_ne_true)]
  rfl

theorem exec_trimIntervalExpiry (h : s.su.trimTimer.isSome) : exec .trimIntervalExpiry s = .next { s with su := { s.su with
    trimTimer := some (100000 * s.wm.trimInterval)
    banks := s.su.banks.map fun b => if b.trim = .idle ∧ !b.failed then { b with trim := .shortQueued } else b } } := by
  show execTrimIntervalExpiry s = _
  rw [execTrimIntervalExpiry, if_pos h, sec, Nat.mul_comm]
  rfl

theorem staleLimit_succ (w : WorkingMemory) (p : Fin 32) : w.staleLimit p + 1 = match w.pointSource p with
    | .tap _ => 51
    | .slot _ _ => 151 := by
  unfold WorkingMemory.staleLimit
  cases w.pointSource p <;> rfl

/-- Settles O31. -/
theorem sensingMomentsAndTrimRequests : Obligations.SensingMomentsAndTrimRequests := by
  intro s
  refine ⟨fun v hs hv => ?_, fun v hs hv hbusy => ?_, fun v hs hv hidle => ?_, fun h => ?_, fun h => ?_, fun h => ?_, fun h => ?_,
    fun p hp => ?_, fun p hp => ?_⟩
  · exact request_only_answered hs 0x30 [v] (by rw [trimOwner, if_pos (by omega)]; rfl)
  · exact request_only_answered hs 0x30 [v]
      (by rw [trimOwner, if_neg (by omega), if_pos ((trimUnderWay_iff (s := s.withInHand 0x30 [v])).mpr hbusy)]; rfl)
  · have hframe := queueNamedBanks_eq v (s.withInHand 0x30 [v])
    have hbank := queueNamedBanks_bank v hv (s.withInHand 0x30 [v]) hidle
    have howner := trimOwner_idle v hv (s.withInHand 0x30 [v]) hidle
    generalize queueNamedBanks v (s.withInHand 0x30 [v]) = t at hframe hbank howner
    refine ⟨_, request_answered hs 0x30 [v] howner (by rw [hframe]) (by rw [hframe]; exact hs.awake), ?_, hbank⟩
    rw [hframe]
    rfl
  · show execTrimIntervalExpiry s = _
    simp [execTrimIntervalExpiry, h]
  · refine ⟨_, exec_trimIntervalExpiry h, rfl, fun b => ?_⟩
    refine (mapBanks_bank (s := s) (fun b => if b.trim = .idle ∧ !b.failed then { b with trim := .shortQueued } else b) b).trans ?_
    simp only [Bool.not_eq_true']
    by_cases hb : (s.bank b).trim = .idle ∧ (s.bank b).failed = false
    · rw [if_pos hb, if_pos hb]
    · rw [if_neg hb, if_neg hb]
  · show execScanGapExpiry s = _
    simp [execScanGapExpiry, h]
  · show execScanGapExpiry s = _
    simp only [execScanGapExpiry, if_pos h]
    rfl
  · show execPointStale p s = _
    simp [execPointStale, hp]
  · show execPointStale p s = _
    simp only [execPointStale, if_pos hp, staleLimit_succ]
    cases s.wm.pointSource p <;> rfl
end Sys2Proof.Machine

/-! ## Into RUN and out of it: what the blocks keep (08) -/

namespace Sys2Proof.Machine

variable {s t u : State}

/-- Two states with equal blocks are equal. -/
theorem State.eq_of_blocks (zr : s.zr = t.zr) (hs : s.hs = t.hs) (pa : s.pa = t.pa) (rs : s.rs = t.rs) (su : s.su = t.su)
    (ou : s.ou = t.ou) (ml : s.ml = t.ml) (sc : s.sc = t.sc) (lu : s.lu = t.lu) (pl : s.pl = t.pl) (bus : s.bus = t.bus)
    (pins : s.pins = t.pins) (eeprom : s.eeprom = t.eeprom) (tenth : s.tenth = t.tenth) (free : s.free = t.free)
    (pending : s.pending = t.pending) : s = t := by
  cases s
  cases t
  simp only at zr hs pa rs su ou ml sc lu pl bus pins eeprom tenth free pending
  subst zr hs pa rs su ou ml sc lu pl bus pins eeprom tenth free pending
  rfl

theorem kick_settled (h : s.lu.Settled) : kick s = s := by
  unfold kick
  split
  · rfl
  · rw [show s.lu.takeNext = s.lu from h]
    rfl

/-! ### Served requests whose owner reports events (R149, R152) -/

theorem request_inHand (h : s.Served) (k : Byte) (p : List Byte) {owner : State → State × List Byte} {content : List Byte}
    (howner : owner (s.withInHand k p) = (t, content)) (hin : t.lu.inHand = some ⟨k, p⟩) (hop : t.sc.opState ≠ .parked) :
    request k p (dispatch k false owner) s = .next (t.setLu (t.lu.replied k p content)) := by
  have hstate : (owner (s.withInHand k p)).1 = t := congrArg Prod.fst howner
  have hcontent : (owner (s.withInHand k p)).2 = content := congrArg Prod.snd howner
  rw [request_served h k p false owner, hstate, hcontent, kick_answerDue hop k p content hin]

theorem request_latched (h : s.Served) (k : Byte) (p : List Byte) {owner : State → State × List Byte} {content : List Byte}
    (howner : owner (s.withInHand k p) = (t, content)) (hlu : (s.withInHand k p).lu.Latches t.lu) (hop : t.sc.opState ≠ .parked) :
    request k p (dispatch k false owner) s = .next (t.setLu (t.lu.replied k p content)) := by
  obtain ⟨-, -, -, hin, -⟩ := hlu.frame
  exact request_inHand h k p howner hin hop

theorem LU.replied_transmitter (l : LU) (k : Byte) (p content : List Byte) (hl : content.length ≤ 127) (h : l.transmitter = .idle) :
    (l.replied k p content).transmitter = .sending .answer ⟨k + 0x80, content⟩ [] := by
  have hframes : answerFrames k content = (⟨k + 0x80, content⟩, []) := by
    unfold answerFrames
    cases hc : content.length with
    | zero => rfl
    | succ n => rw [cutContent, if_pos hl]
  simp only [LU.replied, h, hframes]

/-! ### The handlers told of their drives (R24) -/

/-- The Handler Sequencer after it has been told of drives: a handler's command and drive may change, and its settings may be read
again. -/
structure HandlersTold (s t : State) : Prop where
  hs_eq : t.hs = { s.hs with handlers := t.hs.handlers, air := t.hs.air }
  air_eq : t.hs.air = s.hs.air ∨ t.hs.air = s.wm.airSettings
  handler_eq : ∀ h, t.handler h = { s.handler h with
    q := (t.handler h).q, comp := (t.handler h).comp, rest := (t.handler h).rest
    driveSlot := (t.handler h).driveSlot, driveAvailable := (t.handler h).driveAvailable }
  stopped_eq : ∀ h, (s.handler h).comp = .stopped → (t.handler h).comp = .stopped ∧ (t.handler h).rest = (s.handler h).rest
  zero_eq : ∀ h, (s.handler h).q = 0 → (t.handler h).q = 0

theorem HandlersTold.of_hs_eq (h : t.hs = s.hs) : HandlersTold s t := by
  have hhandler (i : Fin 2) : t.handler i = s.handler i := by rw [State.handler, State.handler, h]
  exact ⟨by rw [h], .inl (by rw [h]), fun i => by rw [hhandler], fun i hi => by rw [hhandler]; exact ⟨hi, rfl⟩,
    fun i hi => by rw [hhandler]; exact hi⟩

theorem HandlersTold.trans (hst : HandlersTold s t) (hwm : t.wm = s.wm) (htu : HandlersTold t u) : HandlersTold s u where
  hs_eq := by
    rw [htu.hs_eq, hst.hs_eq]
  air_eq := by
    rcases htu.air_eq with h | h
    · rw [h]
      exact hst.air_eq
    · rw [h, hwm]
      exact .inr rfl
  handler_eq i := by
    rw [htu.handler_eq i, hst.handler_eq i]
  stopped_eq i hi := by
    obtain ⟨hcomp, hrest⟩ := hst.stopped_eq i hi
    rw [← hrest]
    exact htu.stopped_eq i hcomp
  zero_eq i hi := htu.zero_eq i (hst.zero_eq i hi)

theorem HandlersTold.mode_eq (hst : HandlersTold s t) (h : Fin 2) : (t.handler h).mode = (s.handler h).mode := by rw [hst.handler_eq h]

theorem Handler.told_eq (n : Nat) (i : Option (Fin 8)) (b : Bool) (x : Handler) : x.told n i b = { x with
    q := (x.told n i b).q, comp := (x.told n i b).comp, rest := (x.told n i b).rest, driveSlot := i, driveAvailable := b } := by
  unfold Handler.told
  split
  · rw [Handler.stop_eq]
  · rfl

theorem Handler.told_stopped (n : Nat) (i : Option (Fin 8)) (b : Bool) {x : Handler} (h : x.comp = .stopped) :
    (x.told n i b).comp = .stopped ∧ (x.told n i b).rest = x.rest := by
  unfold Handler.told
  split
  · simp [h]
  · exact ⟨h, rfl⟩

theorem Handler.told_zero (n : Nat) (i : Option (Fin 8)) (b : Bool) {x : Handler} (h : x.q = 0) : (x.told n i b).q = 0 := by
  unfold Handler.told
  split
  · simp
  · exact h

theorem tellDrive_told (h : Fin 2) : HandlersTold s (tellDrive h s) where
  hs_eq := by
    simp only [tellDrive, timerStart_hs]
    rfl
  air_eq := by
    simp only [tellDrive, timerStart_hs]
    split
    · exact .inr rfl
    · exact .inl rfl
  handler_eq g := by
    by_cases hg : h = g
    · rw [← hg, tellDrive_handler]
      exact (Handler.told_eq _ _ _ _).trans (by rw [Handler.told_eq])
    · rw [tellDrive_other _ hg]
  stopped_eq g hstopped := by
    by_cases hg : h = g
    · subst hg
      rw [tellDrive_handler]
      exact Handler.told_stopped _ _ _ hstopped
    · rw [tellDrive_other _ hg]
      exact ⟨hstopped, rfl⟩
  zero_eq g hzero := by
    by_cases hg : h = g
    · subst hg
      rw [tellDrive_handler]
      exact Handler.told_zero _ _ _ hzero
    · rw [tellDrive_other _ hg]
      exact hzero

theorem tellDrives_told : HandlersTold s (tellDrives s) :=
  (tellDrive_told 0).trans (by simp [State.wm]) (tellDrive_told 1)

theorem openLine_told : HandlersTold s (openLine s) := by
  have hopen : HandlersTold s (forSlots openSlot (s.setMl { s.ml with line := .on, closingLeft := [] })) :=
    .of_hs_eq (by simp)
  exact (hopen.trans (by simp [State.wm]) tellDrives_told).trans (by simp [State.wm])
    (.of_hs_eq (arbitrate_frame _).2.1)

theorem endClosing_told : HandlersTold s (endClosing s) := by
  unfold endClosing
  split
  · exact openLine_told
  · exact .of_hs_eq rfl

theorem nextClosingStop_told (hs : List (Fin 2)) : HandlersTold s (nextClosingStop hs s) := by
  induction hs with
  | nil => exact endClosing_told
  | cons h rest ih =>
    unfold nextClosingStop
    split
    · split
      · exact .of_hs_eq rfl
      · exact ih
    · exact ih

theorem nextTraffic_told : HandlersTold s (nextTraffic s) := by
  unfold nextTraffic
  split
  · exact .of_hs_eq (by simp)
  · split
    · exact .of_hs_eq rfl
    · exact nextClosingStop_told _
  · exact .of_hs_eq rfl

theorem closeLine_told : HandlersTold s (closeLine s) := by
  unfold closeLine
  dsimp only
  split
  all_goals
    refine ((HandlersTold.of_hs_eq ?_).trans ?_ tellDrives_told).trans ?_ nextTraffic_told
    all_goals simp [State.wm]

theorem linesLeaveRun_told : HandlersTold s (linesLeaveRun s) := by
  unfold linesLeaveRun
  split
  · exact closeLine_told
  · exact .of_hs_eq rfl

theorem linesEnterRun_told : HandlersTold s (linesEnterRun s) := by
  unfold linesEnterRun
  split
  · exact openLine_told
  · exact .of_hs_eq rfl

/-! ### Lines opened and left (R129) -/

/-- The arbiter's grant leaves the line as it is, with the setting and the closing traffic. -/
theorem arbitrate_line : (arbitrate s).ml.line = s.ml.line ∧ (arbitrate s).ml.hostEnable = s.ml.hostEnable ∧
    (arbitrate s).ml.closingLeft = s.ml.closingLeft := by
  have hdrive (h : Fin 2) (u : State) : (grantDrive h u).ml.line = u.ml.line ∧ (grantDrive h u).ml.hostEnable = u.ml.hostEnable ∧
      (grantDrive h u).ml.closingLeft = u.ml.closingLeft := by
    unfold grantDrive
    dsimp only
    repeat' split
    all_goals exact ⟨rfl, rfl, rfl⟩
  have hpass (u : State) : (grantPass u).ml.line = u.ml.line ∧ (grantPass u).ml.hostEnable = u.ml.hostEnable ∧
      (grantPass u).ml.closingLeft = u.ml.closingLeft := by
    unfold grantPass
    repeat' split
    all_goals exact ⟨rfl, rfl, rfl⟩
  have hread (u : State) : (grantRead u).ml.line = u.ml.line ∧ (grantRead u).ml.hostEnable = u.ml.hostEnable ∧
      (grantRead u).ml.closingLeft = u.ml.closingLeft := by
    unfold grantRead
    repeat' split
    all_goals exact ⟨rfl, rfl, rfl⟩
  have hprobe (u : State) : (grantProbe u).ml.line = u.ml.line ∧ (grantProbe u).ml.hostEnable = u.ml.hostEnable ∧
      (grantProbe u).ml.closingLeft = u.ml.closingLeft := by
    unfold grantProbe
    repeat' split
    all_goals exact ⟨rfl, rfl, rfl⟩
  unfold arbitrate
  split
  · exact ⟨rfl, rfl, rfl⟩
  · simp only [hprobe, hread, hpass, hdrive, and_self]

theorem openLine_line : (openLine s).ml.line = .on := by
  rw [openLine, arbitrate_line.1]
  have hslots (u : State) : (forSlots openSlot u).ml.line = u.ml.line := by
    refine forSlots_keeps (·.ml.line) (fun i u => ?_) u
    unfold openSlot
    dsimp only
    repeat' split
    all_goals rfl
  simp [hslots]

theorem linesEnterRun_off (hline : s.ml.line = .off) (hhost : s.ml.hostEnable = .on) : (linesEnterRun s).ml.line = .on := by
  rw [linesEnterRun, if_pos ⟨hline, hhost⟩, openLine_line]

theorem linesEnterRun_stays (h : s.ml.line ≠ .off ∨ s.ml.hostEnable = .off) : linesEnterRun s = s := by
  rw [linesEnterRun, if_neg]
  rintro ⟨hline, hhost⟩
  rcases h with h | h
  · exact h hline
  · rw [hhost] at h
    exact absurd h (by decide)

/-- A handler has no present drive to take a closing stop (R129). -/
def State.silentDrive (s : State) (h : Fin 2) : Bool :=
  match (s.handler h).driveSlot with
  | some i => decide ((s.slot i).state ≠ .present)
  | none => true

theorem nextClosingStop_last {hs : List (Fin 2)} (h : hs.dropWhile s.silentDrive = []) : nextClosingStop hs s = endClosing s := by
  induction hs with
  | nil => rfl
  | cons g rest ih =>
    have hsilent : s.silentDrive g = true := List.dropWhile_eq_nil_iff.mp h g List.mem_cons_self
    rw [List.dropWhile_cons_of_pos hsilent] at h
    unfold nextClosingStop
    split
    · next i hi =>
      have hpresent : (s.slot i).state ≠ .present := by
        simpa [State.silentDrive, hi] using hsilent
      rw [if_neg hpresent]
      exact ih h
    · exact ih h

theorem nextClosingStop_next {hs rest : List (Fin 2)} {g : Fin 2} {i : Fin 8} (h : hs.dropWhile s.silentDrive = g :: rest)
    (hi : (s.handler g).driveSlot = some i) : nextClosingStop hs s =
      beginExchange (.closingStop g) i (s.handler g).closingStop (s.setMl { s.ml with closingLeft := rest }) := by
  induction hs with
  | nil => exact absurd h (by simp)
  | cons k hs ih =>
    unfold nextClosingStop
    by_cases hsilent : s.silentDrive k = true
    · rw [List.dropWhile_cons_of_pos hsilent] at h
      split
      · next j hj =>
        have hpresent : (s.slot j).state ≠ .present := by
          simpa [State.silentDrive, hj] using hsilent
        rw [if_neg hpresent]
        exact ih h
      · exact ih h
    · rw [List.dropWhile_cons_of_neg hsilent] at h
      obtain ⟨rfl, rfl⟩ := List.cons.inj h
      have hpresent : (s.slot i).state = .present := by
        simpa [State.silentDrive, hi] using hsilent
      rw [hi]
      dsimp only
      rw [if_pos hpresent]

theorem endClosing_off (h : s.ml.hostEnable = .off ∨ s.sc.opState ≠ .run) :
    endClosing s = s.setMl { s.ml with line := .off, closingLeft := [] } := by
  rw [endClosing, if_neg]
  rintro ⟨hhost, hrun⟩
  rcases h with h | h
  · rw [hhost] at h
    exact absurd h (by decide)
  · exact h hrun

theorem nextClosingStop_line (hs : List (Fin 2)) (hline : s.ml.line ≠ .on) (h : s.ml.hostEnable = .off ∨ s.sc.opState ≠ .run) :
    (nextClosingStop hs s).ml.line ≠ .on := by
  induction hs with
  | nil =>
    rw [nextClosingStop, endClosing_off h]
    simp
  | cons g rest ih =>
    unfold nextClosingStop
    split
    · split
      · exact hline
      · exact ih
    · exact ih

/-- The state in which a line that closes takes its next traffic (R129): CLOSING, nothing due. -/
def beginClosing (s : State) : State :=
  let s1 := match s.ml.pass.state, s.ml.pass.slot with
    | .queued, some i => passDone i .flushed none none s
    | _, _ => s
  tellDrives (forSlots closeSlot (s1.setMl { s1.ml with
    line := .closing, drivePending := Vector.replicate 2 false, closingLeft := [0, 1] }))

theorem closeLine_eq : closeLine s = nextTraffic (beginClosing s) := rfl

theorem forSlots_closeSlot_ml (v : State) :
    (forSlots closeSlot v).ml = { v.ml with slots := (forSlots closeSlot v).ml.slots } := by
  have hfold (is : List (Fin 8)) (v : State) :
      (is.foldl (fun s i => closeSlot i s) v).ml = { v.ml with slots := (is.foldl (fun s i => closeSlot i s) v).ml.slots } := by
    induction is generalizing v with
    | nil => rfl
    | cons i is ih =>
      rw [List.foldl_cons, ih (closeSlot i v)]
      rfl
  exact hfold _ v

theorem beginClosing_ml : (beginClosing s).ml = { s.ml with
    slots := (beginClosing s).ml.slots, pass := (beginClosing s).ml.pass
    line := .closing, drivePending := Vector.replicate 2 false, closingLeft := [0, 1] } := by
  have hpass (v : State) (hv : v.ml = { s.ml with pass := v.ml.pass }) (w : State) (hw : w = tellDrives (forSlots closeSlot (v.setMl { v.ml with
      line := .closing, drivePending := Vector.replicate 2 false, closingLeft := [0, 1] }))) : w.ml = { s.ml with
      slots := w.ml.slots, pass := w.ml.pass, line := .closing, drivePending := Vector.replicate 2 false, closingLeft := [0, 1] } := by
    have hml : w.ml = (forSlots closeSlot (v.setMl { v.ml with
        line := .closing, drivePending := Vector.replicate 2 false, closingLeft := [0, 1] })).ml := by rw [hw]; simp
    rw [forSlots_closeSlot_ml] at hml
    rw [hml]
    simp only [State.setMl_ml]
    rw [hv]
  refine hpass _ ?_ _ rfl
  split <;> rfl

theorem closeLine_line (h : s.ml.hostEnable = .off ∨ s.sc.opState ≠ .run) : (closeLine s).ml.line ≠ .on := by
  have hml := beginClosing_ml (s := s)
  have hclosing : (beginClosing s).ml.line = .closing := by rw [hml]
  have hhost : (beginClosing s).ml.hostEnable = s.ml.hostEnable := by rw [hml]
  have hsc : (beginClosing s).sc = s.sc := by
    unfold beginClosing
    dsimp only
    split <;> simp
  rw [closeLine_eq, nextTraffic, hclosing]
  dsimp only
  split
  · rw [hclosing]
    decide
  · refine nextClosingStop_line _ ?_ ?_
    · rw [hclosing]
      decide
    · rw [hhost, hsc]
      exact h

theorem linesLeaveRun_line (h : s.sc.opState ≠ .run) : (linesLeaveRun s).ml.line ≠ .on := by
  unfold linesLeaveRun
  split
  · exact closeLine_line (.inr h)
  · next hline => exact hline

/-! ### Entry to RUN (R134) -/

/-- The Sensing Unit after an entry to RUN: the trim timer runs, and the next pass begins or follows the one under way (R81, R89). -/
def SU.entersRun (w : WorkingMemory) (x : SU) : SU :=
  if x.pass = .none then
    { x with
      trimTimer := some (100000 * w.trimInterval), pass := .supply w.scanList, gapTimer := none, scanGap := w.scanGap
      passCut := false, passNext := false }
  else { x with trimTimer := some (100000 * w.trimInterval), passNext := true }

theorem sensingEntersRun_su : (sensingEntersRun s).su = s.su.entersRun s.wm := by
  unfold sensingEntersRun hurryPass SU.entersRun
  simp only [State.setSu_su, sec, Nat.mul_comm]
  split <;> rfl

theorem SU.entersRun_trimTimer (w : WorkingMemory) (x : SU) : (x.entersRun w).trimTimer = some (100000 * w.trimInterval) := by
  unfold SU.entersRun
  split <;> rfl

theorem SU.entersRun_points (w : WorkingMemory) (x : SU) : (x.entersRun w).points = x.points := by
  unfold SU.entersRun
  split <;> rfl

theorem SU.entersRun_banks (w : WorkingMemory) (x : SU) : (x.entersRun w).banks = x.banks := by
  unfold SU.entersRun
  split <;> rfl

theorem SU.entersRun_doors (w : WorkingMemory) (x : SU) : (x.entersRun w).doors = x.doors := by
  unfold SU.entersRun
  split <;> rfl

/-- The state in which the lines enter RUN: every other block has applied its entry rule. -/
def State.beforeLinesEnterRun (s : State) : State :=
  { s with
    zr := { s.zr with cycleTimer := some (cyclePeriod s.sc.pendingCadence) }
    hs := { s.hs with accountTimer := some 100000, air := s.wm.airSettings }
    su := s.su.entersRun s.wm
    sc := { s.sc with opState := .run, cadence := s.sc.pendingCadence } }

theorem enterRun_eq_lines : enterRun s = linesEnterRun s.beforeLinesEnterRun := by
  refine congrArg linesEnterRun (State.eq_of_blocks ?_ ?_ ?_ ?_ sensingEntersRun_su ?_ ?_ ?_ ?_ ?_ ?_ ?_ ?_ ?_ ?_ ?_)
  all_goals simp only [sensingEntersRun_frame]; rfl

theorem enterRun_eq : enterRun s = { s with
    zr := { s.zr with cycleTimer := some (cyclePeriod s.sc.pendingCadence) }
    hs := { s.hs with handlers := (enterRun s).hs.handlers, accountTimer := some 100000, air := s.wm.airSettings }
    su := s.su.entersRun s.wm
    ml := (enterRun s).ml
    lu := (enterRun s).lu
    sc := { s.sc with opState := .run, cadence := s.sc.pendingCadence } } := by
  rw [enterRun_eq_lines]
  have htold := linesEnterRun_told (s := s.beforeLinesEnterRun)
  have hair : (linesEnterRun s.beforeLinesEnterRun).hs.air = s.wm.airSettings := by
    rcases htold.air_eq with h | h <;> rw [h] <;> rfl
  have hhs := htold.hs_eq
  rw [hair] at hhs
  refine State.eq_of_blocks ?_ hhs ?_ ?_ ?_ ?_ rfl ?_ rfl ?_ ?_ ?_ ?_ ?_ ?_ ?_ <;> simp only [linesEnterRun_frame] <;> rfl

/-- What an entry to RUN leaves as it was, with the settings read. -/
theorem enterRun_with : enterRun s = { s with
    zr := { s.zr with cycleTimer := (enterRun s).zr.cycleTimer }
    hs := { s.hs with
      handlers := (enterRun s).hs.handlers, accountTimer := some 100000, air := ⟨s.wm.bMin, s.wm.renewalBlower, s.wm.dMin, s.wm.fMin⟩ }
    su := (enterRun s).su
    ml := (enterRun s).ml
    lu := (enterRun s).lu
    sc := { s.sc with opState := .run, cadence := s.sc.pendingCadence } } := by
  have heq := enterRun_eq (s := s)
  generalize enterRun s = e at heq
  rw [heq]
  rfl

theorem enterRun_cycleTimer : (enterRun s).zr.cycleTimer = some (cyclePeriod s.sc.pendingCadence) := by rw [enterRun_eq]

theorem enterRun_sc : (enterRun s).sc = { s.sc with opState := .run, cadence := s.sc.pendingCadence } := by rw [enterRun_eq]

theorem enterRun_su : (enterRun s).su = s.su.entersRun s.wm := by rw [enterRun_eq]

theorem enterRun_mode (h : Fin 2) : ((enterRun s).handler h).mode = (s.handler h).mode := by
  rw [enterRun_eq_lines, linesEnterRun_told.mode_eq h]
  rfl

theorem enterRun_line_on (hline : s.ml.line = .off) (hhost : s.ml.hostEnable = .on) : (enterRun s).ml.line = .on := by
  rw [enterRun_eq_lines]
  exact linesEnterRun_off hline hhost

theorem enterRun_ml (h : s.ml.line ≠ .off ∨ s.ml.hostEnable = .off) : (enterRun s).ml = s.ml := by
  rw [enterRun_eq_lines, linesEnterRun_stays (s := s.beforeLinesEnterRun) h]
  rfl

end Sys2Proof.Machine

/-! ## Requests to the State Controller (08) -/

namespace Sys2Proof.Machine

variable {s : State}

/-! ### Leaving RUN (R135) -/

/-- A bank without its short trim queued (R91). -/
def Bank.withoutShortTrim (x : Bank) : Bank := { x with trim := if x.trim = .shortQueued then .idle else x.trim }

theorem dropShortTrims_banks : (dropShortTrims s).su = { s.su with banks := s.su.banks.map Bank.withoutShortTrim } := by
  have hbank : (fun b : Bank => if b.trim = .shortQueued then { b with trim := .idle } else b) = Bank.withoutShortTrim := by
    funext b
    unfold Bank.withoutShortTrim
    split <;> rfl
  rw [dropShortTrims, hbank]
  rfl

/-- The Sensing Unit after the leaving of RUN (R81, R91). -/
def SU.leavesRun (w : WorkingMemory) (x : SU) : SU :=
  if x.pass = .none then
    { x with
      banks := x.banks.map Bank.withoutShortTrim, trimTimer := none, pass := .supply w.scanList, gapTimer := none
      scanGap := w.scanGap, passCut := false, passNext := false }
  else { x with banks := x.banks.map Bank.withoutShortTrim, trimTimer := none, passNext := true }

theorem sensingLeavesRun_su : (sensingLeavesRun s).su = s.su.leavesRun s.wm := by
  unfold sensingLeavesRun hurryPass SU.leavesRun
  simp only [State.setSu_su, dropShortTrims_banks]
  split <;> rfl

theorem SU.leavesRun_trimTimer (w : WorkingMemory) (x : SU) : (x.leavesRun w).trimTimer = none := by
  unfold SU.leavesRun
  split <;> rfl

theorem SU.leavesRun_banks (w : WorkingMemory) (x : SU) : (x.leavesRun w).banks = x.banks.map Bank.withoutShortTrim := by
  unfold SU.leavesRun
  split <;> rfl

/-- A pass over both handlers, each step of which rewrites its own record and no other. -/
theorem forHandlers_pointwise {α : Type} (get : State → Fin 2 → α) (f : Fin 2 → State → State) (g : Fin 2 → α → α)
    (hget : ∀ i u k, get (f i u) k = if k = i then g i (get u i) else get u k) (u : State) (h : Fin 2) :
    get (forHandlers f u) h = g h (get u h) := by
  rw [forHandlers, hget, hget, hget]
  have hcases : h = 0 ∨ h = 1 := by omega
  rcases hcases with rfl | rfl
  · simp
  · simp

theorem putRenewal_renewal (h k : Fin 2) (x : Renewal) : (s.putRenewal h x).renewal k = if k = h then x else s.renewal k := by
  by_cases hk : k = h
  · subst hk
    simp
  · rw [if_neg hk, State.putRenewal_renewal_other (s := s) (Ne.symm hk)]

/-- A renewal record after the leaving of RUN (R71). -/
def Renewal.leavesRun (x : Renewal) : Renewal :=
  if x.state ≠ .idle then { x with state := .idle, timer := 0, lastEnd := .leftRun } else x

theorem Renewal.leavesRun_state (x : Renewal) : x.leavesRun.state = .idle := by
  unfold Renewal.leavesRun
  split
  · rfl
  · next h => simpa using h

theorem Renewal.leavesRun_kept (x : Renewal) : x.leavesRun.balance = x.balance ∧ x.leavesRun.interval = x.interval := by
  unfold Renewal.leavesRun
  split <;> exact ⟨rfl, rfl⟩

theorem renewalsLeaveRun_renewal (h : Fin 2) : (renewalsLeaveRun s).renewal h = (s.renewal h).leavesRun := by
  refine forHandlers_pointwise State.renewal _ (fun _ => Renewal.leavesRun) (fun i u k => ?_) s h
  unfold Renewal.leavesRun
  by_cases hrun : (u.renewal i).state = .idle
  · have hno : ¬ u.renewing i = true := by simp [State.renewing, hrun]
    rw [if_neg hno, if_neg (not_not.mpr hrun)]
    by_cases hk : k = i
    · rw [if_pos hk, hk]
    · rw [if_neg hk]
  · have hyes : u.renewing i = true := by simp [State.renewing, hrun]
    rw [if_pos hyes, if_pos hrun, putRenewal_renewal]

theorem renewalsLeaveRun_rs : (renewalsLeaveRun s).rs = { s.rs with renewals := s.rs.renewals.map Renewal.leavesRun } := by
  have hframe : (renewalsLeaveRun s).rs = { s.rs with renewals := (renewalsLeaveRun s).rs.renewals } := by
    unfold renewalsLeaveRun forHandlers
    dsimp only
    repeat' split
    all_goals rfl
  have hrenewals : (renewalsLeaveRun s).rs.renewals = s.rs.renewals.map Renewal.leavesRun := by
    refine Vector.ext fun i hi => ?_
    rw [Vector.getElem_map]
    exact renewalsLeaveRun_renewal (s := s) ⟨i, hi⟩
  rw [hframe, hrenewals]

theorem forHandlers_handlerLeavesRun_cycleNo : (forHandlers handlerLeavesRun s).hs.cycleNo = s.hs.cycleNo := by
  have htake (h : Fin 2) (m : Mode) (u : State) : (takeMode h m u).hs.cycleNo = u.hs.cycleNo := by
    unfold takeMode
    dsimp only
    split <;> rfl
  have hleave (h : Fin 2) (u : State) : (handlerLeavesRun h u).hs.cycleNo = u.hs.cycleNo := by
    unfold handlerLeavesRun leaveTo
    simp only [State.putHandler, State.setHs_hs, timerStart_hs, htake]
    split <;> rfl
  rw [forHandlers, hleave, hleave]

/-- The State Controller leaves RUN: its own state, and the sets on their way. -/
def State.standbyEntered (s : State) : State := (s.setBus s.bus.dropCascade).setSc { s.sc with opState := .standby }

/-- The state in which the lines leave RUN: every other block has applied its rule. -/
def State.beforeLinesLeaveRun (s : State) : State :=
  zeroOutputs (sensingLeavesRun (renewalsLeaveRun (emptyRecord (handlersLeaveRun (zonesLeaveRun s.standbyEntered)))))

theorem leaveRun_eq_lines : leaveRun s = linesLeaveRun s.beforeLinesLeaveRun := rfl

theorem beforeLinesLeaveRun_sc : s.beforeLinesLeaveRun.sc = { s.sc with opState := .standby } := by
  simp only [State.beforeLinesLeaveRun, zeroOutputs_frame, sensingLeavesRun_frame, renewalsLeaveRun_frame, emptyRecord_frame,
    handlersLeaveRun_frame, zonesLeaveRun_frame]
  rfl

theorem leaveRun_sc : (leaveRun s).sc = { s.sc with opState := .standby } := by
  rw [leaveRun_eq_lines, (linesLeaveRun_frame _).2.2.2.2.2.1, beforeLinesLeaveRun_sc]

theorem leaveRun_zr : (leaveRun s).zr = { s.zr with
    zones := s.zr.zones.map fun x => { x with grantedReheat := 0, limited := .none }
    cycleTimer := none, outstanding := false, deferred := false } := by
  simp only [leaveRun, linesLeaveRun_frame, zeroOutputs_frame, sensingLeavesRun_frame, renewalsLeaveRun_frame, emptyRecord_frame,
    handlersLeaveRun_frame]
  rfl

theorem leaveRun_zone (z : Fin 12) : (leaveRun s).zone z = { s.zone z with grantedReheat := 0, limited := .none } := by
  rw [State.zone, leaveRun_zr]
  simp [State.zone]

theorem leaveRun_rs : (leaveRun s).rs = { s.rs with renewals := s.rs.renewals.map Renewal.leavesRun } := by
  simp only [leaveRun, linesLeaveRun_frame, zeroOutputs_frame, sensingLeavesRun_frame, renewalsLeaveRun_rs, emptyRecord_frame,
    handlersLeaveRun_frame, zonesLeaveRun_frame]
  rfl

theorem leaveRun_renewal (h : Fin 2) : (leaveRun s).renewal h = (s.renewal h).leavesRun := by
  rw [State.renewal, leaveRun_rs]
  simp [State.renewal]

theorem leaveRun_su : (leaveRun s).su = s.su.leavesRun s.wm := by
  simp only [leaveRun, linesLeaveRun_frame, zeroOutputs_frame, sensingLeavesRun_su, renewalsLeaveRun_frame, emptyRecord_frame,
    handlersLeaveRun_frame, zonesLeaveRun_frame, State.wm]
  rfl

theorem leaveRun_bank (b : Fin 3) : (leaveRun s).bank b = (s.bank b).withoutShortTrim := by
  rw [State.bank, leaveRun_su, SU.leavesRun_banks]
  simp [State.bank]

theorem leaveRun_channel (c : Fin 16) : (leaveRun s).channel c = (s.channel c).zero := by
  have hou : (leaveRun s).ou = (zeroOutputs s).ou := by
    simp only [leaveRun, linesLeaveRun_frame, zeroOutputs, State.setOu_ou, sensingLeavesRun_frame, renewalsLeaveRun_frame,
      emptyRecord_frame, handlersLeaveRun_frame, zonesLeaveRun_frame]
    rfl
  rw [State.channel, hou]
  exact zeroOutputs_channel s c

/-- The Handler Sequencer before the lines leave RUN (R23). -/
theorem beforeLinesLeaveRun_hs : s.beforeLinesLeaveRun.hs = (handlersLeaveRun (zonesLeaveRun s.standbyEntered)).hs := by
  simp only [State.beforeLinesLeaveRun, zeroOutputs_frame, sensingLeavesRun_frame, renewalsLeaveRun_frame, emptyRecord_frame]

theorem handlersLeaveRun_hs : (handlersLeaveRun s).hs.dampers = Vector.replicate 12 0 ∧ (handlersLeaveRun s).hs.accountTimer = none ∧
    (handlersLeaveRun s).hs.outstanding = false ∧ (handlersLeaveRun s).hs.cycleNo = s.hs.cycleNo := by
  have hcycle := forHandlers_handlerLeavesRun_cycleNo (s := s)
  unfold handlersLeaveRun
  generalize forHandlers handlerLeavesRun s = u at hcycle
  exact ⟨rfl, rfl, rfl, hcycle⟩

theorem leaveRun_hs : (leaveRun s).hs.dampers = Vector.replicate 12 0 ∧ (leaveRun s).hs.accountTimer = none ∧
    (leaveRun s).hs.outstanding = false ∧ (leaveRun s).hs.cycleNo = s.hs.cycleNo := by
  obtain ⟨hdampers, haccount, houtstanding, hcycle⟩ := handlersLeaveRun_hs (s := zonesLeaveRun s.standbyEntered)
  have hzones : (zonesLeaveRun s.standbyEntered).hs = s.hs := rfl
  rw [← beforeLinesLeaveRun_hs] at hdampers haccount houtstanding hcycle
  rw [hzones] at hcycle
  have hhs := (linesLeaveRun_told (s := s.beforeLinesLeaveRun)).hs_eq
  rw [← leaveRun_eq_lines] at hhs
  generalize leaveRun s = e at hhs
  generalize s.beforeLinesLeaveRun.hs = x at hhs hdampers haccount houtstanding hcycle
  rw [hhs]
  exact ⟨hdampers, haccount, houtstanding, hcycle⟩

/-- A handler's record after the leaving of RUN, before the lines leave it too (R23). -/
def Handler.leftRun (w : WorkingMemory) (x : Handler) : Handler :=
  { (x.leaveMode w.reversalDwell).stop w.restTime with
    mode := .idle, lastEnd := if x.mode = .defrost then .aborted else x.lastEnd
    counted := 0, net := 0, qReq := 0, candidate := false, baseBlower := 0, blower := 0, fresh := 0 }

theorem Handler.leftRun_icing (w : WorkingMemory) (x : Handler) : (x.leftRun w).icing = x.icing := by
  rw [Handler.leftRun, Handler.stop_eq, Handler.leaveMode_eq]

theorem Handler.leftRun_defrostDue (w : WorkingMemory) (x : Handler) : (x.leftRun w).defrostDue = x.defrostDue := by
  rw [Handler.leftRun, Handler.stop_eq, Handler.leaveMode_eq]

theorem Handler.leftRun_rest (w : WorkingMemory) {x : Handler} (h : x.comp = .running) : (x.leftRun w).rest = 100000 * w.restTime := by
  rw [Handler.leftRun, Handler.stop_eq, Handler.leaveMode_eq]
  dsimp only
  rw [if_pos h, sec, Nat.mul_comm]

theorem Handler.leftRun_defrost (w : WorkingMemory) {x : Handler} (h : x.mode = .defrost) :
    (x.leftRun w).lastEnd = .aborted ∧ (x.leftRun w).lastMode = .heat := by
  rw [Handler.leftRun, Handler.stop_eq, Handler.leaveMode_eq]
  simp [h]

theorem handlersLeaveRun_leftRun (h : Fin 2) : (handlersLeaveRun s).handler h = (s.handler h).leftRun s.wm := handlersLeaveRun_handler s h

theorem beforeLinesLeaveRun_handler (h : Fin 2) : s.beforeLinesLeaveRun.handler h = (s.handler h).leftRun s.wm := by
  rw [State.handler, beforeLinesLeaveRun_hs]
  exact handlersLeaveRun_leftRun (s := zonesLeaveRun s.standbyEntered) h

theorem leaveRun_handler (h : Fin 2) :
    ((leaveRun s).handler h).mode = .idle ∧ ((leaveRun s).handler h).q = 0 ∧ ((leaveRun s).handler h).comp = .stopped ∧
      ((leaveRun s).handler h).qReq = 0 ∧ ((leaveRun s).handler h).blower = 0 ∧ ((leaveRun s).handler h).fresh = 0 ∧
      ((leaveRun s).handler h).icing = (s.handler h).icing ∧
      ((s.handler h).comp = .running → ((leaveRun s).handler h).rest = 100000 * s.wm.restTime) ∧
      ((s.handler h).mode = .defrost → ((leaveRun s).handler h).lastEnd = .aborted ∧ ((leaveRun s).handler h).lastMode = .heat) := by
  have htold := linesLeaveRun_told (s := s.beforeLinesLeaveRun)
  have hbefore := beforeLinesLeaveRun_handler (s := s) h
  obtain ⟨hcomp, hrest⟩ := htold.stopped_eq h (by rw [hbefore]; exact Handler.stop_comp _ _)
  have hq := htold.zero_eq h (by rw [hbefore]; exact Handler.stop_q _ _)
  have hkept := htold.handler_eq h
  rw [hbefore] at hrest hkept
  rw [leaveRun_eq_lines]
  generalize (linesLeaveRun s.beforeLinesLeaveRun).handler h = y at hcomp hrest hq hkept
  refine ⟨by rw [hkept]; rfl, hq, hcomp, by rw [hkept]; rfl, by rw [hkept]; rfl, by rw [hkept]; rfl,
    by rw [hkept]; exact Handler.leftRun_icing _ _, fun hrunning => hrest.trans (Handler.leftRun_rest _ hrunning), fun hdefrost => ?_⟩
  rw [hkept]
  exact Handler.leftRun_defrost _ hdefrost

/-- What the leaving of RUN leaves as it was. -/
theorem leaveRun_with : leaveRun s = { s with
    zr := ⟨(leaveRun s).zr.zones, none, s.zr.cycleNo, false, false⟩
    hs := (leaveRun s).hs
    rs := { s.rs with renewals := (leaveRun s).rs.renewals }
    pa := { s.pa with record := (leaveRun s).pa.record }
    su := (leaveRun s).su
    ou := (leaveRun s).ou
    ml := (leaveRun s).ml
    lu := (leaveRun s).lu
    bus := { s.bus with
      demandSets := s.bus.demandSets.map fun d => ⟨true, d.set⟩, requestSets := s.bus.requestSets.map fun r => ⟨true, r.set⟩ }
    sc := { s.sc with opState := .standby } } := by
  have hzr := leaveRun_zr (s := s)
  have hpa := leaveRun_pa s
  have hrs := leaveRun_rs (s := s)
  have hsc := leaveRun_sc (s := s)
  obtain ⟨hpl, hbus, hpins, heeprom, htenth, hfree, hpending⟩ := leaveRun_frame s
  generalize leaveRun s = e at hzr hpa hrs hsc hpl hbus hpins heeprom htenth hfree hpending
  exact State.eq_of_blocks (by rw [hzr]) rfl (by rw [hpa]) (by rw [hrs]) rfl rfl rfl hsc rfl hpl hbus hpins heeprom htenth hfree
    hpending

/-! ### STANDBY and RESUME (R136, R138) -/

theorem standbyOwner_run (h : s.sc.opState = .run) : standbyOwner s =
    (leaveRun s, [0, 2] ++ (num8 s.sc.cadence.code ++ num8 s.sc.pendingCadence.code)) := by
  rw [standbyOwner, if_pos h]
  rw [State.cadenceBytes, leaveRun_sc]
  rfl

theorem resumeOwner_standby (h : s.sc.opState = .standby) (hpark : s.sc.parkRequest = false) : resumeOwner s =
    (enterRun s, [0, 1] ++ num8 s.sc.pendingCadence.code ++ num8 s.sc.pendingCadence.code) := by
  rw [resumeOwner, if_pos ⟨h, by rw [hpark]; rfl⟩]
  rw [State.cadenceBytes, enterRun_sc]
  rfl

theorem num8_length (n : Nat) : (num8 n).length = 1 := rfl

/-- Settles O44. -/
theorem standbyAndResume : Obligations.StandbyAndResume := by
  intro s hs cadences
  have hlatches (k : Byte) : (s.withInHand k []).lu.Latches (s.withInHand k []).lu := .refl
  refine ⟨fun hop => ?_, fun hop => ?_, fun hop hpark => ?_, fun hop hpark => ?_, fun hop => ?_⟩
  · exact request_only_answered hs 0x48 [] (by
      rw [standbyOwner, if_neg (by rw [show (s.withInHand 0x48 []).sc = s.sc from rfl, hop]; decide)]
      rw [show (s.withInHand 0x48 []).sc = s.sc from rfl, hop]
      rfl)
  · exact request_only_answered hs 0x49 [] (by
      rw [resumeOwner, if_neg (by rw [show (s.withInHand 0x49 []).sc = s.sc from rfl, hop]; simp)]
      rw [show (s.withInHand 0x49 []).sc = s.sc from rfl, hop]
      rfl)
  · exact request_only_answered hs 0x49 [] (by
      rw [resumeOwner, if_neg (by rw [show (s.withInHand 0x49 []).sc = s.sc from rfl, hpark]; simp)]
      rw [show (s.withInHand 0x49 []).sc = s.sc from rfl, hop]
      rfl)
  · have howner := resumeOwner_standby (s := s.withInHand 0x49 []) hop hpark
    have hlu := enterRun_latches (hlatches 0x49)
    have hrun : (enterRun (s.withInHand 0x49 [])).sc.opState ≠ .parked := by rw [enterRun_sc]; simp
    obtain ⟨-, -, -, -, -, -, -, htransmitter, -⟩ := hlu.frame
    refine ⟨_, request_latched hs 0x49 [] howner hlu hrun, ?_, ?_, ?_, ?_, ?_, fun h => ?_, fun hline hhost => ?_, fun hline => ?_,
      fun hidle => ?_⟩
    · exact congrArg (fun t => State.setLu t _) (enterRun_with (s := s.withInHand 0x49 []))
    · cases hpending : s.sc.pendingCadence
      all_goals exact enterRun_cycleTimer.trans (by rw [show (s.withInHand 0x49 []).sc = s.sc from rfl, hpending]; rfl)
    · exact (congrArg SU.trimTimer (enterRun_su (s := s.withInHand 0x49 []))).trans (SU.entersRun_trimTimer _ _)
    · exact (congrArg SU.points (enterRun_su (s := s.withInHand 0x49 []))).trans (SU.entersRun_points _ _)
    · exact (congrArg SU.banks (enterRun_su (s := s.withInHand 0x49 []))).trans (SU.entersRun_banks _ _)
    · exact enterRun_mode h
    · exact enterRun_line_on (s := s.withInHand 0x49 []) hline hhost
    · exact congrArg ML.line (enterRun_ml (s := s.withInHand 0x49 []) (.inl hline))
    · exact LU.replied_transmitter _ _ _ _ (by simp [num8_length]) (htransmitter.trans hidle)
  · have howner := standbyOwner_run (s := s.withInHand 0x48 []) hop
    have hlu := leaveRun_latches (hlatches 0x48)
    have hwith := leaveRun_with (s := s.withInHand 0x48 [])
    have hline := linesLeaveRun_line (s := (s.withInHand 0x48 []).beforeLinesLeaveRun) (by rw [beforeLinesLeaveRun_sc]; simp)
    have hzones := leaveRun_zone (s := s.withInHand 0x48 [])
    obtain ⟨hdampers, haccount, houtstanding, hcycle⟩ := leaveRun_hs (s := s.withInHand 0x48 [])
    have hpa := leaveRun_pa (s.withInHand 0x48 [])
    have hhandler := leaveRun_handler (s := s.withInHand 0x48 [])
    have hrenewal := leaveRun_renewal (s := s.withInHand 0x48 [])
    have hsu := leaveRun_su (s := s.withInHand 0x48 [])
    have hbank := leaveRun_bank (s := s.withInHand 0x48 [])
    have hchannel := leaveRun_channel (s := s.withInHand 0x48 [])
    rw [← leaveRun_eq_lines] at hline
    generalize leaveRun (s.withInHand 0x48 []) = e at *
    obtain ⟨-, -, -, -, -, -, -, htransmitter, -⟩ := hlu.frame
    have hzone (z : Fin 12) : e.hs.dampers[z] = 0 := by
      rw [hdampers]
      simp
    refine ⟨_, request_latched hs 0x48 [] howner hlu (by rw [hwith]; simp), congrArg (fun t => State.setLu t _) hwith,
      fun z => ⟨hzones z, hzone z⟩, haccount, houtstanding, hcycle, congrArg (fun x => x.record.made) hpa,
      congrArg (fun x => x.record.total) hpa, hhandler, fun h => ?_,
      (congrArg SU.trimTimer hsu).trans (SU.leavesRun_trimTimer _ _), hbank, hchannel, hline, fun hidle => ?_⟩
    · exact ⟨(congrArg Renewal.state (hrenewal h)).trans (Renewal.leavesRun_state _),
        (congrArg Renewal.balance (hrenewal h)).trans (Renewal.leavesRun_kept _).1,
        (congrArg Renewal.interval (hrenewal h)).trans (Renewal.leavesRun_kept _).2,
        fun hrunning => (congrArg Renewal.lastEnd (hrenewal h)).trans (congrArg Renewal.lastEnd (if_pos hrunning))⟩
    · exact LU.replied_transmitter _ _ _ _ (by simp [num8_length]) (htransmitter.trans hidle)

end Sys2Proof.Machine

/-! ## Parking, waking and RESTART (08) -/

namespace Sys2Proof.Machine

variable {s : State}

/-! ### PARK, CADENCE and RESTART as requests (R139, R140, R143) -/

section
variable {u : State}

theorem parkOwner_wrongState (h : u.sc.opState ≠ .standby) : parkOwner u = (u, [4]) := if_pos h

theorem parkOwner_busy (h : u.sc.opState = .standby)
    (hbusy : (∃ b, (u.bank b).trim ≠ .idle) ∨ u.pl.saveState = .saving ∨ u.ml.line = .closing) : parkOwner u = (u, [3]) := by
  rw [← trimUnderWay_iff] at hbusy
  rw [parkOwner, if_neg (not_not.mpr h), if_pos hbusy]
  rfl

theorem parkOwner_accepted (h : u.sc.opState = .standby)
    (hfree : ¬ ((∃ b, (u.bank b).trim ≠ .idle) ∨ u.pl.saveState = .saving ∨ u.ml.line = .closing)) : parkOwner u =
    ((u.setSc { u.sc with parkRequest := true, wakeHeld := false }).setLu { u.lu with after := .park },
      [0, 2, 1] ++ (num8 u.sc.cadence.code ++ num8 u.sc.pendingCadence.code)) := by
  rw [← trimUnderWay_iff] at hfree
  rw [parkOwner, if_neg (not_not.mpr h), if_neg hfree]
  simp only [State.setLu_sc, State.setSc_sc, h]
  rfl

theorem cadenceOwner_badArg {v : Byte} (h : 2 ≤ v.toNat) : cadenceOwner v u = (u, [7]) := if_pos h

theorem cadenceOwner_wrongState (c : Cadence) (h : u.sc.opState ≠ .standby) : cadenceOwner (BitVec.ofNat 8 c.code) u =
    (u, [4] ++ (num8 u.sc.cadence.code ++ num8 u.sc.pendingCadence.code)) := by
  rw [cadenceOwner, if_neg (by cases c <;> decide), if_pos h]
  rfl

theorem cadenceOwner_standby (c : Cadence) (h : u.sc.opState = .standby) : cadenceOwner (BitVec.ofNat 8 c.code) u =
    (u.setSc { u.sc with pendingCadence := c }, [0] ++ num8 u.sc.cadence.code ++ [BitVec.ofNat 8 c.code]) := by
  rw [cadenceOwner, if_neg (by cases c <;> decide), if_neg (not_not.mpr h)]
  cases c <;> rfl

theorem restartOwner_busy (h : u.pl.saveState = .saving) : restartOwner u =
    (u, [3] ++ num8 u.sc.opState.code ++ (num8 u.sc.cadence.code ++ num8 u.sc.pendingCadence.code)) := by
  rw [restartOwner, if_pos h]
  rfl

theorem restartOwner_accepted (h : u.pl.saveState = .idle) : restartOwner u = (u.setLu { u.lu with after := .restart },
    [0] ++ num8 u.sc.opState.code ++ (num8 u.sc.cadence.code ++ num8 u.sc.pendingCadence.code)) := by
  rw [restartOwner, if_neg (by rw [h]; decide)]
  rfl
end

/-- Settles O45. -/
theorem parkCadenceAndRestartAreChecked : Obligations.ParkCadenceAndRestartAreChecked := by
  intro s hs cadences busy
  refine ⟨fun hop => ?_, fun hop hbusy => ?_, fun hop hfree => ?_, fun v hv => ?_, fun c => ⟨fun hop => ?_, fun hop => ?_⟩,
    fun hsave => ?_, fun hsave => ?_⟩
  · exact request_only_answered hs 0x4A [] (parkOwner_wrongState (u := s.withInHand 0x4A []) (by
      show s.sc.opState ≠ _
      rw [hop]
      decide))
  · exact request_only_answered hs 0x4A [] (parkOwner_busy (u := s.withInHand 0x4A []) hop hbusy)
  · refine (request_inHand hs 0x4A [] (parkOwner_accepted (u := s.withInHand 0x4A []) hop hfree) rfl hs.awake).trans ?_
    rfl
  · exact request_only_answered hs 0x4B [v] (cadenceOwner_badArg hv)
  · exact request_only_answered hs 0x4B [BitVec.ofNat 8 c.code] (cadenceOwner_wrongState (u := s.withInHand 0x4B _) c (by
      show s.sc.opState ≠ _
      rw [hop]
      decide))
  · exact request_answered hs 0x4B [BitVec.ofNat 8 c.code] (cadenceOwner_standby (u := s.withInHand 0x4B _) c hop) rfl hs.awake
  · exact request_only_answered hs 0x4C [] (restartOwner_busy (u := s.withInHand 0x4C []) hsave)
  · refine (request_inHand hs 0x4C [] (restartOwner_accepted (u := s.withInHand 0x4C []) hsave) rfl hs.awake).trans ?_
    rfl

/-! ### Entry to WAKING and to PARKED (R141, R142) -/

/-- The Sensing Unit at the entry to WAKING (R79, R81, R142). -/
def SU.entersWaking (w : WorkingMemory) (x : SU) : SU :=
  if x.pass = .none then
    { x with
      banks := x.banks.map fun b => { b with trim := .fullQueued }, pass := .supply w.scanList, gapTimer := none
      scanGap := w.scanGap, passCut := false, passNext := false }
  else { x with banks := x.banks.map fun b => { b with trim := .fullQueued }, passNext := true }

theorem SU.entersWaking_banks (w : WorkingMemory) (x : SU) :
    (x.entersWaking w).banks = x.banks.map fun b => { b with trim := .fullQueued } := by
  unfold SU.entersWaking
  split <;> rfl

theorem SU.entersWaking_points (w : WorkingMemory) (x : SU) : (x.entersWaking w).points = x.points := by
  unfold SU.entersWaking
  split <;> rfl

theorem enterWaking_eq : enterWaking s = { s with
    sc := { s.sc with opState := .waking, parkRequest := false, wakeHeld := false }
    su := s.su.entersWaking s.wm
    ou := { s.ou with channels := s.ou.channels.map Channel.zero }
    lu := { s.lu with receiver := .hunting, gap := none } } := by
  unfold enterWaking hurryPass SU.entersWaking
  by_cases h : s.su.pass = .none
  · have hqueue : (queueFullTrims (s.setSc { s.sc with opState := .waking, parkRequest := false, wakeHeld := false })).su.pass = .none := h
    dsimp only
    rw [if_pos hqueue, if_pos h]
    rfl
  · have hqueue : (queueFullTrims (s.setSc { s.sc with opState := .waking, parkRequest := false, wakeHeld := false })).su.pass ≠ .none := h
    dsimp only
    rw [if_neg hqueue, if_neg h]
    rfl

/-- The Link Unit, the passes and the outputs at the entry to PARKED (R141). -/
def State.parked (s : State) : State :=
  { s with
    sc := { s.sc with opState := .parked }
    lu := s.lu.park
    ou := { s.ou with channels := s.ou.channels.map Channel.zero }
    su := { s.su with gapTimer := none, passNext := false, passCut := decide (s.su.pass ≠ .none) } }

theorem enterParked_eq : enterParked s = if s.sc.wakeHeld then enterWaking s.parked else s.parked := by
  have hcut : (s.su.pass != .none) = decide (s.su.pass ≠ .none) := by simp [bne, decide_not, beq_eq_decide]
  have hparked : zeroOutputs (cutPass ((s.setSc { s.sc with opState := .parked }).setLu s.lu.park)) = s.parked := by
    unfold cutPass State.parked
    rw [← hcut]
    rfl
  unfold enterParked
  dsimp only
  rw [show (s.setSc { s.sc with opState := .parked }).lu.park = s.lu.park from rfl, hparked]
  rfl

/-- What a waking part shows after the transmitter has looked for its next frame. -/
structure Wakes (s u t : State) : Prop where
  frame : t = { s with sc := t.sc, su := t.su, ou := t.ou, lu := t.lu }
  sc_eq : t.sc = { u.sc with opState := .waking, parkRequest := false, wakeHeld := false }
  bank_eq : ∀ b, t.bank b = { u.bank b with trim := .fullQueued }
  points_eq : t.su.points = u.su.points
  channel_eq : ∀ c, t.channel c = (u.channel c).zero
  receiver_eq : t.lu.receiver = .hunting
  inHand_eq : t.lu.inHand = u.lu.inHand
  events_eq : t.lu.events = u.lu.events

theorem kick_enterWaking_wakes {u : State} (hframe : u = { s with sc := u.sc, su := u.su, ou := u.ou, lu := u.lu }) :
    Wakes s u (kick (enterWaking u)) := by
  have hzr := congrArg State.zr hframe
  have hhs := congrArg State.hs hframe
  have hpa := congrArg State.pa hframe
  have hrs := congrArg State.rs hframe
  have hml := congrArg State.ml hframe
  have hpl := congrArg State.pl hframe
  have hbus := congrArg State.bus hframe
  have hpins := congrArg State.pins hframe
  have heeprom := congrArg State.eeprom hframe
  have htenth := congrArg State.tenth hframe
  have hfree := congrArg State.free hframe
  have hpending := congrArg State.pending hframe
  have hkick : kick (enterWaking u) = (enterWaking u).setLu (enterWaking u).lu.takeNext :=
    kick_awake (by rw [enterWaking_eq]; simp)
  rw [hkick, enterWaking_eq]
  refine ⟨?_, rfl, fun b => ?_, SU.entersWaking_points _ _, fun c => ?_, ?_, ?_, ?_⟩
  · exact State.eq_of_blocks hzr hhs hpa hrs rfl rfl hml rfl rfl hpl hbus hpins heeprom htenth hfree hpending
  · show (u.su.entersWaking u.wm).banks[b] = _
    rw [SU.entersWaking_banks]
    simp [State.bank]
  · show (u.ou.channels.map Channel.zero)[c] = _
    simp [State.channel]
  · exact (LU.takeNext_frame _).2.1
  · exact (LU.takeNext_frame _).2.2.2.1
  · exact (LU.takeNext_frame _).2.2.2.2.2.2

/-! ### The wake input (R137) -/

theorem debounced_eq {α : Type} [DecidableEq α] (x y : α) (timer : Timer) :
    debounced (x != y) timer = if x = y then none else if timer.isSome then timer else some 2000 := by
  unfold debounced
  by_cases h : x = y
  · simp [h]
  · simp [h, bne_iff_ne]
    rfl

theorem timer_running {timer : Timer} (h : timer.isSome) : ¬ timer.isNone = true := by
  cases timer with
  | none => exact absurd h (by decide)
  | some n => exact Bool.false_ne_true

theorem exec_parkEntry (h : s.lu.after = .park) : exec .parkEntry s = .next (kick (enterParked s)) := if_pos h

/-- A debounced change of the wake input, before the State Controller takes it. -/
def State.wakeSettled (s : State) : State := s.setSc { s.sc with wakeDebounce := none, wakeLine := s.pins.wake }

theorem exec_wakeDebounceExpiry_other (ht : s.sc.wakeDebounce.isSome) (h : s.sc.wakeLine = .active ∨ s.pins.wake = .inactive) :
    exec .wakeDebounceExpiry s = .next s.wakeSettled := by
  have hno : ¬ (s.sc.wakeLine = .inactive ∧ s.pins.wake = .active) := by
    rcases h with h | h <;> simp [h]
  show execWakeDebounceExpiry s = _
  rw [execWakeDebounceExpiry, if_neg (timer_running ht)]
  exact congrArg Host.Outcome.next (if_neg hno)

theorem exec_wakeDebounceExpiry_wake (ht : s.sc.wakeDebounce.isSome) (hline : s.sc.wakeLine = .inactive) (hlevel : s.pins.wake = .active) :
    exec .wakeDebounceExpiry s = .next (kick (wake s.wakeSettled)) := by
  show execWakeDebounceExpiry s = _
  rw [execWakeDebounceExpiry, if_neg (timer_running ht)]
  exact congrArg Host.Outcome.next (if_pos ⟨hline, hlevel⟩)

/-- Settles O46. -/
theorem parkingAndWaking : Obligations.ParkingAndWaking := by
  intro s silent zeroed waking level
  refine ⟨fun h => if_neg h, fun h hheld => ⟨_, exec_parkEntry h, ?_⟩, fun h hheld => ⟨_, exec_parkEntry h, ?_⟩, fun l => ?_, fun h => ?_,
    fun ht h => exec_wakeDebounceExpiry_other ht h, fun ht hline hlevel => ?_⟩
  · have hparked : kick (enterParked s) = s.parked := by
      rw [enterParked_eq, hheld, if_neg (by decide)]
      exact kick_parked rfl
    rw [hparked]
    refine ⟨fun c => ?_, rfl⟩
    show (s.ou.channels.map Channel.zero)[c] = _
    simp [State.channel]
    rfl
  · have hwakes : Wakes s s.parked (kick (enterParked s)) := by
      rw [enterParked_eq, hheld, if_pos rfl]
      exact kick_enterWaking_wakes rfl
    have hchannel (c : Fin 16) : s.parked.channel c = (s.channel c).zero := by
      show (s.ou.channels.map Channel.zero)[c] = _
      simp [State.channel]
    generalize kick (enterParked s) = t at hwakes
    have hsc := hwakes.sc_eq
    refine ⟨⟨by rw [hsc], by rw [hsc], by rw [hsc], by rw [hsc]; rfl, by rw [hsc]; rfl, hwakes.bank_eq, hwakes.points_eq, fun c => ?_,
      hwakes.frame⟩, hwakes.receiver_eq, hwakes.inHand_eq, hwakes.events_eq⟩
    rw [hwakes.channel_eq, hchannel]
    rfl
  · show execWakeInputChange l s = _
    rw [execWakeInputChange]
    dsimp only
    rw [debounced_eq]
    rfl
  · show execWakeDebounceExpiry s = _
    rw [execWakeDebounceExpiry, if_pos (by rw [h]; rfl)]
  · have hexec := exec_wakeDebounceExpiry_wake ht hline hlevel
    have hlineNow : s.wakeSettled = { s with sc := { s.sc with wakeDebounce := none, wakeLine := .active } } := by
      rw [State.wakeSettled, show s.pins.wake = .active from hlevel]
      rfl
    refine ⟨fun hsettled hop => ?_, fun hsettled hop hpark => ?_, fun hop hpark => ?_, fun hop => ?_⟩
    · have hwake : wake s.wakeSettled = s.wakeSettled := by
        unfold wake
        rcases hop with hop | hop | hop <;> rw [show s.wakeSettled.sc.opState = s.sc.opState from rfl, hop]
      rw [hexec, hwake, kick_settled (s := s.wakeSettled) hsettled, hlineNow]
    · have hwake : wake s.wakeSettled = s.wakeSettled.setSc { s.wakeSettled.sc with wakeHeld := true } := by
        unfold wake
        rw [show s.wakeSettled.sc.opState = s.sc.opState from rfl, hop]
        exact if_pos hpark
      rw [hexec, hwake, kick_settled (s := s.wakeSettled.setSc { s.wakeSettled.sc with wakeHeld := true }) hsettled, hlineNow]
      rfl
    · have hwake : wake s.wakeSettled = enterRun s.wakeSettled := by
        unfold wake
        rw [show s.wakeSettled.sc.opState = s.sc.opState from rfl, hop]
        exact if_neg (by
          show ¬ s.sc.parkRequest = true
          rw [hpark]
          decide)
      refine ⟨_, hexec, ?_⟩
      rw [hwake, kick_eq]
      have hwith := enterRun_with (s := s.wakeSettled)
      rw [hlineNow] at hwith ⊢
      generalize enterRun { s with sc := { s.sc with wakeDebounce := none, wakeLine := .active } } = e at *
      generalize (kick e).lu = l
      rw [hwith]
      rfl
    · have hwake : wake s.wakeSettled = enterWaking s.wakeSettled := by
        unfold wake
        rw [show s.wakeSettled.sc.opState = s.sc.opState from rfl, hop]
      have hwakes : Wakes s s.wakeSettled (kick (wake s.wakeSettled)) := by
        rw [hwake]
        exact kick_enterWaking_wakes rfl
      refine ⟨_, hexec, ?_⟩
      generalize kick (wake s.wakeSettled) = t at hwakes
      have hsc := hwakes.sc_eq
      exact ⟨⟨by rw [hsc], by rw [hsc], by rw [hsc], by rw [hsc]; rfl, by rw [hsc]; rfl, hwakes.bank_eq, hwakes.points_eq,
        hwakes.channel_eq, hwakes.frame⟩, hwakes.receiver_eq, hwakes.events_eq⟩

end Sys2Proof.Machine

/-! ## The module line: slots, grants, opening and closing (07) -/

namespace Sys2Proof.Machine

variable {s : State}

/-! ### Slots as numbered records -/

theorem putSlot_slot (i k : Fin 8) (x : Slot) : (s.putSlot i x).slot k = if k = i then x else s.slot k := by
  by_cases hk : k = i
  · subst hk
    simp
  · rw [if_neg hk, State.putSlot_slot_other (s := s) (Ne.symm hk)]

theorem forSlots_slot (f : Fin 8 → State → State) (g : Fin 8 → Slot → Slot) (Inv : State → Prop) (hinv : ∀ i u, Inv u → Inv (f i u))
    (hslot : ∀ i u k, Inv u → (f i u).slot k = if k = i then g i (u.slot i) else u.slot k) {u : State} (hu : Inv u) (k : Fin 8) :
    (forSlots f u).slot k = g k (u.slot k) := by
  rw [forSlots, foldl_pointwise State.slot f g Inv hinv hslot (List.nodup_finRange 8) hu, if_pos (List.mem_finRange k)]

/-! ### What the arbiter's grant leaves (R125) -/

theorem grantDrive_keeps (h : Fin 2) : (grantDrive h s).ml.pass = s.ml.pass ∧ (grantDrive h s).ml.slots = s.ml.slots := by
  unfold grantDrive
  dsimp only
  repeat' split
  all_goals exact ⟨rfl, rfl⟩

theorem grantPass_slots : (grantPass s).ml.slots = s.ml.slots := by
  unfold grantPass
  repeat' split
  all_goals rfl

theorem grantPass_not_queued (h : s.ml.pass.state ≠ .queued) : grantPass s = s := if_pos (.inr h)

/-- The slot but for what is due. -/
def Slot.SameButDue (x y : Slot) : Prop := y = { x with readDue := y.readDue, probeDue := y.probeDue }

theorem Slot.SameButDue.refl (x : Slot) : x.SameButDue x := rfl

theorem Slot.SameButDue.trans {x y z : Slot} (hxy : x.SameButDue y) (hyz : y.SameButDue z) : x.SameButDue z := by
  unfold Slot.SameButDue at *
  rw [hyz, hxy]

theorem Slot.SameButDue.fields {x y : Slot} (h : x.SameButDue y) :
    y.state = x.state ∧ y.failed = x.failed ∧ y.drive = x.drive ∧ y.monitor = x.monitor ∧ y.moduleType = x.moduleType ∧
      y.lastProbe = x.lastProbe ∧ y.probeTimer = x.probeTimer ∧ y.readTimer = x.readTimer := by
  rw [h]
  exact ⟨rfl, rfl, rfl, rfl, rfl, rfl, rfl, rfl⟩

theorem grantRead_keeps : (grantRead s).ml.pass = s.ml.pass ∧ ∀ i, (s.slot i).SameButDue ((grantRead s).slot i) := by
  unfold grantRead
  split
  · exact ⟨rfl, fun _ => .refl _⟩
  · split
    · next k hk =>
      refine ⟨rfl, fun i => ?_⟩
      show (s.slot i).SameButDue ((s.putSlot k { s.slot k with readDue := false }).slot i)
      rw [putSlot_slot]
      split
      · next hik =>
        subst hik
        rfl
      · exact .refl _
    · exact ⟨rfl, fun _ => .refl _⟩

theorem grantProbe_keeps : (grantProbe s).ml.pass = s.ml.pass ∧ ∀ i, (s.slot i).SameButDue ((grantProbe s).slot i) := by
  unfold grantProbe
  split
  · exact ⟨rfl, fun _ => .refl _⟩
  · split
    · next k hk =>
      refine ⟨rfl, fun i => ?_⟩
      show (s.slot i).SameButDue ((s.putSlot k { s.slot k with probeDue := false }).slot i)
      rw [putSlot_slot]
      split
      · next hik =>
        subst hik
        rfl
      · exact .refl _
    · exact ⟨rfl, fun _ => .refl _⟩

theorem slot_congr {t : State} (h : t.ml.slots = s.ml.slots) (i : Fin 8) : t.slot i = s.slot i := by rw [State.slot, State.slot, h]

theorem arbitrate_slot (i : Fin 8) : (s.slot i).SameButDue ((arbitrate s).slot i) := by
  unfold arbitrate
  split
  · exact .refl _
  · refine Slot.SameButDue.trans ?_ (grantProbe_keeps.2 i)
    refine Slot.SameButDue.trans ?_ (grantRead_keeps.2 i)
    rw [slot_congr grantPass_slots, slot_congr (grantDrive_keeps 1).2, slot_congr (grantDrive_keeps 0).2]
    exact .refl _

theorem arbitrate_not_queued (h : s.ml.pass.state ≠ .queued) : (arbitrate s).ml.pass = s.ml.pass ∧ (arbitrate s).lu = s.lu := by
  have hdrives : (grantDrive 1 (grantDrive 0 s)).ml.pass = s.ml.pass := by rw [(grantDrive_keeps 1).1, (grantDrive_keeps 0).1]
  unfold arbitrate
  split
  · exact ⟨rfl, rfl⟩
  · rw [grantProbe_keeps.1, grantRead_keeps.1, grantPass_not_queued (by rw [hdrives]; exact h)]
    exact ⟨hdrives, by simp [grantPass_not_queued (s := grantDrive 1 (grantDrive 0 s)) (by rw [hdrives]; exact h)]⟩

/-! ### A line that opens (R129) -/

/-- A slot at a change to ON (R129). -/
def Slot.opened (kind : SlotKind) (x : Slot) : Slot :=
  if kind ≠ .none ∧ x.state ≠ .present then { x with probeTimer := some (sec 5), probeDue := true }
  else if kind = .airMonitor ∧ x.state = .present then { x with readTimer := some (sec 2), readDue := true }
  else x

theorem Slot.opened_keeps (kind : SlotKind) (x : Slot) : (x.opened kind).state = x.state ∧ (x.opened kind).drive = x.drive := by
  unfold Slot.opened
  repeat' split
  all_goals exact ⟨rfl, rfl⟩

theorem openSlot_slot (i k : Fin 8) :
    (openSlot i s).slot k = if k = i then (s.slot i).opened (s.wm.slotKind i) else s.slot k := by
  unfold openSlot Slot.opened
  dsimp only
  split
  · exact putSlot_slot i k _
  · split
    · exact putSlot_slot i k _
    · by_cases hk : k = i
      · rw [if_pos hk, hk]
      · rw [if_neg hk]

theorem forSlots_openSlot_slot (i : Fin 8) : (forSlots openSlot s).slot i = (s.slot i).opened (s.wm.slotKind i) := by
  refine forSlots_slot openSlot (fun i => Slot.opened (s.wm.slotKind i)) (fun u => u.wm = s.wm) (fun i u hu => ?_) (fun i u k hu => ?_)
    rfl i
  · exact (congrArg PL.wm (openSlot_frame u i).2.2.2.2.2.2.2.2.1).trans hu
  · rw [openSlot_slot, hu]

theorem forSlots_openSlot_ml : (forSlots openSlot s).ml = { s.ml with slots := (forSlots openSlot s).ml.slots } := by
  have hstep (i : Fin 8) (u : State) : (openSlot i u).ml = { u.ml with slots := (openSlot i u).ml.slots } := by
    unfold openSlot
    dsimp only
    repeat' split
    all_goals rfl
  have hfold (is : List (Fin 8)) (u : State) :
      (is.foldl (fun s i => openSlot i s) u).ml = { u.ml with slots := (is.foldl (fun s i => openSlot i s) u).ml.slots } := by
    induction is generalizing u with
    | nil => rfl
    | cons i is ih =>
      have hrest := ih (openSlot i u)
      have hone := hstep i u
      rw [List.foldl_cons]
      generalize openSlot i u = w at hrest hone
      rw [hone] at hrest
      exact hrest
  unfold forSlots
  exact hfold (List.finRange 8) s

/-- The state in which the arbiter grants a line that has opened (R129). -/
def lineOpened (s : State) : State := tellDrives (forSlots openSlot (s.setMl { s.ml with line := .on, closingLeft := [] }))

theorem openLine_eq : openLine s = arbitrate (lineOpened s) := rfl

theorem lineOpened_ml : (lineOpened s).ml = { s.ml with slots := (lineOpened s).ml.slots, line := .on, closingLeft := [] } := by
  have htold : (lineOpened s).ml = (forSlots openSlot (s.setMl { s.ml with line := .on, closingLeft := [] })).ml := by
    simp [lineOpened]
  have hml := forSlots_openSlot_ml (s := s.setMl { s.ml with line := .on, closingLeft := [] })
  rw [← htold] at hml
  generalize (lineOpened s).ml = m at hml ⊢
  rw [hml]
  rfl

theorem lineOpened_slot (i : Fin 8) : (lineOpened s).slot i = (s.slot i).opened (s.wm.slotKind i) := by
  have htold : (lineOpened s).ml = (forSlots openSlot (s.setMl { s.ml with line := .on, closingLeft := [] })).ml := by
    simp [lineOpened]
  rw [State.slot, htold]
  exact forSlots_openSlot_slot (s := s.setMl { s.ml with line := .on, closingLeft := [] }) i

theorem lineOpened_lu : (lineOpened s).lu = s.lu := by simp [lineOpened]

theorem openLine_slot (i : Fin 8) : ((s.slot i).opened (s.wm.slotKind i)).SameButDue ((openLine s).slot i) := by
  rw [openLine_eq, ← lineOpened_slot]
  exact arbitrate_slot i

theorem openLine_not_queued (h : s.ml.pass.state ≠ .queued) : (openLine s).ml.pass = s.ml.pass ∧ (openLine s).lu = s.lu := by
  have hpass : (lineOpened s).ml.pass = s.ml.pass := by rw [lineOpened_ml]
  obtain ⟨hp, hl⟩ := arbitrate_not_queued (s := lineOpened s) (by rw [hpass]; exact h)
  rw [openLine_eq, hp, hl, hpass, lineOpened_lu]
  exact ⟨rfl, rfl⟩

theorem openLine_hostEnable : (openLine s).ml.hostEnable = s.ml.hostEnable := by
  rw [openLine_eq, arbitrate_line.2.1, lineOpened_ml]

/-! ### Entry to RUN with the pass-through not queued (R134) -/

theorem linesEnterRun_not_queued (h : s.ml.pass.state ≠ .queued) :
    (linesEnterRun s).ml.pass = s.ml.pass ∧ (linesEnterRun s).lu = s.lu := by
  unfold linesEnterRun
  split
  · exact openLine_not_queued h
  · exact ⟨rfl, rfl⟩

theorem linesEnterRun_slot_state (i : Fin 8) : ((linesEnterRun s).slot i).state = (s.slot i).state := by
  unfold linesEnterRun
  split
  · rw [(openLine_slot i).fields.1, (Slot.opened_keeps _ _).1]
  · rfl

theorem linesEnterRun_hostEnable : (linesEnterRun s).ml.hostEnable = s.ml.hostEnable := by
  unfold linesEnterRun
  split
  · exact openLine_hostEnable
  · rfl

end Sys2Proof.Machine

/-! ## RESTART takes effect (R144) -/

namespace Sys2Proof.Machine

variable {s t u : State}

theorem handler_congr (h : t.hs = s.hs) (i : Fin 2) : t.handler i = s.handler i := by rw [State.handler, State.handler, h]

/-! ### The handlers (R23) -/

/-- A handler's record at a RESTART (R23). -/
structure Handler.Restarted (w : WorkingMemory) (before x : Handler) : Prop where
  mode : x.mode = .idle
  q : x.q = 0
  qReq : x.qReq = 0
  net : x.net = 0
  comp : x.comp = .stopped
  rest : x.rest = 100000 * w.restTime
  icing : x.icing = before.icing
  defrostDue : x.defrostDue = before.defrostDue
  blower : x.blower = 0
  fresh : x.fresh = 0

theorem HandlersTold.restarted (htold : HandlersTold s t) {w : WorkingMemory} {before : Handler} {h : Fin 2}
    (hs : Handler.Restarted w before (s.handler h)) : Handler.Restarted w before (t.handler h) := by
  obtain ⟨hcomp, hrest⟩ := htold.stopped_eq h hs.comp
  have hq := htold.zero_eq h hs.q
  have hkept := htold.handler_eq h
  generalize t.handler h = x at *
  refine ⟨?_, hq, ?_, ?_, hcomp, hrest.trans hs.rest, ?_, ?_, ?_, ?_⟩
  · rw [hkept]; exact hs.mode
  · rw [hkept]; exact hs.qReq
  · rw [hkept]; exact hs.net
  · rw [hkept]; exact hs.icing
  · rw [hkept]; exact hs.defrostDue
  · rw [hkept]; exact hs.blower
  · rw [hkept]; exact hs.fresh

theorem putHandler_handler (h k : Fin 2) (x : Handler) : (s.putHandler h x).handler k = if k = h then x else s.handler k := by
  by_cases hk : k = h
  · subst hk
    simp
  · rw [if_neg hk, State.putHandler_handler_other s (Ne.symm hk)]

/-- The rest timer of every handler restarts (R23, R29). -/
def restAll (s : State) : State := forHandlers (fun h s => s.putHandler h { s.handler h with rest := sec s.wm.restTime }) s

theorem restAll_handler (h : Fin 2) : (restAll s).handler h = { s.handler h with rest := 100000 * s.wm.restTime } := by
  have hwm (x : Handler) : (s.putHandler 0 x).wm = s.wm := rfl
  rw [restAll, forHandlers, putHandler_handler, putHandler_handler, putHandler_handler, hwm, sec, Nat.mul_comm]
  have hcases : h = 0 ∨ h = 1 := by omega
  rcases hcases with rfl | rfl <;> simp

theorem restAll_hs : (restAll s).hs = { s.hs with handlers := (restAll s).hs.handlers } := by
  unfold restAll forHandlers
  rfl

/-- The Handler Sequencer restarted, before it is told of its drives (R23). -/
def State.handlersAfresh (s : State) : State :=
  readAir ((restAll (handlersLeaveRun s)).setHs { (restAll (handlersLeaveRun s)).hs with cycleNo := 0 })

theorem handlersRestart_eq : handlersRestart s = tellDrives s.handlersAfresh := rfl

theorem handlersAfresh_handler (h : Fin 2) : Handler.Restarted s.wm (s.handler h) (s.handlersAfresh.handler h) := by
  have hleft := handlersLeaveRun_leftRun (s := s) h
  have hrest := restAll_handler (s := handlersLeaveRun s) h
  have hwm : (handlersLeaveRun s).wm = s.wm := by simp [State.wm]
  rw [hleft, hwm] at hrest
  unfold State.handlersAfresh
  generalize restAll (handlersLeaveRun s) = u at hrest
  have hhandler : (readAir (u.setHs { u.hs with cycleNo := 0 })).handler h = u.handler h := rfl
  rw [hhandler, hrest]
  exact ⟨rfl, Handler.stop_q _ _, rfl, rfl, Handler.stop_comp _ _, rfl, Handler.leftRun_icing _ _, Handler.leftRun_defrostDue _ _, rfl,
    rfl⟩

theorem handlersAfresh_hs : s.handlersAfresh.hs.cycleNo = 0 ∧ s.handlersAfresh.hs.outstanding = false ∧
    s.handlersAfresh.hs.dampers = Vector.replicate 12 0 := by
  obtain ⟨hdampers, -, houtstanding, -⟩ := handlersLeaveRun_hs (s := s)
  have hrest := restAll_hs (s := handlersLeaveRun s)
  unfold State.handlersAfresh
  generalize restAll (handlersLeaveRun s) = u at hrest
  generalize handlersLeaveRun s = v at *
  exact ⟨rfl, (congrArg HS.outstanding hrest).trans houtstanding, (congrArg HS.dampers hrest).trans hdampers⟩

/-! ### The Link Unit (R145, R150) -/

theorem LU.restart_fields (l : LU) : l.restart.queue = [] ∧ l.restart.after = .none ∧ l.restart.inHand = none ∧
    l.restart.events = l.events := by
  unfold LU.restart
  dsimp only
  split
  · unfold LU.answerEnded
    dsimp only
    split <;> exact ⟨rfl, rfl, rfl, rfl⟩
  · next h =>
    refine ⟨rfl, rfl, ?_, rfl⟩
    cases hin : l.inHand with
    | none => rfl
    | some f => simp [hin] at h

theorem LU.occur_enable (l : LU) (k j : EventKind) (n : Nat) (v : Int) : ((l.occur k n v).event j).enable = (l.event j).enable := by
  by_cases hk : k = j
  · rw [hk, LU.event_occur_same]
  · rw [LU.event_occur_other hk]

theorem LU.Latches.enable_eq {l m : LU} (h : l.Latches m) (k : EventKind) : (m.event k).enable = (l.event k).enable := by
  induction h with
  | refl => rfl
  | occur _ j n v ih => rw [LU.occur_enable, ih]

/-! ### The blocks restarted (R144) -/

/-- The blocks but for the lines, each by its rule (R144). -/
def State.blocksRestarted (s : State) : State :=
  zeroOutputs (dropShortTrims (renewalsRestart (emptyRecord (handlersRestart (zonesRestart (s.setBus s.bus.dropCascade))))))

/-- The Link Unit and the State Controller restarted (R144). -/
def State.linkRestarted (s : State) : State :=
  let link := s.setLu s.lu.restart
  link.setSc { link.sc with parkRequest := false, wakeHeld := false }

/-- The state in which the part enters RUN after a RESTART (R144). -/
def State.restarted (s : State) : State := (linesRestart s.blocksRestarted).linkRestarted

@[simp] theorem linkRestarted_frame : s.linkRestarted.zr = s.zr ∧ s.linkRestarted.hs = s.hs ∧ s.linkRestarted.pa = s.pa ∧
    s.linkRestarted.rs = s.rs ∧ s.linkRestarted.su = s.su ∧ s.linkRestarted.ou = s.ou ∧ s.linkRestarted.ml = s.ml ∧
    s.linkRestarted.pl = s.pl ∧ s.linkRestarted.bus = s.bus ∧ s.linkRestarted.pins = s.pins ∧ s.linkRestarted.eeprom = s.eeprom ∧
    s.linkRestarted.tenth = s.tenth ∧ s.linkRestarted.free = s.free ∧ s.linkRestarted.pending = s.pending :=
  ⟨rfl, rfl, rfl, rfl, rfl, rfl, rfl, rfl, rfl, rfl, rfl, rfl, rfl, rfl⟩

theorem linkRestarted_lu : s.linkRestarted.lu = s.lu.restart := rfl

theorem linkRestarted_sc : s.linkRestarted.sc = { s.sc with parkRequest := false, wakeHeld := false } := rfl

theorem restartEffect_eq : restartEffect s = enterRun s.restarted := by
  unfold restartEffect State.restarted State.blocksRestarted State.linkRestarted
  dsimp only

theorem restarted_zr : s.restarted.zr = { s.zr with
    zones := s.zr.zones.map Zone.restarted, cycleTimer := none, cycleNo := 0, outstanding := false, deferred := false } := by
  have hzr : s.restarted.zr = (zonesRestart (s.setBus s.bus.dropCascade)).zr := by
    simp [State.restarted, State.blocksRestarted]
  rw [hzr]
  rfl

theorem restarted_hs : s.restarted.hs = (handlersRestart (zonesRestart (s.setBus s.bus.dropCascade))).hs := by
  simp [State.restarted, State.blocksRestarted]

theorem restarted_pa : s.restarted.pa = { s.pa with record := AllotRecord.empty } := by
  have hpa : s.restarted.pa = (emptyRecord s).pa := by
    simp [State.restarted, State.blocksRestarted, emptyRecord]
  rw [hpa]
  rfl

theorem restarted_rs : s.restarted.rs = { s.rs with
    renewals := Vector.replicate 2 { Renewal.reset with interval := sec s.wm.renewalInterval } } := by
  have hrs : s.restarted.rs = (renewalsRestart (emptyRecord (handlersRestart (zonesRestart (s.setBus s.bus.dropCascade))))).rs := by
    simp [State.restarted, State.blocksRestarted]
  have hwm : (emptyRecord (handlersRestart (zonesRestart (s.setBus s.bus.dropCascade)))).wm = s.wm := by simp [State.wm]
  have hbefore : (emptyRecord (handlersRestart (zonesRestart (s.setBus s.bus.dropCascade)))).rs = s.rs := by simp
  rw [hrs, renewalsRestart, hwm, hbefore]
  rfl

theorem restarted_su : s.restarted.su = { s.su with banks := s.su.banks.map Bank.withoutShortTrim } := by
  simp only [State.restarted, State.blocksRestarted, linkRestarted_frame, linesRestart_frame, zeroOutputs_frame,
    dropShortTrims_banks, renewalsRestart_frame, emptyRecord_frame, handlersRestart_frame, zonesRestart_frame, State.setBus_su]

theorem restarted_ou : s.restarted.ou = { s.ou with channels := s.ou.channels.map Channel.zero } := by
  simp only [State.restarted, State.blocksRestarted, linkRestarted_frame, linesRestart_frame, zeroOutputs, State.setOu_ou,
    dropShortTrims_frame, renewalsRestart_frame, emptyRecord_frame, handlersRestart_frame, zonesRestart_frame, State.setBus_ou]

theorem blocksRestarted_ml : s.blocksRestarted.ml = s.ml := by simp [State.blocksRestarted]

theorem linesRestart_ml : (linesRestart s).ml.pass = PassRecord.empty ∧ (linesRestart s).lu = s.lu ∧
    (linesRestart s).ml.hostEnable = s.ml.hostEnable ∧ ∀ i, ((linesRestart s).slot i).state = (s.slot i).state := by
  have hgrant : ∃ m : ML, linesRestart s = arbitrate (s.setMl m) ∧ m.pass = PassRecord.empty ∧ m.hostEnable = s.ml.hostEnable ∧
      m.slots = s.ml.slots := ⟨_, rfl, rfl, rfl, rfl⟩
  obtain ⟨m, heq, hpass, hhost, hslots⟩ := hgrant
  obtain ⟨hp, hl⟩ := arbitrate_not_queued (s := s.setMl m) (by rw [State.setMl_ml, hpass]; decide)
  rw [heq]
  refine ⟨hp.trans hpass, hl, arbitrate_line.2.1.trans hhost, fun i => (arbitrate_slot i).fields.1.trans ?_⟩
  rw [slot_congr (s := s) hslots]

theorem restarted_ml : s.restarted.ml.pass = PassRecord.empty ∧ s.restarted.ml.hostEnable = s.ml.hostEnable ∧
    ∀ i, (s.restarted.slot i).state = (s.slot i).state := by
  obtain ⟨hpass, -, hhost, hslot⟩ := linesRestart_ml (s := s.blocksRestarted)
  have hml : s.restarted.ml = (linesRestart s.blocksRestarted).ml := linkRestarted_frame.2.2.2.2.2.2.1
  refine ⟨by rw [hml, hpass], by rw [hml, hhost, blocksRestarted_ml], fun i => ?_⟩
  rw [slot_congr (congrArg ML.slots hml), hslot, slot_congr (congrArg ML.slots blocksRestarted_ml)]

theorem restarted_lu : s.restarted.lu = s.blocksRestarted.lu.restart := by
  rw [State.restarted, linkRestarted_lu, (linesRestart_ml (s := s.blocksRestarted)).2.1]

theorem blocksRestarted_latches : s.lu.Latches s.blocksRestarted.lu := by
  have hlu : s.blocksRestarted.lu = (handlersRestart (zonesRestart (s.setBus s.bus.dropCascade))).lu := by
    simp [State.blocksRestarted]
  rw [hlu]
  exact handlersRestart_latches .refl

theorem restarted_sc : s.restarted.sc = { s.sc with parkRequest := false, wakeHeld := false } := by
  have hsc : (linesRestart s.blocksRestarted).sc = s.sc := by simp [State.blocksRestarted]
  rw [State.restarted, linkRestarted_sc, hsc]

theorem restarted_frame : s.restarted.pl = s.pl ∧ s.restarted.bus = s.bus.dropCascade ∧ s.restarted.pins = s.pins ∧
    s.restarted.eeprom = s.eeprom ∧ s.restarted.tenth = s.tenth ∧ s.restarted.free = s.free ∧ s.restarted.pending = s.pending := by
  simp [State.restarted, State.blocksRestarted]

theorem restarted_handler (h : Fin 2) : Handler.Restarted s.wm (s.handler h) (s.restarted.handler h) := by
  have hafresh := handlersAfresh_handler (s := zonesRestart (s.setBus s.bus.dropCascade)) h
  have htold := (tellDrives_told (s := (zonesRestart (s.setBus s.bus.dropCascade)).handlersAfresh)).restarted hafresh
  rw [← handlersRestart_eq] at htold
  have hhandler : s.restarted.handler h = (handlersRestart (zonesRestart (s.setBus s.bus.dropCascade))).handler h :=
    handler_congr restarted_hs h
  rw [hhandler]
  exact htold

theorem restarted_hs_fields : s.restarted.hs.cycleNo = 0 ∧ s.restarted.hs.outstanding = false ∧
    s.restarted.hs.dampers = Vector.replicate 12 0 := by
  have htold := (tellDrives_told (s := (zonesRestart (s.setBus s.bus.dropCascade)).handlersAfresh)).hs_eq
  obtain ⟨hcycle, houtstanding, hdampers⟩ := handlersAfresh_hs (s := zonesRestart (s.setBus s.bus.dropCascade))
  rw [← handlersRestart_eq] at htold
  rw [restarted_hs, htold]
  exact ⟨hcycle, houtstanding, hdampers⟩

/-! ### RESTART_EFFECT (R144) -/

theorem exec_restartEffect (h : s.lu.after = .restart) : exec .restartEffect s = .next (kick (restartEffect s)) := if_pos h

theorem enterRun_not_queued (h : s.ml.pass.state ≠ .queued) : (enterRun s).ml.pass = s.ml.pass ∧ (enterRun s).lu = s.lu := by
  have hlines := linesEnterRun_not_queued (s := s.beforeLinesEnterRun) h
  rw [← enterRun_eq_lines] at hlines
  exact hlines

theorem enterRun_slot_state (i : Fin 8) : ((enterRun s).slot i).state = (s.slot i).state := by
  have hlines := linesEnterRun_slot_state (s := s.beforeLinesEnterRun) i
  rw [← enterRun_eq_lines] at hlines
  exact hlines

theorem enterRun_hostEnable : (enterRun s).ml.hostEnable = s.ml.hostEnable := by
  have hlines := linesEnterRun_hostEnable (s := s.beforeLinesEnterRun)
  rw [← enterRun_eq_lines] at hlines
  exact hlines

theorem enterRun_restarted {w : WorkingMemory} {before : Handler} {h : Fin 2} (hs : Handler.Restarted w before (s.handler h)) :
    Handler.Restarted w before ((enterRun s).handler h) := by
  have hlines := (linesEnterRun_told (s := s.beforeLinesEnterRun)).restarted (h := h) hs
  rw [← enterRun_eq_lines] at hlines
  exact hlines

theorem kick_restartEffect : kick (restartEffect s) = (restartEffect s).setLu s.restarted.lu.takeNext := by
  have hlu : (restartEffect s).lu = s.restarted.lu := by
    rw [restartEffect_eq, (enterRun_not_queued _).2]
    rw [restarted_ml.1]
    decide
  rw [kick_awake, hlu]
  rw [restartEffect_eq, enterRun_sc]
  exact (by decide : OpState.run ≠ .parked)

theorem SU.entersRun_supply (w : WorkingMemory) (x : SU) : (x.entersRun w).supply = x.supply := by
  unfold SU.entersRun
  split <;> rfl

theorem SU.entersRun_pass (w : WorkingMemory) (x : SU) : (x.pass = .none → (x.entersRun w).pass = .supply w.scanList ∧
    (x.entersRun w).gapTimer = none ∧ (x.entersRun w).scanGap = w.scanGap) ∧
    (x.pass ≠ .none → (x.entersRun w).pass = x.pass ∧ (x.entersRun w).passNext = true) := by
  unfold SU.entersRun
  exact ⟨fun h => by rw [if_pos h]; exact ⟨rfl, rfl, rfl⟩, fun h => by rw [if_neg h]; exact ⟨rfl, rfl⟩⟩

/-- Settles O47. -/
theorem restartTakesEffect : Obligations.RestartTakesEffect := by
  intro s
  refine ⟨fun h => if_neg h, fun h => ⟨_, exec_restartEffect h, ?_⟩⟩
  rw [kick_restartEffect, restartEffect_eq]
  have hwith := enterRun_with (s := s.restarted)
  have hcycleTimer := enterRun_cycleTimer (s := s.restarted)
  have hsu := enterRun_su (s := s.restarted)
  have hhandler (i : Fin 2) := enterRun_restarted (restarted_handler (s := s) i)
  obtain ⟨hpass, -⟩ := enterRun_not_queued (s := s.restarted) (by rw [restarted_ml.1]; decide)
  have hslot := enterRun_slot_state (s := s.restarted)
  have hhost := enterRun_hostEnable (s := s.restarted)
  obtain ⟨hpl, hbus, hpins, heeprom, htenth, hfree, hpending⟩ := restarted_frame (s := s)
  obtain ⟨hrpass, hrhost, hrslot⟩ := restarted_ml (s := s)
  obtain ⟨hrcycle, hroutstanding, hrdampers⟩ := restarted_hs_fields (s := s)
  have hzr := restarted_zr (s := s)
  have hpa := restarted_pa (s := s)
  have hrs := restarted_rs (s := s)
  have hrsu := restarted_su (s := s)
  have hou := restarted_ou (s := s)
  have hsc := restarted_sc (s := s)
  have hwm : s.restarted.wm = s.wm := congrArg PL.wm hpl
  obtain ⟨hqueue, hafter, hin, hevents⟩ := s.blocksRestarted.lu.restart_fields
  have hlatches := blocksRestarted_latches (s := s)
  rw [← restarted_lu] at hqueue hafter hin hevents
  generalize enterRun s.restarted = e at *
  generalize s.restarted = r at *
  generalize s.blocksRestarted.lu = l at *
  rw [hrhost] at hhost
  rw [hwm, hrsu] at hsu
  rw [hrpass] at hpass
  have hezr : e.zr = { s.zr with
      zones := s.zr.zones.map Zone.restarted, cycleTimer := e.zr.cycleTimer, cycleNo := 0, outstanding := false, deferred := false } := by
    have h0 := congrArg State.zr hwith
    rw [hzr] at h0
    exact h0
  have hehs : e.hs = { r.hs with handlers := e.hs.handlers, accountTimer := some 100000, air := e.hs.air } := by
    have h0 := congrArg State.hs hwith
    have hair := congrArg HS.air h0
    rw [hair]
    exact h0
  have hepa : e.pa = { s.pa with record := AllotRecord.empty } := (congrArg State.pa hwith).trans hpa
  have hers : e.rs = { s.rs with renewals := Vector.replicate 2 { Renewal.reset with interval := sec s.wm.renewalInterval } } :=
    (congrArg State.rs hwith).trans hrs
  have hrecord : e.pa = { s.pa with record := e.pa.record } := by rw [hepa]
  have hrenewals : e.rs = { s.rs with renewals := e.rs.renewals } := by rw [hers]
  have heou : e.ou = { s.ou with channels := s.ou.channels.map Channel.zero } := (congrArg State.ou hwith).trans hou
  have hesc : e.sc = { s.sc with opState := .run, cadence := s.sc.pendingCadence, parkRequest := false, wakeHeld := false } := by
    have h0 := congrArg State.sc hwith
    rw [hsc] at h0
    exact h0
  rw [hsc] at hcycleTimer
  have hpasses := SU.entersRun_pass s.wm { s.su with banks := s.su.banks.map Bank.withoutShortTrim }
  rw [← hsu] at hpasses
  refine ⟨State.eq_of_blocks rfl rfl hrecord hrenewals rfl rfl rfl hesc rfl
      ((congrArg State.pl hwith).trans hpl) ((congrArg State.bus hwith).trans hbus) ((congrArg State.pins hwith).trans hpins)
      ((congrArg State.eeprom hwith).trans heeprom) ((congrArg State.tenth hwith).trans htenth)
      ((congrArg State.free hwith).trans hfree) ((congrArg State.pending hwith).trans hpending),
    congrArg ZR.cycleNo hezr, congrArg ZR.outstanding hezr, congrArg ZR.deferred hezr, ?_, fun z => ⟨?_, ?_⟩,
    (congrArg HS.cycleNo hehs).trans hrcycle, (congrArg HS.outstanding hehs).trans hroutstanding, congrArg HS.accountTimer hehs,
    fun h => ?_, congrArg (fun x => x.record.made) hepa, fun h => ?_, (congrArg SU.trimTimer hsu).trans (SU.entersRun_trimTimer _ _),
    (congrArg SU.points hsu).trans (SU.entersRun_points _ _), (congrArg SU.doors hsu).trans (SU.entersRun_doors _ _),
    (congrArg SU.supply hsu).trans (SU.entersRun_supply _ _), fun b => ?_, hpasses.1, hpasses.2, fun c => ?_, ?_, hhost, fun i => ?_,
    ?_, ?_, ?_, fun k => ?_⟩
  · cases hp : s.sc.pendingCadence
    all_goals
      rw [show (e.setLu r.lu.takeNext).zr.cycleTimer = e.zr.cycleTimer from rfl, hcycleTimer]
      dsimp only
      rw [hp]
      rfl
  · show e.zr.zones[z] = _
    rw [hezr]
    simp [State.zone]
    rfl
  · show e.hs.dampers[z] = 0
    rw [hehs, hrdampers]
    simp
  · have hx := hhandler h
    exact ⟨hx.mode, hx.q, hx.qReq, hx.net, hx.comp, hx.rest, hx.icing, hx.defrostDue, hx.blower, hx.fresh⟩
  · have hrenewal : e.rs.renewals[h] = { Renewal.reset with interval := sec s.wm.renewalInterval } := by
      rw [hers]
      simp
    refine ⟨congrArg Renewal.balance hrenewal, congrArg Renewal.state hrenewal, (congrArg Renewal.interval hrenewal).trans ?_⟩
    rw [sec, Nat.mul_comm]
  · show e.su.banks[b] = _
    rw [hsu, SU.entersRun_banks]
    simp [State.bank]
    rfl
  · show e.ou.channels[c] = _
    rw [heou]
    simp [State.channel]
    rfl
  · show e.ml.pass.state = _
    rw [hpass]
    rfl
  · exact (hslot i).trans (hrslot i)
  · show r.lu.takeNext.queue = []
    rcases r.lu.takeNext_queue with h | h <;> rw [h, hqueue]
    rfl
  · exact r.lu.takeNext_frame.2.2.2.2.2.1.trans hafter
  · exact r.lu.takeNext_frame.2.2.2.1.trans hin
  · show (r.lu.takeNext.event k).enable = _
    rw [← hlatches.enable_eq k, LU.event, r.lu.takeNext_frame.2.2.2.2.2.2, hevents]
    rfl

end Sys2Proof.Machine

/-! ## Doors (R100, R101, R74) -/

namespace Sys2Proof.Machine

variable {s : State}

/-! ### Door credits (R74) -/

theorem evaluate_balance (h k : Fin 2) : ((evaluate h s).renewal k).balance = (s.renewal k).balance := by
  unfold evaluate
  split
  · rfl
  · split
    · next c hc =>
      have hrs : (startRenewal h c s).rs = (s.putRenewal h { s.renewal h with
          state := if c = .forced then .forced else .renewing, kind := some c, timer := sec s.wm.renewalDuration }).rs := by
        unfold startRenewal
        simp [renewAir, renewFresh, renewBlower]
      have hrenewal : (startRenewal h c s).renewal k = (s.putRenewal h { s.renewal h with
          state := if c = .forced then .forced else .renewing, kind := some c, timer := sec s.wm.renewalDuration }).renewal k := by
        rw [State.renewal, State.renewal, hrs]
      rw [hrenewal, putRenewal_renewal]
      split
      · next hk => rw [hk]
      · rfl
    · rfl

theorem credit_balance (h k : Fin 2) : ((credit h s).renewal k).balance =
    if k = h then min 8 ((s.renewal h).balance + 1) else (s.renewal k).balance := by
  rw [credit, putRenewal_renewal]
  split <;> rfl

/-- A handler serves an enabled zone on the door. -/
def State.serves (s : State) (d : Fin 4) (h : Fin 2) : Bool :=
  (List.finRange 12).any fun z => (s.zone z).enabled && s.wm.zoneDoor z == some d && s.wm.zoneHandler z == h

theorem serves_iff (d : Fin 4) (h : Fin 2) : s.serves d h = true ↔
    ∃ z, (s.zone z).enabled = true ∧ s.wm.zoneDoor z = some d ∧ s.wm.zoneHandler z = h := by
  simp [State.serves, and_assoc]

theorem doorCredit_balance (d : Fin 4) (hrun : s.sc.opState = .run) (h : Fin 2) : ((doorCredit d s).renewal h).balance =
    if s.serves d h then min 8 ((s.renewal h).balance + 1) else (s.renewal h).balance := by
  rw [doorCredit, if_neg (not_not.mpr hrun)]
  show ((forHandlers _ s).renewal h).balance = _
  refine forHandlers_pointwise (fun u k => (u.renewal k).balance) (fun h u => if s.serves d h then evaluate h (credit h u) else u)
    (fun h n => if s.serves d h then min 8 (n + 1) else n) (fun i u k => ?_) s h
  split
  · rw [evaluate_balance, credit_balance]
  · split
    · next hk => rw [hk]
    · rfl

/-! ### The commands of the doors -/

theorem Door.change_eq (level : DoorLevel) (x : Door) :
    x.change level = ⟨level, none, 0, false, if level = .opened then some 100000 else none⟩ := by
  cases level <;> rfl

section
variable {d : Fin 4}

theorem exec_doorDebounceExpiry (ht : (s.door d).debounce.isSome) (hlevel : s.pins.doors[d] ≠ (s.door d).state) :
    exec (.doorDebounceExpiry d) s = .next (kick (doorWake (s.putDoor d ((s.door d).change s.pins.doors[d])))) := by
  show execDoorDebounceExpiry d s = _
  rw [execDoorDebounceExpiry]
  rw [if_neg (timer_running ht), if_neg hlevel]

/-- A second of an open door (R101): the seconds count, and at the door-credit time the opening is credited. -/
def State.doorSecond (s : State) (d : Fin 4) : State :=
  s.putDoor d { s.door d with
    openSeconds := min 65535 ((s.door d).openSeconds + 1)
    credited := (s.door d).credited || decide (s.wm.doorCreditTime ≤ min 65535 ((s.door d).openSeconds + 1))
    timer := some 100000 }

theorem exec_doorTimerExpiry (ht : (s.door d).timer.isSome) : exec (.doorTimerExpiry d) s =
    .next (if (s.door d).credited = false ∧ s.wm.doorCreditTime ≤ min 65535 ((s.door d).openSeconds + 1) then
      doorCredit d (s.doorSecond d) else s.doorSecond d) := by
  show execDoorTimerExpiry d s = _
  rw [execDoorTimerExpiry, if_neg (timer_running ht)]
  unfold State.doorSecond
  cases hcredited : (s.door d).credited <;>
    by_cases hn : s.wm.doorCreditTime ≤ min 65535 ((s.door d).openSeconds + 1) <;> simp [hn, sec]
end

/-- Settles O36. -/
theorem doorsAreDebouncedAndCounted : Obligations.DoorsAreDebouncedAndCounted := by
  intro s d x
  refine ⟨fun level => ?_, fun h => ?_, fun ht hlevel hop hsettled => ?_, fun ht hlevel hop hpark => ?_, fun h => ?_, fun ht => ?_⟩
  · show execDoorInputChange d level s = _
    rw [execDoorInputChange]
    dsimp only
    rw [debounced_eq]
    rfl
  · show execDoorDebounceExpiry d s = _
    rw [execDoorDebounceExpiry]
    exact if_pos (by rw [show (s.door d).debounce = none from h]; rfl)
  · have hwake : doorWake (s.putDoor d (x.change s.pins.doors[d])) = s.putDoor d (x.change s.pins.doors[d]) :=
      if_neg (by
        rintro ⟨hstandby, hpark⟩
        rcases hop with hop | hop
        · exact hop hstandby
        · rw [State.putDoor_sc, hop] at hpark
          exact absurd hpark (by decide))
    rw [exec_doorDebounceExpiry ht hlevel, hwake, kick_settled (s := s.putDoor d _) hsettled, Door.change_eq]
    rfl
  · have hwake : doorWake (s.putDoor d (x.change s.pins.doors[d])) = enterRun (s.putDoor d (x.change s.pins.doors[d])) :=
      if_pos ⟨hop, by rw [State.putDoor_sc, hpark]; rfl⟩
    refine ⟨_, exec_doorDebounceExpiry ht hlevel, ?_⟩
    rw [hwake, kick_eq, Door.change_eq]
    generalize hv : s.putDoor d _ = v
    have hwith := enterRun_with (s := v)
    have hsu := enterRun_su (s := v)
    generalize (kick (enterRun v)).lu = l
    generalize enterRun v = e at *
    refine ⟨?_, ?_, ?_⟩
    · rw [hwith, ← hv]
      rfl
    · rw [hwith]
      rfl
    · show e.su.doors[d] = _
      rw [hsu, SU.entersRun_doors, ← hv]
      simp [State.putDoor]
  · show execDoorTimerExpiry d s = _
    rw [execDoorTimerExpiry]
    exact if_pos (by rw [show (s.door d).timer = none from h]; rfl)
  · intro n earned
    have hrenewal (h : Fin 2) : (s.doorSecond d).renewal h = s.renewal h := rfl
    have hserves (h : Fin 2) : (s.doorSecond d).serves d h = true ↔
      ∃ z, (s.zone z).enabled = true ∧ s.wm.zoneDoor z = some d ∧ s.wm.zoneHandler z = h := serves_iff (s := s.doorSecond d) d h
    have hcredit := exec_doorTimerExpiry ht
    by_cases hearned : (s.door d).credited = false ∧ s.wm.doorCreditTime ≤ min 65535 ((s.door d).openSeconds + 1)
    · rw [if_pos hearned] at hcredit
      refine ⟨_, hcredit, ?_, fun hno => ?_, fun _ hrun h => ?_⟩
      · obtain ⟨hzr, hpa, hsu, hou, hml, hsc, hlu, hpl, hpins, heeprom, htenth, hfree, hpending⟩ := doorCredit_frame (s.doorSecond d) d
        generalize doorCredit d (s.doorSecond d) = e at *
        exact State.eq_of_blocks hzr rfl hpa rfl hsu hou hml hsc hlu hpl rfl hpins heeprom htenth hfree hpending
      · rcases hno with hno | hno
        · exact absurd hearned hno
        · have hnone : doorCredit d (s.doorSecond d) = s.doorSecond d := if_pos hno
          rw [hnone]
          exact ⟨rfl, rfl, rfl⟩
      · rw [doorCredit_balance (s := s.doorSecond d) d hrun h, hrenewal]
        simp only [hserves]
    · rw [if_neg hearned] at hcredit
      exact ⟨_, hcredit, rfl, fun _ => ⟨rfl, rfl, rfl⟩, fun h => absurd h hearned⟩

end Sys2Proof.Machine

/-! ## Points and passes (05) -/

namespace Sys2Proof.Machine

variable {s : State}

/-! ### A pass over the points -/

theorem forPoints_point (f : Fin 32 → State → State) (g : Fin 32 → Point → Point) (Inv : State → Prop)
    (hinv : ∀ p u, Inv u → Inv (f p u))
    (hpoint : ∀ p u k, Inv u → (f p u).point k = if k = p then g p (u.point p) else u.point k) {u : State} (hu : Inv u) (k : Fin 32) :
    (forPoints f u).point k = g k (u.point k) := by
  rw [forPoints, foldl_pointwise State.point f g Inv hinv hpoint (List.nodup_finRange 32) hu, if_pos (List.mem_finRange k)]

/-- A pass over numbered items reaches what its step at one item reaches, where no other step undoes it. -/
theorem foldl_reaches {ι : Type} [DecidableEq ι] {P Inv : State → Prop} {f : ι → State → State} {i : ι}
    (hP : ∀ k u, P u → P (f k u)) (hInv : ∀ k u, k ≠ i → Inv u → Inv (f k u)) (hi : ∀ u, Inv u → P (f i u)) {is : List ι}
    (his : i ∈ is) {u : State} (hu : Inv u) : P (is.foldl (fun s k => f k s) u) := by
  induction is generalizing u with
  | nil => exact absurd his List.not_mem_nil
  | cons k ks ih =>
    rw [List.foldl_cons]
    by_cases hk : k = i
    · rw [hk]
      exact foldl_induct (fun s k hs => hP k s hs) ks (hi u hu)
    · exact ih ((List.mem_cons.mp his).resolve_left (Ne.symm hk)) (hInv k u hk hu)

theorem LU.occur_latched (l : LU) (k j : EventKind) (n : Nat) (v : Int) (h : (l.event j).latched = true) :
    ((l.occur k n v).event j).latched = true := by
  by_cases hk : k = j
  · rw [hk, LU.event_occur_same]
  · rw [LU.event_occur_other hk]
    exact h

theorem LU.Latches.latched {l m : LU} (h : l.Latches m) {k : EventKind} (hl : (l.event k).latched = true) :
    (m.event k).latched = true :=
  h.keeps (P := fun l => (l.event k).latched = true) (fun hl j n v => LU.occur_latched _ j k n v hl) hl

/-! ### A point takes a reading (R95) -/

/-- A point that takes an in-range reading (R95). -/
def Point.took (shift : Nat) (t : Int) (x : Point) : Point :=
  match x.state with
  | .absent => x
  | .pending => ⟨t, .valid, 0, 0⟩
  | .valid | .held => ⟨filtered shift x.value t, .valid, 0, 0⟩
  | .failed => if x.run < 2 then { x with run := x.run + 1, age := 0 } else ⟨t, .valid, 0, 0⟩

/-- A point that takes an out-of-range reading (R95). -/
def Point.tookBad (x : Point) : Point := if x.state = .absent then x else { x with state := .failed, age := 0, run := 0 }

/-- The Sensing Unit but for its points, and the Link Unit but for its events. -/
structure PointFrame (s t : State) : Prop where
  frame : t = { s with su := { s.su with points := t.su.points }, lu := t.lu }
  latches : s.lu.Latches t.lu

theorem PointFrame.refl (s : State) : PointFrame s s := ⟨rfl, .refl⟩

theorem PointFrame.trans {s t u : State} (hst : PointFrame s t) (htu : PointFrame t u) : PointFrame s u := by
  refine ⟨?_, hst.latches.trans htu.latches⟩
  have hframe := htu.frame
  rw [hst.frame] at hframe
  exact hframe

theorem PointFrame.wm {s t : State} (h : PointFrame s t) : t.wm = s.wm := by
  rw [h.frame]
  rfl

theorem PointFrame.banks {s t : State} (h : PointFrame s t) : t.su.banks = s.su.banks := by rw [h.frame]

theorem PointFrame.foldl {ι : Type} {f : ι → State → State} (hf : ∀ i u, PointFrame u (f i u)) (is : List ι) (u : State) :
    PointFrame u (is.foldl (fun s i => f i s) u) :=
  foldl_induct (P := PointFrame u) (fun s i hs => hs.trans (hf i s)) is (.refl u)

theorem putPoint_pointFrame (p : Fin 32) (x : Point) : PointFrame s (s.putPoint p x) := ⟨rfl, .refl⟩

theorem latch_pointFrame (k : EventKind) (n : Nat) (v : Int) : PointFrame s (latch k n v s) := ⟨rfl, .occur .refl k n v⟩

theorem takeInRange_pointFrame (p : Fin 32) (t : Int) : PointFrame s (takeInRange p t s) := by
  unfold takeInRange
  dsimp only
  repeat' split
  · exact .refl s
  · exact putPoint_pointFrame p _
  · exact putPoint_pointFrame p _
  · exact putPoint_pointFrame p _
  · exact putPoint_pointFrame p _
  · exact (putPoint_pointFrame p _).trans (latch_pointFrame _ _ _)

theorem takeOutOfRange_pointFrame (p : Fin 32) : PointFrame s (takeOutOfRange p s) := by
  unfold takeOutOfRange
  dsimp only
  split
  · exact .refl s
  · exact putPoint_pointFrame p _
  all_goals exact (putPoint_pointFrame p _).trans (latch_pointFrame _ _ _)

theorem takeInRange_point (p k : Fin 32) (t : Int) :
    (takeInRange p t s).point k = if k = p then (s.point p).took (s.wm.pointShift p) t else s.point k := by
  unfold takeInRange Point.took
  dsimp only
  cases hstate : (s.point p).state with
  | absent =>
    by_cases hk : k = p
    · rw [if_pos hk, hk]
    · rw [if_neg hk]
  | pending => exact putPoint_point p k _
  | valid => exact putPoint_point p k _
  | held => exact putPoint_point p k _
  | failed =>
    dsimp only
    split
    · exact putPoint_point p k _
    · rw [latch_point]
      exact putPoint_point p k _

theorem takeOutOfRange_point (p k : Fin 32) : (takeOutOfRange p s).point k = if k = p then (s.point p).tookBad else s.point k := by
  unfold takeOutOfRange Point.tookBad
  dsimp only
  cases hstate : (s.point p).state with
  | absent =>
    by_cases hk : k = p
    · rw [if_pos hk, hk, if_pos rfl]
    · rw [if_neg hk]
  | failed =>
    refine (putPoint_point p k _).trans ?_
    rw [if_neg (show ¬ PointState.failed = .absent by decide), ← hstate]
  | pending => exact (latch_point _ _ _ _ k).trans (putPoint_point p k _)
  | valid => exact (latch_point _ _ _ _ k).trans (putPoint_point p k _)
  | held => exact (latch_point _ _ _ _ k).trans (putPoint_point p k _)

/-! ### A tap's reading reaches its points (R82) -/

/-- What a raw code makes of a point (R82). -/
def WorkingMemory.tookRaw (w : WorkingMemory) (b : Bank) (t : Fin 24) (raw : Nat) (p : Fin 32) (x : Point) : Point :=
  if w.pointEnabled p ∧ w.pointSource p = .tap t then
    if raw < 16 ∨ 4079 < raw then x.tookBad else x.took (w.pointShift p) (tapReading w p (correctedCode b raw).toNat)
  else x

theorem takeRaw_pointFrame (t : Fin 24) (raw : Nat) (p : Fin 32) : PointFrame s (takeRaw t raw p s) := by
  unfold takeRaw
  split
  · split
    · exact takeOutOfRange_pointFrame p
    · exact takeInRange_pointFrame p _
  · exact .refl s

theorem takeRaw_point (t : Fin 24) (raw : Nat) (p k : Fin 32) : (takeRaw t raw p s).point k =
    if k = p then s.wm.tookRaw (s.bank (bankOfTap t)) t raw p (s.point p) else s.point k := by
  unfold takeRaw WorkingMemory.tookRaw
  split
  · split
    · exact takeOutOfRange_point p k
    · exact takeInRange_point p k _
  · by_cases hk : k = p
    · rw [if_pos hk, hk]
    · rw [if_neg hk]

theorem forPoints_takeRaw_pointFrame (t : Fin 24) (raw : Nat) : PointFrame s (forPoints (takeRaw t raw) s) :=
  PointFrame.foldl (fun p _ => takeRaw_pointFrame t raw p) (List.finRange 32) s

theorem bank_congr {t : State} (h : t.su.banks = s.su.banks) (b : Fin 3) : t.bank b = s.bank b := by rw [State.bank, State.bank, h]

theorem forPoints_takeRaw_point (t : Fin 24) (raw : Nat) (p : Fin 32) :
    (forPoints (takeRaw t raw) s).point p = s.wm.tookRaw (s.bank (bankOfTap t)) t raw p (s.point p) := by
  refine forPoints_point (takeRaw t raw) (s.wm.tookRaw (s.bank (bankOfTap t)) t raw) (PointFrame s)
    (fun p u hu => hu.trans (takeRaw_pointFrame t raw p)) (fun p u k hu => ?_) (.refl s) p
  rw [takeRaw_point, hu.wm, bank_congr hu.banks]

/-- An event that one point's reading latches is latched after the reading of all. -/
theorem forPoints_takeRaw_latched {t : Fin 24} {raw : Nat} {p : Fin 32} {k : EventKind}
    (hp : ∀ u, PointFrame s u → u.point p = s.point p → ((takeRaw t raw p u).lu.event k).latched = true) :
    ((forPoints (takeRaw t raw) s).lu.event k).latched = true := by
  refine foldl_reaches (P := fun u => (u.lu.event k).latched = true) (Inv := fun u => PointFrame s u ∧ u.point p = s.point p) (i := p)
    (fun q u hu => (takeRaw_pointFrame t raw q).latches.latched hu) (fun q u hq hu => ⟨hu.1.trans (takeRaw_pointFrame t raw q), ?_⟩)
    (fun u hu => hp u hu.1 hu.2) (List.mem_finRange p) ⟨.refl s, rfl⟩
  rw [takeRaw_point, if_neg (Ne.symm hq)]
  exact hu.2

/-! ### The end of a pass (R81) -/

/-- The Sensing Unit after a pass (R81): the next pass at once where one is asked for, else the gap. -/
def SU.passEnded (w : WorkingMemory) (gap : Timer) (x : SU) : SU :=
  if x.passNext then
    { x with pass := .supply w.scanList, gapTimer := none, scanGap := w.scanGap, passCut := false, passNext := false }
  else { x with pass := .none, passCut := false, passNext := false, gapTimer := gap }

theorem SU.passEnded_keeps (w : WorkingMemory) (gap : Timer) (x : SU) : (x.passEnded w gap).banks = x.banks ∧
    (x.passEnded w gap).points = x.points ∧ (x.passEnded w gap).supply = x.supply ∧ (x.passEnded w gap).supplyCode = x.supplyCode := by
  unfold SU.passEnded
  split <;> exact ⟨rfl, rfl, rfl, rfl⟩

theorem SU.passEnded_gap (w : WorkingMemory) (gap : Timer) (x : SU) (h : x.passNext = false) :
    (x.passEnded w gap).pass = .none ∧ (x.passEnded w gap).gapTimer = gap := by
  rw [SU.passEnded, h]
  exact ⟨rfl, rfl⟩

theorem SU.passEnded_next (w : WorkingMemory) (gap : Timer) (x : SU) (h : x.passNext = true) :
    (x.passEnded w gap).pass = .supply w.scanList ∧ (x.passEnded w gap).gapTimer = none ∧ (x.passEnded w gap).scanGap = w.scanGap := by
  rw [SU.passEnded, h]
  exact ⟨rfl, rfl, rfl⟩

theorem endPass_stays (h : (s.sc.opState ≠ .loading ∧ s.sc.opState ≠ .waking) ∨ ∃ b, (s.bank b).trim ≠ .idle) :
    endPass s = s.setSu (s.su.passEnded s.wm s.passGap) := by
  have hno : ¬ ((s.sc.opState = .loading ∨ s.sc.opState = .waking) ∧ (!s.trimUnderWay) = true) := by
    rw [← trimUnderWay_iff] at h
    rintro ⟨hop, hidle⟩
    rcases h with ⟨hloading, hwaking⟩ | hbusy
    · rcases hop with hop | hop
      · exact hloading hop
      · exact hwaking hop
    · rw [hbusy] at hidle
      exact absurd hidle (by decide)
  rw [endPass, if_neg hno]
  unfold SU.passEnded
  split <;> rfl

theorem endPass_complete (hop : s.sc.opState = .loading ∨ s.sc.opState = .waking) (h : ∀ b, (s.bank b).trim = .idle) :
    endPass s = enterRun (s.setSu { s.su with pass := .none, passCut := false, passNext := false }) := by
  rw [endPass, if_pos ⟨hop, by rw [trimUnderWay_eq_false_iff.mpr h]; rfl⟩]

/-! ### TAP_READING -/

theorem WorkingMemory.curvePoint_of (w : WorkingMemory) (p : Fin 32) (n : Nat) :
    w.curvePoint (w.pointCurveB p) n = w.int ((if w.int (200 + 5 * p.val + 3) = 1 then 465 else 432) + n) := by
  unfold WorkingMemory.curvePoint WorkingMemory.pointCurveB pointParam
  simp

theorem filtered_zero (value t : Int) : filtered 0 value t = t := by
  simp [filtered, floorDiv]

theorem filtered_succ (k : Nat) (value t : Int) : filtered (k + 1) value t = value + Int.fdiv (t - value + 2 ^ k) (2 ^ (k + 1)) := by
  simp [filtered, floorDiv]

theorem takeInRange_restored {p : Fin 32} {t : Int} (hstate : (s.point p).state = .failed) (hrun : (s.point p).run = 2) :
    ((takeInRange p t s).lu.event .sensorRestored).latched = true := by
  unfold takeInRange
  dsimp only
  rw [hstate]
  dsimp only
  rw [if_neg (by omega), latch_event]

theorem takeOutOfRange_failed {p : Fin 32}
    (hstate : (s.point p).state = .pending ∨ (s.point p).state = .valid ∨ (s.point p).state = .held) :
    ((takeOutOfRange p s).lu.event .sensorFailed).latched = true := by
  unfold takeOutOfRange
  dsimp only
  rcases hstate with h | h | h
  all_goals
    rw [h]
    dsimp only
    rw [latch_event]

section
variable {i : Fin 24} {rest : List (Fin 24)} {raw : Code} (hpass : s.su.pass = .list (i :: rest))
include hpass

theorem exec_tapReading : exec (.tapReading raw) s = .next (kick (listFrom rest (forPoints (takeRaw i raw.toNat) s))) := by
  show execTapReading raw s = _
  rw [execTapReading, hpass]
end

theorem listFrom_goes {rest : List (Fin 24)} (hcut : s.su.passCut = false) (hrest : rest ≠ []) :
    listFrom rest s = s.setSu { s.su with pass := .list rest } := if_neg (by simp [hcut, hrest])

theorem listFrom_ends {rest : List (Fin 24)} (h : rest = [] ∨ s.su.passCut = true) : listFrom rest s = endPass s :=
  if_pos (Or.symm h)

/-- A pass that goes on or ends outside the first trims touches the Sensing Unit alone. -/
theorem listFrom_su {rest : List (Fin 24)} (hop : s.sc.opState ≠ .loading ∧ s.sc.opState ≠ .waking) :
    listFrom rest s = s.setSu (listFrom rest s).su := by
  by_cases h : rest = [] ∨ s.su.passCut = true
  · rw [listFrom_ends h, endPass_stays (.inl hop)]
    rfl
  · push Not at h
    obtain ⟨hrest, hcut⟩ := h
    rw [listFrom_goes (by simpa using hcut) hrest]
    rfl

/-- Settles O34. -/
theorem tapReadingsReachTheirPoints : Obligations.TapReadingsReachTheirPoints := by
  intro s i rest raw hpass hloading hwaking b c good
  refine ⟨_, exec_tapReading hpass, ?_⟩
  have hframe := forPoints_takeRaw_pointFrame (s := s) i raw.toNat
  have hpoint := forPoints_takeRaw_point (s := s) i raw.toNat
  have hrestored (p : Fin 32) := forPoints_takeRaw_latched (s := s) (t := i) (raw := raw.toNat) (p := p) (k := .sensorRestored)
  have hfailed (p : Fin 32) := forPoints_takeRaw_latched (s := s) (t := i) (raw := raw.toNat) (p := p) (k := .sensorFailed)
  generalize forPoints (takeRaw i raw.toNat) s = u at *
  have hop : u.sc.opState ≠ .loading ∧ u.sc.opState ≠ .waking := by
    rw [hframe.frame]
    exact ⟨hloading, hwaking⟩
  have hlist := listFrom_su (rest := rest) hop
  have hgoes (hrest : rest ≠ []) (hcut : s.su.passCut = false) : listFrom rest u = u.setSu { u.su with pass := .list rest } :=
    listFrom_goes (by rw [hframe.frame]; exact hcut) hrest
  have hends (h : rest = [] ∨ s.su.passCut = true) : listFrom rest u = u.setSu (u.su.passEnded u.wm u.passGap) := by
    rw [listFrom_ends (by rw [hframe.frame]; exact h), endPass_stays (.inl hop)]
  have hkept : (listFrom rest u).su.banks = s.su.banks ∧ (listFrom rest u).su.points = u.su.points := by
    by_cases h : rest = [] ∨ s.su.passCut = true
    · rw [hends h]
      exact ⟨(SU.passEnded_keeps _ _ _).1.trans hframe.banks, (SU.passEnded_keeps _ _ _).2.1⟩
    · push Not at h
      rw [hgoes h.1 (by simpa using h.2)]
      exact ⟨hframe.banks, rfl⟩
  have hgap : u.passGap = match s.sc.opState with
      | .run => some (100 * s.su.scanGap)
      | .standby => some 1000000
      | .loading | .waking | .parked => none := by
    have hsc : u.sc = s.sc := by rw [hframe.frame]
    have hscan : u.su.scanGap = s.su.scanGap := by rw [hframe.frame]
    rw [State.passGap, hsc, hscan]
    cases hstate : s.sc.opState with
    | loading => exact absurd hstate hloading
    | waking => exact absurd hstate hwaking
    | run => simp only [ms, Nat.mul_comm]
    | standby => rfl
    | parked => rfl
  have hsu : u.su = { s.su with points := u.su.points } := by rw [hframe.frame]
  have hwm := hframe.wm
  rw [kick_eq]
  have hevent := kick_event (listFrom rest u)
  have hlu : (listFrom rest u).lu = u.lu := by rw [hlist]; rfl
  have hv : (listFrom rest u) = { s with su := (listFrom rest u).su, lu := u.lu } := by
    have hu := hframe.frame
    generalize listFrom rest u = v at *
    rw [hlist]
    generalize v.su = x
    rw [hu]
    rfl
  generalize hl : (kick (listFrom rest u)).lu = l at *
  have hpoints (p : Fin 32) : ((listFrom rest u).setLu l).point p = u.point p := by
    rw [State.point, State.point]
    exact congrArg (fun x : Vector Point 32 => x[p]) hkept.2
  refine ⟨?_, hkept.1, fun hrest hcut => ?_, fun h => ⟨fun hnext => ?_, fun hnext => ?_⟩, fun p => ?_⟩
  · rw [hv]
    rfl
  · rw [hgoes hrest hcut, hsu]
    exact ⟨rfl, rfl⟩
  · rw [hends h]
    obtain ⟨hnone, htimer⟩ := SU.passEnded_gap u.wm u.passGap u.su (by rw [hsu]; exact hnext)
    refine ⟨hnone, htimer.trans (hgap.trans ?_)⟩
    cases s.sc.opState <;> rfl
  · rw [hends h]
    obtain ⟨hnew, htimer, hscan⟩ := SU.passEnded_next u.wm u.passGap u.su (by rw [hsu]; exact hnext)
    exact ⟨hnew.trans (by rw [hwm]), htimer, hscan.trans (by rw [hwm])⟩
  · intro x curve v taken
    have hreading : tapReading s.wm p (correctedCode b raw.toNat).toNat = v := by
      unfold tapReading
      simp only [v]
      cases s.wm.pointKind p with
      | temp =>
        simp only [curveReading, WorkingMemory.curvePoint_of]
        rfl
      | co2 => rfl
      | level => rfl
    have hlatched (k : EventKind) (h : (u.lu.event k).latched = true) : (l.event k).latched = true := by
      rw [hevent, hlu]
      exact h
    have hnone (h : ¬ taken) : u.point p = x := (hpoint p).trans (if_neg h)
    have hgood (h : taken) (hg : good) : u.point p = x.took (s.wm.pointShift p) v := by
      rw [hpoint p, WorkingMemory.tookRaw, if_pos h, if_neg (by omega), ← hreading]
      rfl
    have hbad (h : taken) (hg : ¬ good) : u.point p = x.tookBad := by
      rw [hpoint p, WorkingMemory.tookRaw, if_pos h, if_pos (by omega)]
    rw [hpoints]
    refine ⟨hnone, fun h hg hx => ?_, fun h hg hx hshift => ?_, fun h hg hx k hshift => ?_, fun h hg hx hrun => ?_, fun h hg hx hrun => ?_,
      fun h hg hx => ?_, fun h hg hx => ?_⟩
    · rw [hgood h hg, Point.took, hx]
    · rw [hgood h hg, hshift]
      rcases hx with hx | hx <;> rw [Point.took, hx] <;> simp only [filtered_zero]
    · rw [hgood h hg, hshift]
      rcases hx with hx | hx <;> rw [Point.took, hx] <;> simp only [filtered_succ]
    · rw [hgood h hg, Point.took, hx]
      exact if_pos hrun
    · refine ⟨?_, hlatched _ (hrestored p fun w hw hwp => ?_)⟩
      · rw [hgood h hg, Point.took, hx]
        exact if_neg (by omega)
      · unfold takeRaw
        rw [hw.wm, if_pos h, if_neg (by omega)]
        exact takeInRange_restored (by rw [hwp]; exact hx) (by rw [hwp]; exact hrun)
    · rw [hbad h hg, Point.tookBad, if_neg hx]
    · refine hlatched _ (hfailed p fun w hw hwp => ?_)
      unfold takeRaw
      rw [hw.wm, if_pos h, if_pos (by omega)]
      exact takeOutOfRange_failed (by rw [hwp]; exact hx)

end Sys2Proof.Machine

/-! ## Trims and the supply watch (05) -/

namespace Sys2Proof.Machine

variable {s t u : State}

theorem forPoints_pointFrame {f : Fin 32 → State → State} (hf : ∀ p u, PointFrame u (f p u)) : PointFrame s (forPoints f s) :=
  PointFrame.foldl hf (List.finRange 32) s

/-! ### Points that fail or are held (R83, R86, R88, R97) -/

theorem holdPoint_point (p k : Fin 32) : (holdPoint p s).point k =
    if k = p then (if (s.point p).state = .valid then { s.point p with state := .held } else s.point p) else s.point k := by
  unfold holdPoint
  split
  · exact putPoint_point p k _
  · by_cases hk : k = p
    · rw [if_pos hk, hk]
    · rw [if_neg hk]

theorem holdPoint_pointFrame (p : Fin 32) : PointFrame s (holdPoint p s) := by
  unfold holdPoint
  split
  · exact putPoint_pointFrame p _
  · exact .refl s

/-- A point that a hold reaches, if it does. -/
def Point.heldIf (b : Bool) (x : Point) : Point := if b = true ∧ x.state = .valid then { x with state := .held } else x

/-- The points of a choice are held. -/
def holdPoints (chosen : WorkingMemory → Fin 32 → Bool) (s : State) : State :=
  forPoints (fun p s => if chosen s.wm p then holdPoint p s else s) s

theorem holdPoints_pointFrame (chosen : WorkingMemory → Fin 32 → Bool) : PointFrame s (holdPoints chosen s) := by
  refine forPoints_pointFrame (fun p u => ?_)
  split
  · exact holdPoint_pointFrame p
  · exact .refl u

theorem holdPoints_lu (chosen : WorkingMemory → Fin 32 → Bool) : (holdPoints chosen s).lu = s.lu := by
  refine forPoints_keeps (·.lu) (fun p u => ?_) s
  split
  · unfold holdPoint
    split <;> rfl
  · rfl

theorem holdPoints_point (chosen : WorkingMemory → Fin 32 → Bool) (p : Fin 32) :
    (holdPoints chosen s).point p = (s.point p).heldIf (chosen s.wm p) := by
  refine forPoints_point _ (fun p x => x.heldIf (chosen s.wm p)) (PointFrame s) (fun p u hu => ?_) (fun p u k hu => ?_) (.refl s) p
  · split
    · exact hu.trans (holdPoint_pointFrame p)
    · exact hu
  · unfold Point.heldIf
    rw [hu.wm]
    by_cases hc : chosen s.wm p = true
    · rw [if_pos hc, holdPoint_point]
      simp only [hc, true_and]
    · rw [if_neg hc]
      by_cases hk : k = p
      · rw [if_pos hk, hk, if_neg (fun h => hc h.1)]
      · rw [if_neg hk]

theorem onTap_iff (w : WorkingMemory) (p : Fin 32) : w.onTap p = true ↔ w.pointEnabled p = true ∧ ∃ i, w.pointSource p = .tap i := by
  unfold WorkingMemory.onTap
  cases w.pointSource p <;> simp

theorem onBank_iff (w : WorkingMemory) (b : Fin 3) (p : Fin 32) : w.onBank b p = true ↔
    w.pointEnabled p = true ∧ ∃ i, w.pointSource p = .tap i ∧ i.val / 8 = b.val := by
  unfold WorkingMemory.onBank
  cases w.pointSource p with
  | tap t =>
    simp only [bankOfTap, Bool.and_eq_true, beq_iff_eq, Fin.ext_iff, PointSource.tap.injEq]
    exact and_congr_right fun _ => ⟨fun h => ⟨t, rfl, h⟩, fun ⟨i, hi, h⟩ => by rw [hi]; exact h⟩
  | slot i j => simp

theorem failPoint_point (p k : Fin 32) (c : Int) : (failPoint p c s).point k =
    if k = p then { s.point p with state := .failed, run := 0 } else s.point k := by
  unfold failPoint
  dsimp only
  split
  · exact putPoint_point p k _
  · exact (latch_point _ _ _ _ k).trans (putPoint_point p k _)

theorem failPoint_pointFrame (p : Fin 32) (c : Int) : PointFrame s (failPoint p c s) := by
  unfold failPoint
  dsimp only
  split
  · exact putPoint_pointFrame p _
  · exact (putPoint_pointFrame p _).trans (latch_pointFrame _ _ _)

theorem failPoint_event (p : Fin 32) (c : Int) {k : EventKind} (hk : k ≠ .sensorFailed) :
    (failPoint p c s).lu.event k = s.lu.event k := by
  unfold failPoint
  dsimp only
  split
  · rfl
  · exact LU.event_occur_other (Ne.symm hk) _ _ _

/-- The points of a choice fail. -/
def failPoints (chosen : WorkingMemory → Fin 32 → Bool) (c : Int) (s : State) : State :=
  forPoints (fun p s => if chosen s.wm p then failPoint p c s else s) s

theorem failPoints_pointFrame (chosen : WorkingMemory → Fin 32 → Bool) (c : Int) : PointFrame s (failPoints chosen c s) := by
  refine forPoints_pointFrame (fun p u => ?_)
  split
  · exact failPoint_pointFrame p c
  · exact .refl u

theorem failPoints_event (chosen : WorkingMemory → Fin 32 → Bool) (c : Int) {k : EventKind} (hk : k ≠ .sensorFailed) :
    (failPoints chosen c s).lu.event k = s.lu.event k := by
  refine forPoints_keeps (fun u => u.lu.event k) (fun p u => ?_) s
  split
  · exact failPoint_event p c hk
  · rfl

theorem failPoints_point (chosen : WorkingMemory → Fin 32 → Bool) (c : Int) (p : Fin 32) : (failPoints chosen c s).point p =
    if chosen s.wm p then { s.point p with state := .failed, run := 0 } else s.point p := by
  refine forPoints_point _ (fun p x => if chosen s.wm p then { x with state := .failed, run := 0 } else x) (PointFrame s)
    (fun p u hu => ?_) (fun p u k hu => ?_) (.refl s) p
  · split
    · exact hu.trans (failPoint_pointFrame p c)
    · exact hu
  · rw [hu.wm]
    by_cases hc : chosen s.wm p = true
    · rw [if_pos hc, if_pos hc, failPoint_point]
    · rw [if_neg hc, if_neg hc]
      by_cases hk : k = p
      · rw [if_pos hk, hk]
      · rw [if_neg hk]

theorem failBankPoints_eq (b : Fin 3) : failBankPoints b s = failPoints (fun w => w.onBank b) causeBank s := rfl

theorem failSlotPoints_eq (i : Fin 8) : failSlotPoints i s = failPoints (fun w => w.onSlot i) causeSlot s := rfl

/-! ### Entry to RUN: the events it can latch (R127) -/

theorem arbitrate_event {k : EventKind} (hk : k ≠ .passDone) : (arbitrate s).lu.event k = s.lu.event k := by
  have hpass (u : State) : (grantPass u).lu.event k = u.lu.event k := by
    unfold grantPass
    split
    · rfl
    · split
      · rfl
      · split
        · exact LU.event_occur_other (Ne.symm hk) _ _ _
        · rfl
  unfold arbitrate
  split
  · rfl
  · simp only [grantProbe_frame, grantRead_frame, hpass, grantDrive_frame]

theorem linesEnterRun_event {k : EventKind} (hk : k ≠ .passDone) : (linesEnterRun s).lu.event k = s.lu.event k := by
  unfold linesEnterRun
  split
  · rw [openLine_eq, arbitrate_event hk, lineOpened_lu]
  · rfl

theorem enterRun_event {k : EventKind} (hk : k ≠ .passDone) : (enterRun s).lu.event k = s.lu.event k := by
  rw [enterRun_eq_lines, linesEnterRun_event hk]
  rfl

/-! ### The arithmetic of the trims (R87, R89) -/

theorem sumCodes_eq (l : List Code) : sumCodes l = (l.map BitVec.toNat).sum := by
  have hfold (l : List Code) (n : Nat) : l.foldl (fun n c => n + c.toNat) n = n + (l.map BitVec.toNat).sum := by
    induction l generalizing n with
    | nil => simp
    | cons c cs ih =>
      rw [List.foldl_cons, ih]
      simp [Nat.add_assoc]
  rw [sumCodes, hfold, Nat.zero_add]

/-- The Sensing Unit but for its banks and points, and the Link Unit but for its events. -/
structure BankFrame (s t : State) : Prop where
  frame : t = { s with su := { s.su with banks := t.su.banks, points := t.su.points }, lu := t.lu }
  latches : s.lu.Latches t.lu

theorem PointFrame.bankFrame (h : PointFrame s t) : BankFrame s t := by
  refine ⟨?_, h.latches⟩
  have hframe := h.frame
  generalize t.lu = l at hframe
  rw [hframe]

theorem BankFrame.trans (hst : BankFrame s t) (htu : BankFrame t u) : BankFrame s u := by
  refine ⟨?_, hst.latches.trans htu.latches⟩
  have hframe := htu.frame
  rw [hst.frame] at hframe
  exact hframe

theorem putBank_bankFrame (b : Fin 3) (x : Bank) : BankFrame s (s.putBank b x) := ⟨rfl, .refl⟩

section
variable (b : Fin 3) (lo hi : Nat)

theorem endFullTrim_bankFrame : BankFrame s (endFullTrim b lo hi s) := by
  unfold endFullTrim
  dsimp only
  split
  · exact putBank_bankFrame b _
  · rw [failBankPoints_eq]
    exact ((putBank_bankFrame b _).trans (latch_pointFrame _ _ _).bankFrame).trans (failPoints_pointFrame _ _).bankFrame

theorem endFullTrim_installed {o g : Int} (h : fullCorrection lo hi = some (o, g)) : endFullTrim b lo hi s =
    s.putBank b ⟨o, g, false, .idle, .full, .installed, lo, hi⟩ := by
  rw [endFullTrim]
  dsimp only
  rw [h]

theorem endFullTrim_limit (h : fullCorrection lo hi = none) : endFullTrim b lo hi s =
    failPoints (fun w => w.onBank b) causeBank (latch .trimLimit b (trimLimitValue lo hi) (s.putBank b { s.bank b with
      failed := true, trim := .idle, lastTrim := .full, lastOutcome := .limit, mLo := lo, mHi := hi })) := by
  rw [endFullTrim]
  dsimp only
  rw [h]
  rfl

end

theorem fullCorrection_eq (lo hi : Nat) :
    let span : Int := (hi : Int) - lo
    let g := roundHalfAway (4096 * (3072 - span)) span
    let o := 512 - (lo : Int) - Int.fdiv (lo * g + 2048) 4096
    fullCorrection lo hi = if 0 < span ∧ -128 ≤ g ∧ g ≤ 127 ∧ -64 ≤ o ∧ o ≤ 63 then some (o, g) else none := by
  intro span g o
  unfold fullCorrection
  dsimp only
  by_cases hspan : span ≤ 0
  · rw [if_pos hspan, if_neg (fun h => absurd h.1 (by omega))]
  · rw [if_neg hspan]
    show (if -128 ≤ g ∧ g ≤ 127 ∧ -64 ≤ o ∧ o ≤ 63 then some (o, g) else none) = _
    by_cases hrange : -128 ≤ g ∧ g ≤ 127 ∧ -64 ≤ o ∧ o ≤ 63
    · rw [if_pos hrange, if_pos ⟨by omega, hrange⟩]
    · rw [if_neg hrange, if_neg (fun h => hrange h.2)]

theorem trimLimitValue_eq (lo hi : Nat) :
    let span : Int := (hi : Int) - lo
    let g := roundHalfAway (4096 * (3072 - span)) span
    let o := 512 - (lo : Int) - Int.fdiv (lo * g + 2048) 4096
    trimLimitValue lo hi = if span ≤ 0 then 0 else if -128 ≤ g ∧ g ≤ 127 then o else g := by
  intro span g o
  rfl

theorem endShortTrim_eq (b : Fin 3) (lo hi : Nat) :
    let span : Int := (hi : Int) - lo
    let g := roundHalfAway (4096 * (3072 - span)) span
    let o := 512 - (lo : Int) - Int.fdiv (lo * g + 2048) 4096
    let step (x target : Int) := if x < target then x + 1 else if target < x then x - 1 else x
    endShortTrim b lo hi s = s.putBank b { s.bank b with
      offset := if 0 < span then max (-64) (min 63 (step (s.bank b).offset o)) else (s.bank b).offset
      gain := if 0 < span then max (-128) (min 127 (step (s.bank b).gain g)) else (s.bank b).gain
      trim := .idle, lastTrim := .short, lastOutcome := .stepped, mLo := lo, mHi := hi } := by
  intro span g o step
  unfold endShortTrim
  dsimp only
  by_cases hspan : span ≤ 0
  · rw [if_pos hspan, if_neg (by omega), if_neg (by omega)]
  · rw [if_neg hspan, if_pos (by omega), if_pos (by omega)]
    rfl

/-! ### After a trim (R81) -/

/-- What follows the trim of a bank: the list goes on, the pass ends, or the first trims are complete and the part enters RUN. -/
theorem afterTrim_goes {b : Fin 3} {list : List (Fin 24)} (hcut : s.su.passCut = false)
    (hop : s.sc.opState = .run ∨ s.sc.opState = .standby) : afterTrim b list s =
      listFrom (list.filter fun t => !(some b == some (bankOfTap t)) && !(s.bank (bankOfTap t)).failed) s := by
  rw [afterTrim, hcut]
  exact if_pos hop

theorem afterTrim_ends {b : Fin 3} {list : List (Fin 24)}
    (h : s.su.passCut = true ∨ ¬ (s.sc.opState = .run ∨ s.sc.opState = .standby)) : afterTrim b list s = endPass s := by
  unfold afterTrim
  by_cases hcut : s.su.passCut = true
  · rw [if_pos hcut]
  · rw [if_neg hcut]
    exact if_neg (h.resolve_left hcut)

theorem left_congr {b : Fin 3} (list : List (Fin 24)) {v : State} (hbank : ∀ b', b' ≠ b → v.bank b' = s.bank b') :
    (list.filter fun t => !(some b == some (bankOfTap t)) && !(v.bank (bankOfTap t)).failed) =
      list.filter fun i => decide (i.val / 8 ≠ b.val) && !(s.bank ⟨i.val / 8, by omega⟩).failed := by
  refine List.filter_congr fun i _ => ?_
  by_cases hi : i.val / 8 = b.val
  · have hb : bankOfTap i = b := Fin.ext hi
    rw [hb]
    simp [hi]
  · have hb : bankOfTap i ≠ b := fun h => hi (congrArg Fin.val h)
    have hne : (b == bankOfTap i) = false := beq_eq_false_iff_ne.mpr (Ne.symm hb)
    rw [hbank _ hb]
    simp only [hi, Option.some_beq_some, hne, Bool.not_false, Bool.true_and, ne_eq, not_false_eq_true, decide_true]
    rfl

theorem passGap_eq (s : State) : s.passGap = match s.sc.opState with
    | .loading | .waking => some 1000
    | .run => some (100 * s.su.scanGap)
    | .standby => some 1000000
    | .parked => none := by
  unfold State.passGap
  cases s.sc.opState <;> simp only [ms, sec, Nat.mul_comm] <;> rfl

/-- The end of a pass, as a pass that has ended shows it (R81). -/
def SU.Ended (s : State) (x : SU) : Prop :=
  (s.su.passNext = false → x.pass = .none ∧ x.gapTimer = s.passGap) ∧
  (s.su.passNext = true → x.pass = .supply s.wm.scanList ∧ x.gapTimer = none ∧ x.scanGap = s.wm.scanGap)

theorem SU.passEnded_ended (s : State) : (s.su.passEnded s.wm s.passGap).Ended s :=
  ⟨SU.passEnded_gap _ _ _, SU.passEnded_next _ _ _⟩

theorem BankFrame.ended {v : State} (h : BankFrame s v) {x : SU} : x.Ended v ↔ x.Ended s := by
  have hsc : v.sc = s.sc := by rw [h.frame]
  have hnext : v.su.passNext = s.su.passNext := by rw [h.frame]
  have hscan : v.su.scanGap = s.su.scanGap := by rw [h.frame]
  have hwm : v.wm = s.wm := by rw [h.frame]; rfl
  unfold SU.Ended
  rw [passGap_eq, passGap_eq, hsc, hnext, hscan, hwm]

section
variable {b : Fin 3} {list : List (Fin 24)} {v : State}

/-- A pass goes on after a trim, or ends, without an entry to RUN. -/
theorem afterTrim_stays (h : ¬ ((v.sc.opState = .loading ∨ v.sc.opState = .waking) ∧ ∀ b', (v.bank b').trim = .idle)) :
    let left := list.filter fun t => !(some b == some (bankOfTap t)) && !(v.bank (bankOfTap t)).failed
    ∃ x : SU, afterTrim b list v = v.setSu x ∧ x.banks = v.su.banks ∧ x.points = v.su.points ∧
      (v.sc.opState = .run ∨ v.sc.opState = .standby → v.su.passCut = false → left ≠ [] → x.pass = .list left) ∧
      ((v.sc.opState = .loading ∨ v.sc.opState = .waking) ∨ v.sc.opState = .parked ∨ v.su.passCut = true ∨ left = [] → x.Ended v) := by
  intro left
  have hstays : endPass v = v.setSu (v.su.passEnded v.wm v.passGap) := by
    refine endPass_stays ?_
    by_cases hop : v.sc.opState = .loading ∨ v.sc.opState = .waking
    · right
      by_contra hidle
      push Not at hidle
      exact h ⟨hop, hidle⟩
    · left
      push Not at hop
      exact hop
  obtain ⟨hbanks, hpoints, -, -⟩ := SU.passEnded_keeps v.wm v.passGap v.su
  by_cases hgo : (v.sc.opState = .run ∨ v.sc.opState = .standby) ∧ v.su.passCut = false
  · rw [afterTrim_goes hgo.2 hgo.1]
    by_cases hleft : left = []
    · refine ⟨_, (listFrom_ends (.inl hleft)).trans hstays, hbanks, hpoints, fun _ _ hne => absurd hleft hne, fun _ =>
        SU.passEnded_ended v⟩
    · refine ⟨_, listFrom_goes hgo.2 hleft, rfl, rfl, fun _ _ _ => rfl, fun hends => ?_⟩
      rcases hgo.1 with hop | hop <;> rcases hends with (he | he) | he | he | he <;>
        simp [hop, hgo.2, hleft] at he
  · refine ⟨_, (afterTrim_ends ?_).trans hstays, hbanks, hpoints, fun hop hcut _ => absurd ⟨hop, hcut⟩ hgo, fun _ =>
      SU.passEnded_ended v⟩
    by_cases hcut : v.su.passCut = true
    · exact .inl hcut
    · exact .inr fun hop => hgo ⟨hop, by simpa using hcut⟩

/-- The last of the first trims leads to RUN (R134). -/
theorem afterTrim_complete (hop : v.sc.opState = .loading ∨ v.sc.opState = .waking) (hidle : ∀ b', (v.bank b').trim = .idle) :
    afterTrim b list v = enterRun (v.setSu { v.su with pass := .none, passCut := false, passNext := false }) := by
  rw [afterTrim_ends, endPass_complete hop hidle]
  right
  rcases hop with hop | hop <;> simp [hop]
end

theorem SU.entersRun_scanGap (w : WorkingMemory) (x : SU) (h : x.pass = .none) : (x.entersRun w).pass = .supply w.scanList ∧
    (x.entersRun w).gapTimer = none ∧ (x.entersRun w).scanGap = w.scanGap := (x.entersRun_pass w).1 h

theorem codeMean_eq (l : List Code) (n : Nat) : codeMean l n = ((l.map BitVec.toNat).sum + n / 2) / n := by
  rw [codeMean, sumCodes_eq]

theorem mean_le (codes : Vector Code 32) : ((codes.toList.map BitVec.toNat).sum + 16) / 32 ≤ 4095 := by
  have hsum (l : List Code) : (l.map BitVec.toNat).sum ≤ 4095 * l.length := by
    induction l with
    | nil => simp
    | cons c cs ih =>
      have hc : c.toNat < 2 ^ 12 := c.isLt
      simp only [List.map_cons, List.sum_cons, List.length_cons]
      omega
  have hall := hsum codes.toList
  rw [Vector.length_toList] at hall
  omega

/-- The value of TRIM_LIMIT fits 16 bits, but for a G* out of range (R87). -/
theorem clamp_trimLimitValue (lo hi : Nat) (hlo : lo ≤ 4095) :
    let span : Int := (hi : Int) - lo
    let g := roundHalfAway (4096 * (3072 - span)) span
    let o := 512 - (lo : Int) - Int.fdiv (lo * g + 2048) 4096
    clampInt (-32768) 32767 (trimLimitValue lo hi) =
      if span ≤ 0 then 0 else if g < -128 ∨ 127 < g then max (-32768) (min 32767 g) else o := by
  intro span g o
  rw [trimLimitValue_eq]
  by_cases hspan : span ≤ 0
  · rw [if_pos hspan, if_pos hspan]
    rfl
  · rw [if_neg hspan, if_neg hspan]
    by_cases hg : -128 ≤ g ∧ g ≤ 127
    · have hprod : -128 * 4095 ≤ (lo : Int) * g ∧ (lo : Int) * g ≤ 127 * 4095 := by
        constructor <;> nlinarith [hg.1, hg.2]
      have hquot : Int.fdiv ((lo : Int) * g + 2048) 4096 = ((lo : Int) * g + 2048) / 4096 := Int.fdiv_eq_ediv_of_nonneg _ (by decide)
      have ho : -32768 ≤ o ∧ o ≤ 32767 := by
        simp only [o, hquot]
        omega
      rw [if_pos hg, if_neg (by omega)]
      show max (-32768) (min 32767 o) = o
      rw [min_eq_right ho.2, max_eq_right ho.1]
    · rw [if_neg hg, if_pos (by omega)]
      rfl

/-- Settles O33. -/
theorem trimsEnd : Obligations.TrimsEnd := by
  intro s b list trimming complete left after
  have hafter (v : State) (hv : BankFrame s v) (hidle : (v.bank b).trim = .idle) (hother : ∀ b', b' ≠ b → v.bank b' = s.bank b') :
      after (kick (afterTrim b list v)) ∧ (kick (afterTrim b list v)).su.banks = v.su.banks ∧
        (kick (afterTrim b list v)).su.points = v.su.points ∧
        ∀ k, k ≠ .passDone → (kick (afterTrim b list v)).lu.event k = v.lu.event k := by
    have hsc : v.sc = s.sc := by rw [hv.frame]
    have hcut : v.su.passCut = s.su.passCut := by rw [hv.frame]
    have hwm : v.wm = s.wm := by rw [hv.frame]; rfl
    have hml : v.ml = s.ml := by rw [hv.frame]
    have hidles : (∀ b', (v.bank b').trim = .idle) ↔ ∀ b', b' ≠ b → (s.bank b').trim = .idle := by
      refine ⟨fun h b' hb => by rw [← hother b' hb]; exact h b', fun h b' => ?_⟩
      by_cases hb : b' = b
      · rw [hb]
        exact hidle
      · rw [hother b' hb]
        exact h b' hb
    by_cases hcomplete : complete
    · obtain ⟨htrimming, hbanks⟩ := hcomplete
      have hexec := afterTrim_complete (b := b) (list := list) (v := v) (by rw [hsc]; exact htrimming) (hidles.mpr hbanks)
      obtain ⟨x, hx⟩ : ∃ x : SU, x = { v.su with pass := .none, passCut := false, passNext := false } := ⟨_, rfl⟩
      rw [← hx] at hexec
      have hwith := enterRun_with (s := v.setSu x)
      have htimer := enterRun_cycleTimer (s := v.setSu x)
      have hmode := enterRun_mode (s := v.setSu x)
      have hsu : (enterRun (v.setSu x)).su = x.entersRun s.wm := enterRun_su.trans (by rw [← hwm]; rfl)
      have hon := enterRun_line_on (s := v.setSu x)
      have hsame := enterRun_ml (s := v.setSu x)
      have hevents (k : EventKind) (hk : k ≠ .passDone) := enterRun_event (s := v.setSu x) hk
      obtain ⟨hpass, hgap, hscan⟩ := x.entersRun_scanGap s.wm (by rw [hx])
      rw [hexec, kick_eq]
      have hkick := kick_event (enterRun (v.setSu x))
      generalize (kick (enterRun (v.setSu x))).lu = l at *
      generalize enterRun (v.setSu x) = e at *
      have hrun : ¬ (s.sc.opState = .run ∨ s.sc.opState = .standby) := by
        rcases htrimming with h | h <;> simp [h]
      refine ⟨⟨fun h => absurd ⟨htrimming, hbanks⟩ h, fun h => absurd h hrun, fun h => absurd ⟨htrimming, hbanks⟩ h, fun _ =>
        ⟨?_, ?_, fun h => ?_, ?_, ?_, ?_, ?_, fun hoff hhost => ?_, fun h => ?_⟩⟩, ?_, ?_, fun k hk => ?_⟩
      · have hframe := hv.frame
        generalize v.su = y at *
        generalize v.lu = m at *
        rw [hwith, hframe]
        rfl
      · have htimer' : e.zr.cycleTimer = some (cyclePeriod s.sc.pendingCadence) := by rw [htimer, ← hsc]; rfl
        cases hp : s.sc.pendingCadence
        all_goals
          rw [show (e.setLu l).zr.cycleTimer = e.zr.cycleTimer from rfl, htimer', hp]
          rfl
      · refine (hmode h).trans ?_
        have hhs : v.hs = s.hs := by rw [hv.frame]
        rw [State.handler, State.handler, State.setSu_hs, hhs]
      · exact (congrArg SU.trimTimer hsu).trans (SU.entersRun_trimTimer _ _)
      · exact (congrArg SU.pass hsu).trans hpass
      · exact (congrArg SU.gapTimer hsu).trans hgap
      · exact (congrArg SU.scanGap hsu).trans hscan
      · exact hon (by rw [State.setSu_ml, hml]; exact hoff) (by rw [State.setSu_ml, hml]; exact hhost)
      · exact (hsame (by rw [State.setSu_ml, hml]; exact h)).trans hml
      · exact (congrArg SU.banks hsu).trans ((SU.entersRun_banks _ _).trans (by rw [hx]))
      · exact (congrArg SU.points hsu).trans ((SU.entersRun_points _ _).trans (by rw [hx]))
      · exact (hkick k).trans (hevents k hk)
    · obtain ⟨x, hx, hbanks, hpoints, hlist, hended⟩ := afterTrim_stays (b := b) (list := list) (v := v) (by
        rw [hsc, hidles]
        exact hcomplete)
      rw [left_congr list hother, hsc, hcut] at hlist hended
      rw [hx, kick_eq]
      have hevent := kick_event (v.setSu x)
      generalize (kick (v.setSu x)).lu = l at *
      refine ⟨⟨fun _ => ?_, hlist, fun _ hends => ?_, fun h => absurd h hcomplete⟩, hbanks, hpoints, fun k _ => hevent k⟩
      · have hframe := hv.frame
        generalize v.su = y at *
        generalize v.lu = m at *
        rw [hframe]
        rfl
      · obtain ⟨hgap, hnext⟩ := hv.ended.mp (hended hends)
        refine ⟨fun h => ?_, hnext⟩
        obtain ⟨hnone, htimer⟩ := hgap h
        refine ⟨hnone, htimer.trans ((passGap_eq s).trans ?_)⟩
        cases s.sc.opState <;> rfl
  have hbank (v : State) (k : Fin 3) (hbanks : (kick (afterTrim b list v)).su.banks = v.su.banks) :
      (kick (afterTrim b list v)).bank k = v.bank k := bank_congr hbanks k
  refine ⟨fun low high hpass => ?_, fun low high hpass => ?_⟩
  · intro lo hi span g o inRange
    have hlo : codeMean low.toList 32 = lo := codeMean_eq low.toList 32
    have hhi : codeMean high.toList 32 = hi := codeMean_eq high.toList 32
    have hexec : exec (.fullTrim low high) s = .next (kick (afterTrim b list (endFullTrim b lo hi s))) := by
      show execFullTrim low high s = _
      rw [execFullTrim, hpass, ← hlo, ← hhi]
    have hcorrection : fullCorrection lo hi = if inRange then some (o, g) else none := fullCorrection_eq lo hi
    by_cases hin : inRange
    · rw [if_pos hin] at hcorrection
      rw [endFullTrim_installed b lo hi hcorrection] at hexec
      obtain ⟨hafter, hbanks, hpoints, -⟩ := hafter (s.putBank b ⟨o, g, false, .idle, .full, .installed, lo, hi⟩)
        (putBank_bankFrame b _) (by rw [putBank_bank, if_pos rfl]) (fun b' hb => by rw [putBank_bank, if_neg hb])
      refine ⟨_, hexec, hafter, fun _ => ⟨?_, hpoints⟩, fun h => absurd hin h, fun b' hb => ?_⟩
      · rw [hbank _ _ hbanks, putBank_bank, if_pos rfl]
      · rw [hbank _ _ hbanks, putBank_bank, if_neg hb]
    · rw [if_neg hin] at hcorrection
      have hlimit := endFullTrim_limit (s := s) b lo hi hcorrection
      have hframe := endFullTrim_bankFrame (s := s) b lo hi
      obtain ⟨u, hu⟩ : ∃ u, u = latch .trimLimit b (trimLimitValue lo hi) (s.putBank b { s.bank b with
          failed := true, trim := .idle, lastTrim := .full, lastOutcome := .limit, mLo := lo, mHi := hi }) := ⟨_, rfl⟩
      rw [← hu] at hlimit
      have hfail := failPoints_point (s := u) (fun w => w.onBank b) causeBank
      have hfails := (failPoints_pointFrame (s := u) (fun w => w.onBank b) causeBank).banks
      have hevent := failPoints_event (s := u) (fun w => w.onBank b) causeBank (k := .trimLimit) (by decide)
      rw [← hlimit] at hfail hfails hevent
      generalize endFullTrim b lo hi s = v at *
      have hvbank (k : Fin 3) : v.bank k = if k = b then { s.bank b with
          failed := true, trim := .idle, lastTrim := .full, lastOutcome := .limit, mLo := lo, mHi := hi } else s.bank k := by
        rw [bank_congr hfails, hu, latch_bank, putBank_bank]
      obtain ⟨hafter, hbanks, hpoints, hevents⟩ := hafter v hframe (by rw [hvbank, if_pos rfl]) (fun b' hb => by rw [hvbank, if_neg hb])
      refine ⟨_, hexec, hafter, fun h => absurd h hin, fun _ => ⟨?_, ?_, fun p i hen hsrc hib => ?_⟩, fun b' hb => ?_⟩
      · rw [hbank _ _ hbanks, hvbank, if_pos rfl]
      · rw [hevents _ (by decide), hevent, hu, latch_event, clamp_trimLimitValue lo hi (mean_le low)]
        rfl
      · have hon : u.wm.onBank b p = true := by
          rw [hu]
          exact (onBank_iff s.wm b p).mpr ⟨hen, i, hsrc, hib⟩
        have hpoint : (kick (afterTrim b list v)).point p = v.point p := by rw [State.point, State.point, hpoints]
        rw [hpoint, hfail, if_pos hon]
        exact ⟨rfl, rfl⟩
      · rw [hbank _ _ hbanks, hvbank, if_neg hb]
  · intro lo hi span g o step
    have hlo : codeMean low.toList 4 = lo := codeMean_eq low.toList 4
    have hhi : codeMean high.toList 4 = hi := codeMean_eq high.toList 4
    have hexec : exec (.shortTrim low high) s = .next (kick (afterTrim b list (endShortTrim b lo hi s))) := by
      show execShortTrim low high s = _
      rw [execShortTrim, hpass, ← hlo, ← hhi]
    obtain ⟨x, hx, hshort⟩ : ∃ x : Bank, x = { s.bank b with
        offset := if 0 < span then max (-64) (min 63 (step (s.bank b).offset o)) else (s.bank b).offset
        gain := if 0 < span then max (-128) (min 127 (step (s.bank b).gain g)) else (s.bank b).gain
        trim := .idle, lastTrim := .short, lastOutcome := .stepped, mLo := lo, mHi := hi } ∧ endShortTrim b lo hi s = s.putBank b x :=
      ⟨_, rfl, endShortTrim_eq b lo hi⟩
    rw [hshort] at hexec
    obtain ⟨hafter, hbanks, hpoints, -⟩ := hafter (s.putBank b x) (putBank_bankFrame b x)
      (by rw [putBank_bank, if_pos rfl, hx]) (fun b' hb => by rw [putBank_bank, if_neg hb])
    refine ⟨_, hexec, hafter, ?_, hpoints, fun b' hb => ?_⟩
    · rw [hbank _ _ hbanks, putBank_bank, if_pos rfl, hx]
    · rw [hbank _ _ hbanks, putBank_bank, if_neg hb]

end Sys2Proof.Machine

/-! ## The supply watch (05) -/

namespace Sys2Proof.Machine

variable {s t u : State}

theorem point_congr (h : t.su.points = s.su.points) (p : Fin 32) : t.point p = s.point p := by rw [State.point, State.point, h]

/-! ### The lowest-numbered item that qualifies -/

theorem find?_finRange_eq_some {n : Nat} {p : Fin n → Bool} {i : Fin n} (h : p i = true) (hlow : ∀ k, k < i → p k = false) :
    (List.finRange n).find? p = some i := by
  rw [List.find?_eq_some_iff_getElem]
  refine ⟨h, i.val, by simp, by simp, fun j hj => ?_⟩
  have hpj := hlow ⟨j, by omega⟩ (by simpa [Fin.lt_def] using hj)
  simpa using hpj

theorem find?_finRange_eq_none {n : Nat} {p : Fin n → Bool} (h : ∀ k, p k = false) : (List.finRange n).find? p = none := by
  rw [List.find?_eq_none]
  intro k _
  rw [h k]
  decide

/-- A trim of the bank is queued. -/
def Bank.queued (x : Bank) : Bool := x.trim == .fullQueued || x.trim == .shortQueued

theorem Bank.queued_iff (x : Bank) : x.queued = true ↔ x.trim = .fullQueued ∨ x.trim = .shortQueued := by simp [Bank.queued]

theorem queuedBank_some {b : Fin 3} (h : (s.bank b).queued = true) (hlow : ∀ b', b' < b → (s.bank b').queued = false) :
    s.queuedBank = some b := find?_finRange_eq_some h hlow

theorem queuedBank_none (h : ∀ b, (s.bank b).queued = false) : s.queuedBank = none := find?_finRange_eq_none h

/-! ### The watch (R83, R84) -/

/-- The supply reads low, from the state it is in (R83, R84). -/
def State.readsLow (s : State) (code : Nat) : Prop := (s.su.supply = .normal ∧ code < 1075) ∨ (s.su.supply = .low ∧ code < 1112)

theorem supplyWatch_falls {code : Nat} (h : s.su.supply = .normal) (hc : code < 1075) : supplyWatch code s =
    holdPoints WorkingMemory.onTap (latch .supplyLow 0 code (s.setSu { s.su with supplyCode := code, supply := .low })) := by
  rw [supplyWatch, h]
  dsimp only
  rw [if_pos hc]
  rfl

theorem supplyWatch_rises {code : Nat} (h : s.su.supply = .low) (hc : 1112 ≤ code) : supplyWatch code s =
    latch .supplyOk 0 code (s.setSu { s.su with supplyCode := code, supply := .normal }) := by
  rw [supplyWatch, h]
  dsimp only
  rw [if_pos hc]
  rfl

theorem supplyWatch_stays {code : Nat} (h : (s.su.supply = .normal ∧ ¬ s.readsLow code) ∨ (s.su.supply = .low ∧ s.readsLow code)) :
    supplyWatch code s = s.setSu { s.su with supplyCode := code } := by
  unfold State.readsLow at h
  rw [supplyWatch]
  rcases h with ⟨h, hl⟩ | ⟨h, hl⟩
  · rw [h] at hl ⊢
    exact if_neg fun hc => hl (.inl ⟨rfl, hc⟩)
  · rw [h] at hl ⊢
    rcases hl with hl | hl
    · exact absurd hl.1 (by decide)
    · exact if_neg (by omega)

/-- What the watch leaves as it was, and the supply state it finds. -/
structure Watched (s v : State) (code : Nat) : Prop where
  frame : v = { s with su := { s.su with supply := v.su.supply, supplyCode := code, points := v.su.points }, lu := v.lu }
  low : s.readsLow code → v.su.supply = .low
  normal : ¬ s.readsLow code → v.su.supply = .normal

theorem supplyWatch_watched (code : Nat) : Watched s (supplyWatch code s) code := by
  by_cases hl : s.readsLow code
  · rcases hl with ⟨h, hc⟩ | ⟨h, hc⟩
    · have heq := supplyWatch_falls h hc
      obtain ⟨u, hu⟩ : ∃ u, u = latch .supplyLow 0 code (s.setSu { s.su with supplyCode := code, supply := .low }) := ⟨_, rfl⟩
      rw [← hu] at heq
      have hframe := (holdPoints_pointFrame (s := u) WorkingMemory.onTap).frame
      rw [← heq] at hframe
      generalize supplyWatch code s = v at *
      have hsu : v.su = { u.su with points := v.su.points } := congrArg State.su hframe
      have hlow : v.su.supply = .low := by rw [hsu, hu]; rfl
      refine ⟨?_, fun _ => hlow, fun hno => absurd (.inl ⟨h, hc⟩) hno⟩
      rw [hlow]
      generalize v.su.points = x at *
      generalize v.lu = l at *
      rw [hframe, hu]
      rfl
    · have hlow : s.readsLow code := .inr ⟨h, hc⟩
      rw [supplyWatch_stays (.inr ⟨h, hlow⟩)]
      exact ⟨rfl, fun _ => h, fun hno => absurd hlow hno⟩
  · cases h : s.su.supply with
    | normal =>
      rw [supplyWatch_stays (.inl ⟨h, hl⟩)]
      exact ⟨rfl, fun hno => absurd hno hl, fun _ => h⟩
    | low =>
      have hc : 1112 ≤ code := by
        by_contra hc
        exact hl (.inr ⟨h, by omega⟩)
      rw [supplyWatch_rises h hc]
      exact ⟨rfl, fun hno => absurd hno hl, fun _ => rfl⟩

/-! ### What follows the supply conversion (R81) -/

/-- What follows the supply conversion (R81). -/
def afterSupply (list : List (Fin 24)) (v : State) : State :=
  if v.su.supply = .low ∨ v.su.passCut then endPass v else beginTrim list v

theorem exec_supplyConversion {list : List (Fin 24)} (code : Code) (h : s.su.pass = .supply list) :
    exec (.supplyConversion code) s = .next (kick (afterSupply list (supplyWatch code.toNat s))) := by
  show execSupplyConversion code s = _
  simp only [execSupplyConversion, h, afterSupply]

section
variable {v : State} {list : List (Fin 24)}

theorem afterSupply_ends (h : v.su.supply = .low ∨ v.su.passCut = true) : afterSupply list v = endPass v := if_pos h

/-- The trim of a bank has begun, with its quiet (R86). -/
def State.trimBegun (v : State) (b : Fin 3) : State := trimQuiet b (v.putBank b { v.bank b with trim := .running })

theorem afterSupply_trims (hsupply : v.su.supply = .normal) (hcut : v.su.passCut = false) {b : Fin 3} (hb : v.queuedBank = some b) :
    afterSupply list v = (v.trimBegun b).setSu
      { (v.trimBegun b).su with pass := .trim b ((v.bank b).trim == .fullQueued) list } := by
  rw [afterSupply, if_neg (by rw [hsupply, hcut]; simp), beginTrim, hb]
  simp only [State.trimBegun]

theorem trimBegun_lu (b : Fin 3) : (v.trimBegun b).lu = v.lu := holdPoints_lu (fun w => w.onBank b)

theorem trimBegun_frame (b : Fin 3) : BankFrame v (v.trimBegun b) :=
  (putBank_bankFrame b _).trans (holdPoints_pointFrame fun w => w.onBank b).bankFrame

theorem trimBegun_bank (b k : Fin 3) :
    (v.trimBegun b).bank k = if k = b then { v.bank b with trim := .running } else v.bank k :=
  (bank_congr (holdPoints_pointFrame fun w => w.onBank b).banks k).trans (putBank_bank b k _)

theorem trimBegun_point (b : Fin 3) (p : Fin 32) : (v.trimBegun b).point p = (v.point p).heldIf (v.wm.onBank b p) :=
  holdPoints_point (s := v.putBank b _) (fun w => w.onBank b) p

theorem afterSupply_lists (hsupply : v.su.supply = .normal) (hcut : v.su.passCut = false) (hb : v.queuedBank = none)
    (hop : v.sc.opState = .run ∨ v.sc.opState = .standby) :
    afterSupply list v = listFrom (list.filter fun t => !(v.bank (bankOfTap t)).failed) v := by
  rw [afterSupply, if_neg (by rw [hsupply, hcut]; simp), beginTrim, hb]
  exact if_pos hop

theorem afterSupply_skips (hsupply : v.su.supply = .normal) (hcut : v.su.passCut = false) (hb : v.queuedBank = none)
    (hop : ¬ (v.sc.opState = .run ∨ v.sc.opState = .standby)) : afterSupply list v = endPass v := by
  rw [afterSupply, if_neg (by rw [hsupply, hcut]; simp), beginTrim, hb]
  exact if_neg hop

/-- No entry to RUN follows: the part is past its first trims, or a trim is under way. -/
def State.PassStays (s : State) : Prop := ¬ (s.sc.opState = .loading ∨ s.sc.opState = .waking) ∨ ∃ b, (s.bank b).trim ≠ .idle

theorem endPass_of_stays (h : v.PassStays) : endPass v = v.setSu (v.su.passEnded v.wm v.passGap) := by
  refine endPass_stays (h.imp_left fun h => ?_)
  push Not at h
  exact h

/-- What a pass does to the Sensing Unit's supply record and to the events, whatever follows the conversion. -/
structure SupplyKept (v w : State) : Prop where
  supply : w.su.supply = v.su.supply
  supplyCode : w.su.supplyCode = v.su.supplyCode
  event : ∀ k, k ≠ .passDone → w.lu.event k = v.lu.event k
  stays : v.PassStays → w = v.setSu w.su

theorem endPass_supplyKept : SupplyKept v (endPass v) := by
  by_cases h : v.PassStays
  · rw [endPass_of_stays h]
    obtain ⟨-, -, hsupply, hcode⟩ := SU.passEnded_keeps v.wm v.passGap v.su
    exact ⟨hsupply, hcode, fun _ _ => rfl, fun _ => rfl⟩
  · have hno := h
    unfold State.PassStays at h
    push Not at h
    obtain ⟨hop, hidle⟩ := h
    rw [endPass_complete hop hidle]
    obtain ⟨x, hx⟩ : ∃ x : SU, x = { v.su with pass := .none, passCut := false, passNext := false } := ⟨_, rfl⟩
    rw [← hx]
    have hsu := enterRun_su (s := v.setSu x)
    have hcode : (x.entersRun (v.setSu x).wm).supplyCode = x.supplyCode := by
      unfold SU.entersRun
      split <;> rfl
    refine ⟨?_, ?_, fun k hk => enterRun_event hk, fun hstays => absurd hstays hno⟩
    · exact (congrArg SU.supply hsu).trans ((SU.entersRun_supply _ _).trans (by rw [State.setSu_su, hx]))
    · exact (congrArg SU.supplyCode hsu).trans (hcode.trans (by rw [hx]))

theorem listFrom_supplyKept {rest : List (Fin 24)} : SupplyKept v (listFrom rest v) := by
  unfold listFrom
  split
  · exact endPass_supplyKept
  · exact ⟨rfl, rfl, fun _ _ => rfl, fun _ => rfl⟩

theorem afterSupply_supplyKept : SupplyKept v (afterSupply list v) := by
  by_cases h : v.su.supply = .low ∨ v.su.passCut = true
  · rw [afterSupply_ends h]
    exact endPass_supplyKept
  · push Not at h
    have hsupply : v.su.supply = .normal := by
      cases hs : v.su.supply with
      | normal => rfl
      | low => exact absurd hs h.1
    have hcut : v.su.passCut = false := by simpa using h.2
    cases hb : v.queuedBank with
    | some b =>
      rw [afterSupply_trims hsupply hcut hb]
      have hframe := (trimBegun_frame (v := v) b).frame
      have hlu := trimBegun_lu (v := v) b
      generalize v.trimBegun b = w at *
      refine ⟨by rw [hframe]; rfl, by rw [hframe]; rfl, fun k _ => congrArg (fun l => LU.event l k) hlu, fun _ => ?_⟩
      rw [hlu] at hframe
      rw [hframe]
      rfl
    | none =>
      by_cases hop : v.sc.opState = .run ∨ v.sc.opState = .standby
      · rw [afterSupply_lists hsupply hcut hb hop]
        exact listFrom_supplyKept
      · rw [afterSupply_skips hsupply hcut hb hop]
        exact endPass_supplyKept
end

theorem endPass_keeps : (endPass s).su.banks = s.su.banks ∧ (endPass s).su.points = s.su.points := by
  by_cases h : s.PassStays
  · rw [endPass_of_stays h]
    obtain ⟨hbanks, hpoints, -, -⟩ := SU.passEnded_keeps s.wm s.passGap s.su
    exact ⟨hbanks, hpoints⟩
  · unfold State.PassStays at h
    push Not at h
    obtain ⟨hop, hidle⟩ := h
    rw [endPass_complete hop hidle, enterRun_su, SU.entersRun_banks, SU.entersRun_points]
    exact ⟨rfl, rfl⟩

theorem listFrom_keeps {rest : List (Fin 24)} :
    (listFrom rest s).su.banks = s.su.banks ∧ (listFrom rest s).su.points = s.su.points := by
  unfold listFrom
  split
  · exact endPass_keeps
  · exact ⟨rfl, rfl⟩

section
variable {v : State} {code : Nat} (h : Watched s v code)
include h

theorem Watched.sc_eq : v.sc = s.sc := by rw [h.frame]

theorem Watched.wm_eq : v.wm = s.wm := by
  rw [h.frame]
  rfl

theorem Watched.banks_eq : v.su.banks = s.su.banks := by rw [h.frame]

theorem Watched.passCut_eq : v.su.passCut = s.su.passCut := by rw [h.frame]

theorem Watched.passStays_iff : v.PassStays ↔ s.PassStays := by
  unfold State.PassStays
  simp only [h.sc_eq, bank_congr h.banks_eq]

theorem Watched.ended {x : SU} : x.Ended v ↔ x.Ended s := by
  have hnext : v.su.passNext = s.su.passNext := by rw [h.frame]
  have hscan : v.su.scanGap = s.su.scanGap := by rw [h.frame]
  unfold SU.Ended
  rw [passGap_eq, passGap_eq, h.sc_eq, hnext, hscan, h.wm_eq]
end

/-- The points after the watch: a supply that falls holds the tap points, any other leaves them (R83). -/
theorem supplyWatch_points {code : Nat} :
    (s.su.supply = .normal → s.readsLow code → ∀ p, (supplyWatch code s).point p = (s.point p).heldIf (s.wm.onTap p)) ∧
    (s.su.supply = .low ∨ ¬ s.readsLow code → (supplyWatch code s).su.points = s.su.points) := by
  refine ⟨fun h hl p => ?_, fun h => ?_⟩
  · have hc : code < 1075 := by
      rcases hl with hl | hl
      · exact hl.2
      · rw [h] at hl
        exact absurd hl.1 (by decide)
    rw [supplyWatch_falls h hc, holdPoints_point]
    rfl
  · cases hs : s.su.supply with
    | normal =>
      rw [supplyWatch_stays (.inl ⟨hs, h.resolve_left (by rw [hs]; decide)⟩)]
      rfl
    | low =>
      by_cases hl : s.readsLow code
      · rw [supplyWatch_stays (.inr ⟨hs, hl⟩)]
        rfl
      · have hc : 1112 ≤ code := by
          by_contra hc
          exact hl (.inr ⟨hs, by omega⟩)
        rw [supplyWatch_rises hs hc]
        rfl

/-- The events of the watch (R83, R84). -/
theorem supplyWatch_event {code : Nat} (hcode : code ≤ 32767) :
    (s.su.supply = .normal → s.readsLow code → (supplyWatch code s).lu.event .supplyLow =
        { s.lu.event .supplyLow with latched := true, subject := 0, value := code } ∧
      ∀ k, k ≠ .supplyLow → (supplyWatch code s).lu.event k = s.lu.event k) ∧
    (s.su.supply = .low → ¬ s.readsLow code → (supplyWatch code s).lu.event .supplyOk =
        { s.lu.event .supplyOk with latched := true, subject := 0, value := code } ∧
      ∀ k, k ≠ .supplyOk → (supplyWatch code s).lu.event k = s.lu.event k) ∧
    ((s.su.supply = .normal ∧ ¬ s.readsLow code) ∨ (s.su.supply = .low ∧ s.readsLow code) →
      (supplyWatch code s).lu = s.lu) := by
  have hclamp : clampInt (-32768) 32767 (code : Int) = code := by
    simp only [clampInt]
    omega
  refine ⟨fun h hl => ?_, fun h hl => ?_, fun h => by rw [supplyWatch_stays h]; rfl⟩
  · have hc : code < 1075 := by
      rcases hl with hl | hl
      · exact hl.2
      · rw [h] at hl
        exact absurd hl.1 (by decide)
    rw [supplyWatch_falls h hc, holdPoints_lu]
    exact ⟨(latch_event _ _ _ _).trans (by rw [hclamp]; rfl), fun k hk => LU.event_occur_other (Ne.symm hk) _ _ _⟩
  · have hc : 1112 ≤ code := by
      by_contra hc
      exact hl (.inr ⟨h, by omega⟩)
    rw [supplyWatch_rises h hc]
    exact ⟨(latch_event _ _ _ _).trans (by rw [hclamp]; rfl), fun k hk => LU.event_occur_other (Ne.symm hk) _ _ _⟩

theorem Point.heldIf_of {b : Bool} {x : Point} : (b = true → x.state = .valid → x.heldIf b = { x with state := .held }) ∧
    (¬ b = true ∨ x.state ≠ .valid → x.heldIf b = x) := by
  refine ⟨fun hb hx => if_pos ⟨hb, hx⟩, fun h => if_neg ?_⟩
  rintro ⟨hb, hx⟩
  rcases h with h | h
  · exact h hb
  · exact h hx

end Sys2Proof.Machine

namespace Sys2Proof

open Machine

/-- Settles O32. -/
theorem supplyWatch : Obligations.SupplyWatch := by
  intro s code list hpass low trimming stays queued holds onTap ends left
  have hcode : code.toNat ≤ 32767 := by
    have := code.isLt
    omega
  have hw := supplyWatch_watched (s := s) code.toNat
  obtain ⟨hfalls, hkeeps⟩ := supplyWatch_points (s := s) (code := code.toNat)
  obtain ⟨hlowEvent, hokEvent, hnoEvent⟩ := supplyWatch_event (s := s) hcode
  have hexec := exec_supplyConversion code hpass
  generalize Machine.supplyWatch code.toNat s = v at *
  have hkept := afterSupply_supplyKept (v := v) (list := list)
  have hbank := bank_congr hw.banks_eq
  have hends (h : v.su.supply = .low ∨ v.su.passCut = true) := afterSupply_ends (list := list) h
  have htrims (hs : v.su.supply = .normal) (hc : v.su.passCut = false) (b : Fin 3) (hb : v.queuedBank = some b) :=
    afterSupply_trims (list := list) hs hc hb
  have hlists (hs : v.su.supply = .normal) (hc : v.su.passCut = false) (hb : v.queuedBank = none) :=
    afterSupply_lists (list := list) hs hc hb
  have hskips (hs : v.su.supply = .normal) (hc : v.su.passCut = false) (hb : v.queuedBank = none) :=
    afterSupply_skips (list := list) hs hc hb
  have hendKeeps := endPass_keeps (s := v)
  have hkick := kick_event (afterSupply list v)
  refine ⟨_, hexec, ?_⟩
  rw [kick_eq]
  generalize (kick (afterSupply list v)).lu = l at *
  generalize afterSupply list v = w at *
  have hstays (h : stays) : v.PassStays := hw.passStays_iff.mpr h
  have hevents (h : stays) (k : EventKind) : l.event k = v.lu.event k := by
    rw [hkick, hkept.stays (hstays h)]
    rfl
  have hpoint (p : Fin 32) : (w.setLu l).point p = w.point p := rfl
  have hended (h : stays) (hw' : w = endPass v) : ends (w.setLu l) := by
    obtain ⟨hgap, hnext⟩ := hw.ended.mp (SU.passEnded_ended v)
    have hsu : (w.setLu l).su = v.su.passEnded v.wm v.passGap := by
      rw [hw', endPass_of_stays (hstays h)]
      rfl
    refine ⟨fun hn => ?_, fun hn => ?_⟩
    · obtain ⟨hnone, htimer⟩ := hgap hn
      rw [hsu]
      refine ⟨hnone, htimer.trans ((passGap_eq s).trans ?_)⟩
      cases s.sc.opState <;> rfl
    · rw [hsu]
      exact hnext hn
  have hnormal (h : ¬ low) := hw.normal h
  have hcut (h : s.su.passCut = false) : v.su.passCut = false := hw.passCut_eq.trans h
  have hqueuedIff (b : Fin 3) : queued b ↔ (v.bank b).queued = true := by
    rw [Bank.queued_iff, hbank]
  have hcuts (h : low ∨ s.su.passCut = true) : w = endPass v :=
    hends (h.imp hw.low fun hc => hw.passCut_eq.trans hc)
  refine ⟨hkept.supplyCode.trans (by rw [hw.frame]), fun h => ?_, fun h => hkept.supply.trans (hw.low h),
    fun h => hkept.supply.trans (hnormal h), fun h hl => ⟨fun p => ?_, ?_, fun h' k hk => ?_⟩, fun h hl => ⟨?_, fun h' k hk => ?_⟩,
    fun h h' k => ?_, fun h hl => ?_, fun hl b => ?_, fun h h' => hended h' (hcuts h), fun htrimming hidle => ?_,
    fun hl hc b hb hlowest => ?_, fun hl hc hnone => ?_⟩
  · have hframe := hw.frame
    have hwv := hkept.stays (hstays h)
    show w.setLu l = { s with su := w.su, lu := l }
    generalize w.su = z at hwv ⊢
    rw [hwv, hframe]
    rfl
  · have hp : (w.setLu l).point p = (s.point p).heldIf (s.wm.onTap p) := by
      rw [hpoint, hcuts (.inl hl), point_congr hendKeeps.2, hfalls h hl]
    have hiff : onTap (fun _ => True) p ↔ s.wm.onTap p = true := by simp [onTap, onTap_iff]
    rw [hp, hiff]
    exact Point.heldIf_of
  · exact (hkick _).trans ((hkept.event _ (by decide)).trans (hlowEvent h hl).1)
  · exact (hevents h' k).trans ((hlowEvent h hl).2 k hk)
  · exact (hkick _).trans ((hkept.event _ (by decide)).trans (hokEvent h hl).1)
  · exact (hevents h' k).trans ((hokEvent h hl).2 k hk)
  · rw [hnoEvent h] at hevents
    exact hevents h' k
  · show w.su.points = _
    rw [hcuts (.inl hl), hendKeeps.2, hkeeps (.inl h)]
  · show w.bank b = _
    rw [hcuts (.inl hl), bank_congr hendKeeps.1, hbank]
  · have hidles (b : Fin 3) : (v.bank b).trim = .idle := by rw [hbank, hidle]
    have hw' : w = endPass v := by
      by_cases hstop : low ∨ s.su.passCut = true
      · exact hcuts hstop
      · push Not at hstop
        refine hskips (hnormal hstop.1) (hcut (by simpa using hstop.2)) (queuedBank_none fun b => ?_) ?_
        · rw [Bank.queued, hidles]
          rfl
        · rw [hw.sc_eq]
          rcases htrimming with h | h <;> simp [h]
    show w.sc = _
    rw [hw', endPass_complete (by rw [hw.sc_eq]; exact htrimming) hidles, enterRun_sc]
    show { v.sc with opState := .run, cadence := v.sc.pendingCadence } = _
    rw [hw.sc_eq]
  · have hfirst : v.queuedBank = some b := queuedBank_some ((hqueuedIff b).mp hb) fun b' hlt => by
      have hno := hlowest b' hlt
      rw [hqueuedIff] at hno
      simpa using hno
    have hrun := htrims (hnormal hl) (hcut hc) b hfirst
    have hbegunBank := trimBegun_bank (v := v) b
    have hbegunPoint := trimBegun_point (v := v) b
    generalize v.trimBegun b = z at *
    have hwbank (k : Fin 3) : w.bank k = if k = b then { s.bank b with trim := .running } else s.bank k := by
      rw [← hbank k, ← hbank b, ← hbegunBank k, hrun]
      rfl
    refine ⟨?_, ?_, fun b' hb' => ?_, fun p => ?_⟩
    · show w.su.pass = _
      rw [hrun, hbank]
      rfl
    · exact (hwbank b).trans (if_pos rfl)
    · exact (hwbank b').trans (if_neg hb')
    · have hp : (w.setLu l).point p = (s.point p).heldIf (s.wm.onBank b p) := by
        rw [hpoint, ← point_congr (hkeeps (.inr hl)), ← hw.wm_eq, ← hbegunPoint p, hrun]
        rfl
      have hiff : onTap (fun i => i.val / 8 = b.val) p ↔ s.wm.onBank b p = true := by
        rw [onBank_iff]
      rw [hp, hiff]
      exact Point.heldIf_of
  · have hquiet : v.queuedBank = none := queuedBank_none fun b => by
      have hno := hnone b
      rw [hqueuedIff] at hno
      simpa using hno
    by_cases hop : s.sc.opState = .run ∨ s.sc.opState = .standby
    · have hlist := hlists (hnormal hl) (hcut hc) hquiet (by rw [hw.sc_eq]; exact hop)
      have hleft : (list.filter fun t => !(v.bank (bankOfTap t)).failed) = left := by
        simp only [hbank]
        rfl
      rw [hleft] at hlist
      obtain ⟨hbanks, hpoints⟩ := listFrom_keeps (s := v) (rest := left)
      rw [← hlist] at hbanks hpoints
      refine ⟨hbanks.trans hw.banks_eq, hpoints.trans (hkeeps (.inr hl)), fun _ => ⟨fun hne => ?_, fun hnil => ?_⟩⟩
      · show w.su.pass = _
        rw [hlist, listFrom_goes (hcut hc) hne]
        rfl
      · refine hended ?_ (hlist.trans (listFrom_ends (.inl hnil)))
        left
        rintro (h | h) <;> rw [h] at hop <;> exact absurd hop (by decide)
    · have hskip := hskips (hnormal hl) (hcut hc) hquiet (by rw [hw.sc_eq]; exact hop)
      rw [← hskip] at hendKeeps
      exact ⟨hendKeeps.1.trans hw.banks_eq, hendKeeps.2.trans (hkeeps (.inr hl)), fun h => absurd h hop⟩

end Sys2Proof

/-! ## Pass-through requests and the line's setting (07) -/

namespace Sys2Proof.Machine

variable {s : State}

/-! ### Grants of a free and of a busy line (R125) -/

theorem grantDrive_idle {h : Fin 2} (hp : s.ml.exchange.isSome ∨ s.ml.drivePending[h] = false) : grantDrive h s = s := if_pos hp

theorem grantRead_busy (h : s.ml.exchange.isSome) : grantRead s = s := if_pos h

theorem grantProbe_busy (h : s.ml.exchange.isSome) : grantProbe s = s := if_pos h

theorem arbitrate_off (h : s.ml.line ≠ .on) : arbitrate s = s := if_pos h

theorem arbitrate_on (h : s.ml.line = .on) :
    arbitrate s = grantProbe (grantRead (grantPass (grantDrive 1 (grantDrive 0 s)))) := if_neg (not_not.mpr h)

theorem arbitrate_busy (h : s.ml.exchange.isSome) : arbitrate s = s := by
  by_cases hline : s.ml.line = .on
  · rw [arbitrate_on hline, grantDrive_idle (.inl h), grantDrive_idle (.inl h), grantPass, if_pos (.inl h), grantRead_busy h,
      grantProbe_busy h]
  · exact arbitrate_off hline

theorem grantPass_granted {i : Fin 8} (hx : s.ml.exchange = none) (hstate : s.ml.pass.state = .queued) (hslot : s.ml.pass.slot = some i)
    (hlock : s.writeLocked i (s.ml.pass.op.getD .read) = false) : grantPass s =
      beginExchange .passThrough i s.ml.pass.request (s.setMl { s.ml with pass := { s.ml.pass with state := .inFlight } }) := by
  rw [grantPass, if_neg (by rw [hx, hstate]; simp), hslot]
  exact if_neg (by rw [hlock]; exact Bool.false_ne_true)

theorem beginExchange_isSome (cls : ExchangeClass) (i : Fin 8) (r : ModuleRequest) : (beginExchange cls i r s).ml.exchange.isSome := rfl

theorem arbitrate_passes {i : Fin 8} (hline : s.ml.line = .on) (hx : s.ml.exchange = none)
    (hdrives : ∀ h : Fin 2, s.ml.drivePending[h] = false) (hstate : s.ml.pass.state = .queued) (hslot : s.ml.pass.slot = some i)
    (hlock : s.writeLocked i (s.ml.pass.op.getD .read) = false) : arbitrate s =
      beginExchange .passThrough i s.ml.pass.request (s.setMl { s.ml with pass := { s.ml.pass with state := .inFlight } }) := by
  rw [arbitrate_on hline, grantDrive_idle (s := s) (h := 0) (.inr (hdrives 0)), grantDrive_idle (s := s) (h := 1) (.inr (hdrives 1)),
    grantPass_granted hx hstate hslot hlock, grantRead_busy (beginExchange_isSome _ _ _), grantProbe_busy (beginExchange_isSome _ _ _)]

/-! ### PASS (R126) -/

theorem slotOfNumber_succ (i : Fin 8) : slotOfNumber (BitVec.ofNat 8 (i.val + 1)) = some i := by
  have hnat : (BitVec.ofNat 8 (i.val + 1) : Byte).toNat = i.val + 1 := by
    rw [BitVec.toNat_ofNat, Nat.mod_eq_of_lt]
    omega
  rw [slotOfNumber, dif_pos (by omega)]
  simp [hnat]

theorem slotOfNumber_none {b : Byte} (h : ¬ (1 ≤ b.toNat ∧ b.toNat ≤ 8)) : slotOfNumber b = none := dif_neg h

/-- The lock on a write to a running drive (R126). -/
theorem writeLocked_iff (i : Fin 8) (op : PassOp) : s.writeLocked i op = true ↔ op = .write ∧
    ∃ h, s.wm.slotKind i = .compressorDrive h ∧
      ((s.handler h).mode = .heat ∨ (s.handler h).mode = .cool ∨ (s.handler h).mode = .defrost) := by
  unfold State.writeLocked
  cases s.wm.slotKind i <;> simp [or_assoc]

/-- The operation of a PASS. -/
def passOp (write : Bool) : PassOp := if write then .write else .read

/-- The record of a PASS accepted (R126). -/
def passRecord (st : PassState) (i : Fin 8) (write : Bool) (item : Byte) (v : Word16) : PassRecord :=
  ⟨st, some i, some (passOp write), some item, if write then some v else none, none, none, none⟩

section
variable (i : Fin 8) (write : Bool) (item : Byte) (v : Word16) (u : State)

theorem passOwner_slot : passOwner (BitVec.ofNat 8 (i.val + 1)) (if write then 1 else 0) item v u =
    if u.wm.slotKind i = .none then (u, [7])
    else if u.ml.line ≠ .on then (u, [9] ++ num8 u.ml.pass.state.code)
    else if u.ml.pass.state ≠ .empty then (u, [3] ++ num8 u.ml.pass.state.code)
    else if u.writeLocked i (passOp write) then (u, [6] ++ num8 u.ml.pass.state.code)
    else
      let t := arbitrate (u.setMl { u.ml with pass := passRecord .queued i write item v })
      (t, [0] ++ num8 t.ml.pass.state.code) := by
  rw [passOwner, slotOfNumber_succ]
  cases write <;> rfl

end

theorem passOwner_badArg {sl op it : Byte} {v : Word16} {u : State}
    (h : ¬ (1 ≤ sl.toNat ∧ sl.toNat ≤ 8 ∧ op.toNat ≤ 1)) : passOwner sl op it v u = (u, [7]) := by
  by_cases hs : 1 ≤ sl.toNat ∧ sl.toNat ≤ 8
  · have h0 : op ≠ 0 := by
      rintro rfl
      exact h ⟨hs.1, hs.2, by decide⟩
    have h1 : op ≠ 1 := by
      rintro rfl
      exact h ⟨hs.1, hs.2, by decide⟩
    rw [passOwner, if_neg h0, if_neg h1]
    cases slotOfNumber sl <;> rfl
  · rw [passOwner, slotOfNumber_none hs]
    rfl

/-! ### PASS_RESULT (R128) -/

theorem passResultOwner_empty {u : State} (h : u.ml.pass.state = .empty) : passResultOwner u = (u, [4]) := by
  rw [passResultOwner, h]
  rfl

theorem passResultOwner_pending {u : State} (h : u.ml.pass.state = .queued ∨ u.ml.pass.state = .inFlight) :
    passResultOwner u = (u, [2] ++ num8 u.ml.pass.state.code) := by
  rw [passResultOwner]
  rcases h with h | h <;> rw [h] <;> rfl

theorem passResultOwner_done {u : State} {i : Fin 8} {op : PassOp} {it : Byte} {value : Option Word16} {o : PassOutcome}
    {st : Option ModuleStatus} {ret : Option Word16} (h : u.ml.pass = ⟨.done, some i, some op, some it, value, some o, st, ret⟩) :
    passResultOwner u = (u.setMl { u.ml with pass := PassRecord.empty }, [0] ++ u.ml.pass.resultBytes) := by
  rw [passResultOwner, show u.ml.pass.state = .done by rw [h]]
  rfl

/-- Settles O40. -/
theorem passRequestsUseTheRecord : Obligations.PassRequestsUseTheRecord := by
  intro s hs
  refine ⟨fun sl op it v h => ?_, fun i write it v => ?_, fun h => ?_, fun h => ?_, fun i op it value o st ret h => ?_⟩
  · exact request_only_answered hs 0x40 ([sl, op, it] ++ wordBytes v) (passOwner_badArg h)
  · intro sl op answer locked record
    have howner := passOwner_slot i write it v (s.withInHand 0x40 ([sl, op, it] ++ wordBytes v))
    have hlocked : s.writeLocked i (passOp write) = true ↔ locked := by
      rw [writeLocked_iff]
      refine and_congr_left fun _ => ?_
      cases write <;> decide
    refine ⟨fun hkind => ?_, fun hkind hline => ?_, fun hkind hline hstate => ?_, fun hkind hline hstate hlock => ?_,
      fun hkind hline hstate hfree hbusy => ?_, fun hkind hline hstate hfree hidle hpending => ?_⟩
    · rw [if_pos (show (s.withInHand _ _).wm.slotKind i = .none from hkind)] at howner
      exact request_only_answered hs 0x40 _ howner
    · rw [if_neg (show (s.withInHand _ _).wm.slotKind i ≠ .none from hkind),
        if_pos (show (s.withInHand _ _).ml.line ≠ .on from hline)] at howner
      exact request_only_answered hs 0x40 _ howner
    · rw [if_neg (show (s.withInHand _ _).wm.slotKind i ≠ .none from hkind),
        if_neg (show ¬ (s.withInHand _ _).ml.line ≠ .on from not_not.mpr hline),
        if_pos (show (s.withInHand _ _).ml.pass.state ≠ .empty from hstate)] at howner
      exact request_only_answered hs 0x40 _ howner
    · rw [if_neg (show (s.withInHand _ _).wm.slotKind i ≠ .none from hkind),
        if_neg (show ¬ (s.withInHand _ _).ml.line ≠ .on from not_not.mpr hline),
        if_neg (show ¬ (s.withInHand _ _).ml.pass.state ≠ .empty from not_not.mpr hstate),
        if_pos (show (s.withInHand _ _).writeLocked i (passOp write) = true from hlocked.mpr hlock),
        show (s.withInHand _ _).ml.pass.state = .empty from hstate] at howner
      exact request_only_answered hs 0x40 _ howner
    · rw [if_neg (show (s.withInHand _ _).wm.slotKind i ≠ .none from hkind),
        if_neg (show ¬ (s.withInHand _ _).ml.line ≠ .on from not_not.mpr hline),
        if_neg (show ¬ (s.withInHand _ _).ml.pass.state ≠ .empty from not_not.mpr hstate),
        if_neg (show ¬ (s.withInHand _ _).writeLocked i (passOp write) = true from fun h => hfree (hlocked.mp h))] at howner
      dsimp only at howner
      rw [arbitrate_busy (by exact hbusy)] at howner
      exact request_answered hs 0x40 _ howner rfl hs.awake
    · rw [if_neg (show (s.withInHand _ _).wm.slotKind i ≠ .none from hkind),
        if_neg (show ¬ (s.withInHand _ _).ml.line ≠ .on from not_not.mpr hline),
        if_neg (show ¬ (s.withInHand _ _).ml.pass.state ≠ .empty from not_not.mpr hstate),
        if_neg (show ¬ (s.withInHand _ _).writeLocked i (passOp write) = true from fun h => hfree (hlocked.mp h))] at howner
      have hdrives (h : Fin 2) : s.ml.drivePending[h] = false := by
        rw [hpending]
        simp
      have hunlocked : s.writeLocked i (passOp write) = false := by
        simpa using fun h => hfree (hlocked.mp h)
      have hgrant := arbitrate_passes (s := (s.withInHand 0x40 ([sl, op, it] ++ wordBytes v)).setMl
        { s.ml with pass := passRecord .queued i write it v }) hline hidle hdrives rfl rfl hunlocked
      dsimp only at howner
      rw [show (s.withInHand 0x40 ([sl, op, it] ++ wordBytes v)).ml = s.ml from rfl, hgrant] at howner
      refine (request_answered hs 0x40 _ howner rfl hs.awake).trans ?_
      cases write <;> rfl
  · exact request_only_answered hs 0x41 [] (passResultOwner_empty (u := s.withInHand 0x41 []) h)
  · exact request_only_answered hs 0x41 [] (passResultOwner_pending (u := s.withInHand 0x41 []) h)
  · refine (request_answered hs 0x41 [] (passResultOwner_done (u := s.withInHand 0x41 []) h) rfl hs.awake).trans ?_
    have hbytes : s.ml.pass.resultBytes = num8 (i.val + 1) ++ num8 op.code ++ [it] ++ num8 o.code
        ++ (if o = .answered then orAbsent8 (st.map (·.code)) ++ wordBytes (ret.getD 0) else []) := by
      rw [h]
      cases o <;> simp [PassRecord.resultBytes, orAbsent8, num8]
    rw [show (s.withInHand 0x41 []).ml = s.ml from rfl, hbytes]
    simp only [List.append_assoc]
    rfl

end Sys2Proof.Machine

/-! ## LINE_ENABLE (R130) -/

namespace Sys2Proof.Machine

variable {s v : State}

/-! ### The traffic of a line that closes (R129) -/

theorem nextClosingStop_cases (hs : List (Fin 2)) : nextClosingStop hs s = endClosing s ∨
    ∃ g i rest, nextClosingStop hs s =
      beginExchange (.closingStop g) i (s.handler g).closingStop (s.setMl { s.ml with closingLeft := rest }) := by
  induction hs with
  | nil => exact .inl rfl
  | cons g rest ih =>
    unfold nextClosingStop
    split
    · next i hi =>
      split
      · exact .inr ⟨g, i, rest, rfl⟩
      · exact ih
    · exact ih

section
variable (hline : v.ml.line = .closing)
include hline

theorem nextTraffic_closing_busy (h : v.ml.exchange.isSome) : nextTraffic v = v := by
  rw [nextTraffic, hline]
  exact if_pos h

theorem nextTraffic_closing_free (h : v.ml.exchange = none) : nextTraffic v = nextClosingStop v.ml.closingLeft v := by
  rw [nextTraffic, hline]
  exact if_neg (by rw [h]; decide)

/-- What the closing traffic leaves as it was, where the line is not to open again. -/
theorem nextTraffic_closing_frame (hoff : v.ml.hostEnable = .off ∨ v.sc.opState ≠ .run) : nextTraffic v = v.setMl { v.ml with
    line := (nextTraffic v).ml.line, exchange := (nextTraffic v).ml.exchange
    response := (nextTraffic v).ml.response, closingLeft := (nextTraffic v).ml.closingLeft } := by
  by_cases hx : v.ml.exchange.isSome
  · rw [nextTraffic_closing_busy hline hx]
    rfl
  · rw [nextTraffic_closing_free hline (by simpa using hx)]
    rcases nextClosingStop_cases (s := v) v.ml.closingLeft with h | ⟨g, i, rest, h⟩
    · rw [h, endClosing_off hoff]
      rfl
    · rw [h]
      rfl
end

theorem closingStop_eq (x : Handler) : x.closingStop = .driveCommand false (if x.lastMode = .cool then .cool else .heat) 0 := by
  unfold Handler.closingStop CompMode.direction
  cases x.lastMode <;> rfl

/-! ### The change to CLOSING (R129) -/

theorem closeSlot_slot (i k : Fin 8) : (closeSlot i s).slot k = if k = i then
    { s.slot i with probeTimer := none, probeDue := false, readTimer := none, readDue := false } else s.slot k := putSlot_slot i k _

theorem forSlots_closeSlot_slot (i : Fin 8) : (forSlots closeSlot s).slot i =
    { s.slot i with probeTimer := none, probeDue := false, readTimer := none, readDue := false } :=
  forSlots_slot closeSlot (fun _ x => { x with probeTimer := none, probeDue := false, readTimer := none, readDue := false }) (fun _ => True)
    (fun _ _ _ => trivial) (fun i u k _ => closeSlot_slot i k) trivial i

/-- The queued transaction flushed at a change to CLOSING (R129). -/
def flushPass (s : State) : State :=
  match s.ml.pass.state, s.ml.pass.slot with
  | .queued, some i => passDone i .flushed none none s
  | _, _ => s

theorem flushPass_queued {i : Fin 8} (hstate : s.ml.pass.state = .queued) (hslot : s.ml.pass.slot = some i) :
    flushPass s = passDone i .flushed none none s := by
  rw [flushPass, hstate, hslot]

theorem flushPass_frame : flushPass s = { s with ml := { s.ml with pass := (flushPass s).ml.pass }, lu := (flushPass s).lu } := by
  unfold flushPass
  split <;> rfl

theorem beginClosing_eq : beginClosing s = tellDrives (forSlots closeSlot ((flushPass s).setMl { (flushPass s).ml with
    line := .closing, drivePending := Vector.replicate 2 false, closingLeft := [0, 1] })) := rfl

theorem beginClosing_slot (i : Fin 8) : (beginClosing s).slot i =
    { s.slot i with probeTimer := none, probeDue := false, readTimer := none, readDue := false } := by
  have hslots (u : State) : (tellDrives (forSlots closeSlot u)).slot i = (forSlots closeSlot u).slot i :=
    slot_congr (by simp) i
  have hflush : (flushPass s).slot i = s.slot i := slot_congr (by rw [flushPass_frame]) i
  rw [beginClosing_eq, hslots, forSlots_closeSlot_slot, ← hflush]
  rfl

theorem beginClosing_lu : (beginClosing s).lu = (flushPass s).lu := by
  rw [beginClosing_eq]
  simp

theorem beginClosing_pass : (beginClosing s).ml.pass = (flushPass s).ml.pass := by
  have htold (u : State) : (tellDrives (forSlots closeSlot u)).ml = (forSlots closeSlot u).ml := by simp
  rw [beginClosing_eq, htold, forSlots_closeSlot_ml]
  rfl

theorem beginClosing_handler (h : Fin 2) : (beginClosing s).handler h = (s.handler h).told s.wm.restTime (s.wm.driveSlotOf h) false := by
  rw [beginClosing_eq]
  generalize hu : forSlots closeSlot ((flushPass s).setMl { (flushPass s).ml with
    line := .closing, drivePending := Vector.replicate 2 false, closingLeft := [0, 1] }) = u
  have hpl : u.wm = s.wm := by
    rw [← hu, State.wm, State.wm, flushPass_frame]
    simp
  have hhandler : u.handler h = s.handler h := by
    refine handler_congr ?_ h
    rw [← hu, flushPass_frame]
    simp
  have hclosing : u.ml.line = .closing := by
    rw [← hu, forSlots_closeSlot_ml]
    rfl
  have hready : u.driveReady h = false := by
    unfold State.driveReady
    rw [hclosing]
    cases u.wm.driveSlotOf h <;> rfl
  rw [tellDrives_handler, hready, hpl, hhandler]

theorem beginClosing_silentDrive (h : Fin 2) : (beginClosing s).silentDrive h = match s.wm.driveSlotOf h with
    | some i => decide ((s.slot i).state ≠ .present)
    | none => true := by
  have hdrive : ((beginClosing s).handler h).driveSlot = s.wm.driveSlotOf h := by
    rw [beginClosing_handler]
    rfl
  rw [State.silentDrive, hdrive]
  cases s.wm.driveSlotOf h with
  | none => rfl
  | some i =>
    dsimp only
    rw [beginClosing_slot]

theorem beginClosing_frame : beginClosing s = { s with
    ml := (beginClosing s).ml, hs := (beginClosing s).hs, lu := (beginClosing s).lu } := by
  have hframe : ∀ u : State, u = { s with ml := u.ml, lu := u.lu } → tellDrives (forSlots closeSlot u) = { s with
      ml := (tellDrives (forSlots closeSlot u)).ml, hs := (tellDrives (forSlots closeSlot u)).hs
      lu := (tellDrives (forSlots closeSlot u)).lu } := by
    intro u hu
    refine State.eq_of_blocks ?_ rfl ?_ ?_ ?_ ?_ rfl ?_ rfl ?_ ?_ ?_ ?_ ?_ ?_ ?_
    all_goals
      simp only [tellDrives_frame, forSlots_closeSlot_frame]
      rw [hu]
  rw [beginClosing_eq]
  refine hframe _ ?_
  rw [flushPass_frame]
  rfl

theorem Handler.told_false (n : Nat) (i : Option (Fin 8)) (x : Handler) : (x.told n i false).driveAvailable = false ∧
    (x.told n i false).driveSlot = i ∧ (x.told n i false).lastMode = x.lastMode ∧
    (x.driveAvailable = true → (x.told n i false).q = 0 ∧ (x.told n i false).comp = .stopped) := by
  unfold Handler.told
  refine ⟨rfl, rfl, ?_, fun h => ?_⟩
  · split
    · rw [Handler.stop_eq]
    · rfl
  · simp only [h, Bool.not_false, Bool.and_self, if_true]
    exact ⟨Handler.stop_q _ _, Handler.stop_comp _ _⟩

/-! ### The drives of a line that opens (R24) -/

theorem openLine_handler (h : Fin 2) : (openLine s).handler h = (s.handler h).told s.wm.restTime (s.wm.driveSlotOf h)
    (match s.wm.driveSlotOf h with
      | none => false
      | some i => (s.slot i).state == .present && match (s.slot i).drive with
        | some d => d.state != .fault
        | none => false) := by
  have harbitrate : (openLine s).handler h = (lineOpened s).handler h := handler_congr (arbitrate_frame _).2.1 h
  rw [harbitrate, lineOpened]
  generalize hu : forSlots openSlot (s.setMl { s.ml with line := .on, closingLeft := [] }) = u
  have hpl : u.wm = s.wm := by
    rw [← hu]
    simp [State.wm]
  have hhandler : u.handler h = s.handler h := by
    refine handler_congr ?_ h
    rw [← hu]
    simp
  have hon : u.ml.line = .on := by
    rw [← hu, forSlots_openSlot_ml]
    rfl
  have hslot (i : Fin 8) : (u.slot i).state = (s.slot i).state ∧ (u.slot i).drive = (s.slot i).drive := by
    rw [← hu, forSlots_openSlot_slot]
    exact Slot.opened_keeps _ _
  rw [tellDrives_handler, State.driveReady, hpl, hhandler, hon]
  cases s.wm.driveSlotOf h with
  | none => rfl
  | some i =>
    dsimp only
    rw [(hslot i).1, (hslot i).2]
    rfl

theorem openLine_frame_with : openLine s = { s with ml := (openLine s).ml, hs := (openLine s).hs, lu := (openLine s).lu } := by
  obtain ⟨hzr, hpa, hrs, hsu, hou, hsc, hpl, hbus, hpins, heeprom, htenth, hfree, hpending⟩ := openLine_frame s
  generalize openLine s = e at *
  exact State.eq_of_blocks hzr rfl hpa hrs hsu hou rfl hsc rfl hpl hbus hpins heeprom htenth hfree hpending

theorem closeLine_frame_with : closeLine s = { s with ml := (closeLine s).ml, hs := (closeLine s).hs, lu := (closeLine s).lu } := by
  obtain ⟨hzr, hpa, hrs, hsu, hou, hsc, hpl, hbus, hpins, heeprom, htenth, hfree, hpending⟩ := closeLine_frame s
  generalize closeLine s = e at *
  exact State.eq_of_blocks hzr rfl hpa hrs hsu hou rfl hsc rfl hpl hbus hpins heeprom htenth hfree hpending

theorem lineEnableOwner_on_stays {u : State} (h : u.sc.opState ≠ .run ∨ u.ml.line ≠ .off) : lineEnableOwner 0 u =
    (u.setMl { u.ml with hostEnable := .on }, [0, 0] ++ num8 u.ml.line.code) := by
  rw [lineEnableOwner, if_pos rfl]
  dsimp only
  rw [if_neg]
  · rfl
  · rintro ⟨hrun, hline⟩
    exact h.elim (fun h => h hrun) (fun h => h hline)

theorem lineEnableOwner_opens {u v : State} (hv : v = u.setMl { u.ml with hostEnable := .on }) (hrun : u.sc.opState = .run)
    (hline : u.ml.line = .off) : lineEnableOwner 0 u =
      (openLine v, [0] ++ num8 (openLine v).ml.hostEnable.code ++ num8 (openLine v).ml.line.code) := by
  rw [lineEnableOwner, if_pos rfl, hv]
  dsimp only
  rw [if_pos ⟨hrun, hline⟩]
  rfl

theorem lineEnableOwner_off_stays {u : State} (h : u.ml.line ≠ .on) : lineEnableOwner 1 u =
    (u.setMl { u.ml with hostEnable := .off }, [0, 1] ++ num8 u.ml.line.code) := by
  rw [lineEnableOwner, if_neg (by decide), if_pos rfl]
  dsimp only
  rw [if_neg h]
  rfl

theorem lineEnableOwner_closes {u v : State} (hv : v = u.setMl { u.ml with hostEnable := .off }) (h : u.ml.line = .on) :
    lineEnableOwner 1 u = (closeLine v, [0] ++ num8 (closeLine v).ml.hostEnable.code ++ num8 (closeLine v).ml.line.code) := by
  rw [lineEnableOwner, if_neg (by decide), if_pos rfl, hv]
  dsimp only
  rw [if_pos h]
  rfl

theorem lineEnableOwner_badArg {v : Byte} (h : 2 ≤ v.toNat) (u : State) : lineEnableOwner v u = (u, [7]) := by
  have h0 : v ≠ 0 := by
    rintro rfl
    exact absurd h (by decide)
  have h1 : v ≠ 1 := by
    rintro rfl
    exact absurd h (by decide)
  rw [lineEnableOwner, if_neg h0, if_neg h1]
  rfl

/-- Settles O41. -/
theorem lineEnableOpensAndCloses : Obligations.LineEnableOpensAndCloses := by
  intro s hs
  refine ⟨fun v hv => ?_, fun h => ?_, fun h => ?_, fun hrun hline => ?_, fun hline => ?_⟩
  · exact request_only_answered hs 0x42 [v] (lineEnableOwner_badArg hv _)
  · exact request_answered hs 0x42 [0] (lineEnableOwner_on_stays (u := s.withInHand 0x42 [0]) h) rfl hs.awake
  · exact request_answered hs 0x42 [1] (lineEnableOwner_off_stays (u := s.withInHand 0x42 [1]) h) rfl hs.awake
  · obtain ⟨u, hu⟩ : ∃ u, u = (s.withInHand 0x42 [0]).setMl { (s.withInHand 0x42 [0]).ml with hostEnable := .on } := ⟨_, rfl⟩
    have howner := lineEnableOwner_opens hu hrun hline
    have hlatches : (s.withInHand 0x42 [0]).lu.Latches (openLine u).lu := openLine_latches (by rw [hu]; exact .refl)
    have hframe := openLine_frame_with (s := u)
    have hon := openLine_line (s := u)
    have hhost := openLine_hostEnable (s := u)
    have hslot := openLine_slot (s := u)
    have hhandler := openLine_handler (s := u)
    generalize openLine u = e at *
    have huslot (i : Fin 8) : u.slot i = s.slot i := by rw [hu]; rfl
    have huwm : u.wm = s.wm := by rw [hu]; rfl
    refine ⟨_, request_latched hs 0x42 [0] howner hlatches (by rw [hframe, hu]; exact hs.awake), ?_, hon,
      hhost.trans (by rw [hu]; rfl), fun i hkind hstate => ?_, fun i hkind hstate => ?_, fun h => ?_⟩
    · rw [hframe, hu]
      rfl
    · obtain ⟨-, -, -, -, -, -, htimer, -⟩ := (hslot i).fields
      refine htimer.trans ?_
      rw [huslot, huwm, Slot.opened, if_pos ⟨hkind, hstate⟩]
      rfl
    · obtain ⟨-, -, -, -, -, -, -, htimer⟩ := (hslot i).fields
      refine htimer.trans ?_
      rw [huslot, huwm, Slot.opened, if_neg (fun h => h.2 hstate), if_pos ⟨hkind, hstate⟩]
      rfl
    · have havailable := congrArg Handler.driveAvailable (hhandler h)
      rw [Handler.told_eq] at havailable
      have hthis : ((e.setLu (e.lu.replied 0x42 [0] ([0] ++ num8 e.ml.hostEnable.code ++ num8 e.ml.line.code))).handler h).driveAvailable =
          (e.handler h).driveAvailable := rfl
      rw [hthis, havailable, huwm]
      dsimp only
      cases hd : s.wm.driveSlotOf h with
      | none => simp
      | some i =>
        simp only [huslot]
        cases hdrive : (s.slot i).drive with
        | none => simp [hdrive]
        | some d => simp [hdrive]
  · obtain ⟨u, hu⟩ : ∃ u, u = (s.withInHand 0x42 [1]).setMl { (s.withInHand 0x42 [1]).ml with hostEnable := .off } := ⟨_, rfl⟩
    have howner := lineEnableOwner_closes hu hline
    have hlatches : (s.withInHand 0x42 [1]).lu.Latches (closeLine u).lu := closeLine_latches (by rw [hu]; exact .refl)
    have hframe := closeLine_frame_with (s := u)
    have hoff := closeLine_line (s := u) (.inl (by rw [hu]; rfl))
    have hbegin := beginClosing_ml (s := u)
    have hbeginSlot := beginClosing_slot (s := u)
    have hbeginHandler := beginClosing_handler (s := u)
    have hbeginSc : (beginClosing u).sc = u.sc := by rw [beginClosing_frame]
    have hbeginLu := beginClosing_lu (s := u)
    have hbeginPass := beginClosing_pass (s := u)
    have hsilent := funext (beginClosing_silentDrive (s := u))
    have hflush (i : Fin 8) (hstate : u.ml.pass.state = .queued) (hslot : u.ml.pass.slot = some i) := flushPass_queued hstate hslot
    have hclosing : (beginClosing u).ml.line = .closing := by rw [hbegin]
    have hhost : (beginClosing u).ml.hostEnable = .off := by rw [hbegin, hu]; rfl
    have htraffic := nextTraffic_closing_frame hclosing (.inl hhost)
    have hbusy := nextTraffic_closing_busy hclosing
    have hfree := nextTraffic_closing_free hclosing
    rw [closeLine_eq] at howner hlatches hframe hoff
    generalize beginClosing u = v at *
    generalize nextTraffic v = e at *
    refine ⟨_, request_latched hs 0x42 [1] howner hlatches (by rw [hframe, hu]; exact hs.awake), ?_, hoff, ?_, ?_, fun i => ?_, fun h => ?_,
      fun i hstate hslot => ?_⟩
    · rw [hframe, hu]
      rfl
    · show e.ml.hostEnable = .off
      rw [htraffic]
      exact hhost
    · have hu0 : u.ml.exchange = s.ml.exchange := by rw [hu]; rfl
      have huwm : u.wm = s.wm := by rw [hu]; rfl
      have huslot (i : Fin 8) : u.slot i = s.slot i := by rw [hu]; rfl
      have huhandler (h : Fin 2) : u.handler h = s.handler h := by rw [hu]; rfl
      have hexchange : v.ml.exchange = s.ml.exchange := by rw [hbegin]; exact hu0
      have hleft : v.ml.closingLeft = [0, 1] := by rw [hbegin]
      simp only [huwm, huslot] at hsilent
      rw [hleft] at hfree
      refine ⟨fun hx => ?_, fun hx hdrop => ?_, fun hx h rest hdrop i hi => ?_⟩
      · have he := hbusy (by rw [hexchange]; exact hx)
        refine ⟨?_, ?_, ?_⟩
        · exact (congrArg (·.ml.line) he).trans hclosing
        · exact (congrArg (·.ml.exchange) he).trans hexchange
        · exact (congrArg (·.ml.closingLeft) he).trans hleft
      · have he := (hfree (hexchange.trans hx)).trans (nextClosingStop_last (by rw [hsilent]; exact hdrop))
        rw [endClosing_off (.inl hhost)] at he
        refine ⟨congrArg (·.ml.line) he, ?_⟩
        exact (congrArg (·.ml.exchange) he).trans (hexchange.trans hx)
      · have hdrive : (v.handler h).driveSlot = some i := by
          rw [hbeginHandler, huwm, hi]
          rfl
        have hmode : (v.handler h).lastMode = (s.handler h).lastMode := by
          rw [hbeginHandler, ← huhandler]
          exact (Handler.told_false _ _ _).2.2.1
        have he := (hfree (hexchange.trans hx)).trans (nextClosingStop_next (by rw [hsilent]; exact hdrop) hdrive)
        rw [closingStop_eq, hmode] at he
        refine ⟨?_, congrArg (·.ml.closingLeft) he, congrArg (·.ml.exchange) he⟩
        exact (congrArg (·.ml.line) he).trans hclosing
    · have hthis : e.slot i = v.slot i := by rw [htraffic]; rfl
      show (e.slot i).probeTimer = none ∧ (e.slot i).readTimer = none ∧ (e.slot i).probeDue = false ∧ (e.slot i).readDue = false
      rw [hthis, hbeginSlot]
      exact ⟨rfl, rfl, rfl, rfl⟩
    · have hthis : e.handler h = v.handler h := by rw [htraffic]; rfl
      have hpendings : e.ml.drivePending = Vector.replicate 2 false := by
        rw [htraffic]
        exact congrArg ML.drivePending hbegin
      have huhandler : u.handler h = s.handler h := by rw [hu]; rfl
      obtain ⟨havailable, -, -, hstop⟩ := Handler.told_false u.wm.restTime (u.wm.driveSlotOf h) (u.handler h)
      show (e.handler h).driveAvailable = false ∧ e.ml.drivePending[h] = false ∧
        ((s.handler h).driveAvailable = true → (e.handler h).q = 0 ∧ (e.handler h).comp = .stopped)
      rw [hthis, hbeginHandler, hpendings]
      refine ⟨havailable, ?_, fun hbefore => hstop (by rw [huhandler]; exact hbefore)⟩
      simp
    · have hthis : e.ml.pass = v.ml.pass := congrArg (·.ml.pass) htraffic
      have hlu : e.lu = v.lu := by rw [htraffic]; rfl
      have hpass := hbeginPass.trans (congrArg (·.ml.pass) (hflush i (by rw [hu]; exact hstate) (by rw [hu]; exact hslot)))
      have hevents := hlu.trans (hbeginLu.trans (congrArg State.lu (hflush i (by rw [hu]; exact hstate) (by rw [hu]; exact hslot))))
      rw [State.setLu_lu, LU.event_replied]
      show e.ml.pass.state = .done ∧ e.ml.pass.outcome = some .flushed ∧ e.lu.event .passDone = _
      rw [hthis, hpass, hevents, passDone, latch_event]
      refine ⟨rfl, rfl, ?_⟩
      rw [hu]
      rfl

end Sys2Proof.Machine

/-! ## The timers of the handlers (R28, R29, R32) -/

namespace Sys2Proof.Machine

variable {s : State}

/-- A handler's record after an expiry of the account timer (R32). -/
def Handler.accounted (cold : Bool) (interval : Nat) (x : Handler) : Handler :=
  let icing := if x.mode = .heat ∧ 0 < x.q ∧ cold then min 7200 (x.icing + 1) else x.icing
  { x with
    icing := icing, defrostDue := x.defrostDue || decide (interval ≤ icing),
    defrostTimer := if x.mode = .defrost then min 600 (x.defrostTimer + 1) else x.defrostTimer }

theorem account_eq (h : Fin 2) (s : State) : account h s =
    s.putHandler h ((s.handler h).accounted (s.coilCold h) s.wm.defrostInterval) := rfl

theorem coilCold_iff (h : Fin 2) : s.coilCold h = true ↔ match s.usable (s.wm.coilPoint h), s.usable s.wm.outdoorPoint with
    | some coil, _ => coil ≤ s.wm.coilThreshold
    | none, some outdoor => outdoor ≤ 70
    | none, none => True := by
  unfold State.coilCold
  cases s.usable (s.wm.coilPoint h) with
  | some coil => exact decide_eq_true_iff
  | none =>
    cases s.usable s.wm.outdoorPoint with
    | some outdoor => exact decide_eq_true_iff
    | none => exact iff_of_true rfl trivial

theorem forHandlers_account_frame : forHandlers account s =
    { s with hs := { s.hs with handlers := (forHandlers account s).hs.handlers } } := rfl

theorem forHandlers_account_handler (h : Fin 2) : (forHandlers account s).handler h =
    (s.handler h).accounted (s.coilCold h) s.wm.defrostInterval := by
  have hother : (account 0 s).handler 1 = s.handler 1 := State.putHandler_handler_other s (by decide) _
  have hcases : h = 0 ∨ h = 1 := by omega
  rw [forHandlers]
  rcases hcases with rfl | rfl
  · rw [account_eq, State.putHandler_handler_other _ (by decide), account_eq, State.putHandler_handler_same]
  · rw [account_eq, State.putHandler_handler_same, hother]
    rfl

/-- Settles O20. -/
theorem handlerTimersExpire : Obligations.HandlerTimersExpire := by
  intro s
  refine ⟨fun htimer => ?_, fun htimer => ?_, fun h => rfl, fun h => rfl⟩
  · show execAccountTimerExpiry s = _
    rw [execAccountTimerExpiry, if_neg (by rw [htimer]; decide)]
  · obtain ⟨u, hu⟩ : ∃ u, u = readAir (s.setHs { s.hs with accountTimer := some (sec 1) }) := ⟨_, rfl⟩
    have hexec : exec .accountTimerExpiry s = .next (forHandlers account u) := by
      rw [hu]
      exact if_pos htimer
    refine ⟨_, hexec, ?_, fun h => ?_⟩
    · rw [forHandlers_account_frame, hu]
      rfl
    · have hhandler : u.handler h = s.handler h := by rw [hu]; rfl
      have hcold : u.coilCold h = s.coilCold h := by rw [hu]; rfl
      have hwm : u.wm = s.wm := by rw [hu]; rfl
      rw [forHandlers_account_handler, hhandler, hcold, hwm]
      dsimp only
      have hiff := coilCold_iff (s := s) h
      refine ⟨_, fun hgrows => ?_, fun hstays => ?_, rfl⟩
      · exact if_pos ⟨hgrows.1, hgrows.2.1, hiff.mpr hgrows.2.2⟩
      · exact if_neg fun hgrows => hstays ⟨hgrows.1, hgrows.2.1, hiff.mp hgrows.2.2⟩

end Sys2Proof.Machine

/-! ## The reading requests (R20, R41, R58, R77, R99, R114, R131, R165, R172) -/

namespace Sys2Proof.Machine

variable {s : State}

/-! ### Runs of records -/

theorem runOf_none {n : Nat} {first count : Byte} (h : ¬ (first.toNat < n ∧ 1 ≤ count.toNat ∧ first.toNat + count.toNat ≤ n)) :
    runOf n first count = none := by
  rw [runOf, if_neg]
  rintro ⟨hfirst, hcount, -, hsum⟩
  exact h ⟨hfirst, hcount, hsum⟩

/-- The numbers of a list of `Fin n` that lie in an interval. -/
theorem finRange_interval {n f c : Nat} (h : f + c ≤ n) :
    ((List.finRange n).filter fun i => decide (f ≤ i.val) && decide (i.val < f + c)).map Fin.val = List.range' f c := by
  have hmap : ((List.finRange n).filter fun i => decide (f ≤ i.val) && decide (i.val < f + c)).map Fin.val =
      (List.range n).filter fun i => decide (f ≤ i) && decide (i < f + c) := by
    rw [← List.map_coe_finRange_eq_range, List.filter_map]
    rfl
  rw [hmap, ← List.filter_filter, ← List.Ico.zero_bot, List.Ico.filter_lt, List.Ico.filter_le, List.Ico, Nat.min_eq_right h,
    Nat.max_eq_right (Nat.zero_le f), Nat.add_sub_cancel_left]

/-- The run is the numbers from the first on, as many as the count. -/
theorem runOf_some {n : Nat} {first count : Byte} (h : first.toNat < n ∧ 1 ≤ count.toNat ∧ first.toNat + count.toNat ≤ n) :
    ∃ l : List (Fin n), runOf n first count = some l ∧ l.length = count.toNat ∧ ∀ j x, l[j]? = some x → x.val = first.toNat + j := by
  obtain ⟨hfirst, hcount, hsum⟩ := h
  have hmap := finRange_interval hsum
  rw [runOf, if_pos ⟨hfirst, hcount, by omega, hsum⟩]
  generalize (List.finRange n).filter _ = l at *
  refine ⟨l, rfl, ?_, fun j x hx => ?_⟩
  · simpa using congrArg List.length hmap
  · have hj : (l.map Fin.val)[j]? = some x.val := by
      rw [List.getElem?_map, hx]
      rfl
    rw [hmap] at hj
    obtain ⟨hlt, hval⟩ := List.getElem?_eq_some_iff.mp hj
    rw [← hval, List.getElem_range', Nat.one_mul]

/-! ### Lengths -/

section
variable (n : Nat) (x : Int)

theorem num16_length : (num16 n).length = 2 := rfl
theorem int8_length : (int8 x).length = 1 := rfl
theorem int16_length : (int16 x).length = 2 := rfl
theorem wordBytes_length (w : Word16) : (wordBytes w).length = 2 := rfl
theorem yesNo_length (b : Bool) : (yesNo b).length = 1 := rfl

theorem orAbsent8_length (o : Option Nat) : (orAbsent8 o).length = 1 := by
  cases o <;> rfl

theorem orAbsent16_length (o : Option Int) : (orAbsent16 o).length = 2 := by
  cases o <;> rfl
end

theorem length_flatMap_const {α : Type} {f : α → List Byte} {n : Nat} (h : ∀ x, (f x).length = n) (l : List α) :
    (l.flatMap f).length = n * l.length := by
  rw [List.length_flatMap, List.map_congr_left (fun x _ => h x), List.map_const', List.sum_replicate, smul_eq_mul, Nat.mul_comm]

theorem zoneBytes_length (z : Fin 12) : (s.zoneBytes z).length = 24 := by
  simp only [State.zoneBytes, List.length_append, num8_length, num16_length, int16_length, yesNo_length, orAbsent8_length,
    orAbsent16_length, List.length_singleton]

theorem handlerBytes_length (h : Fin 2) : (s.handlerBytes h).length =
    33 + 3 * ((List.finRange 12).filter fun z => s.wm.zoneHandler z == h).length := by
  have hzones (v : Fin 12 → Nat) (l : List (Fin 12)) : (l.flatMap fun z : Fin 12 => num8 z ++ num16 (v z)).length = 3 * l.length :=
    length_flatMap_const (fun z : Fin 12 => (rfl : (num8 z ++ num16 (v z)).length = 3)) l
  unfold State.handlerBytes
  generalize (List.finRange 12).filter (fun z => s.wm.zoneHandler z == h) = zs
  simp only [List.length_append, num8_length, num16_length, int16_length, yesNo_length, orAbsent8_length,
    hzones (fun z => s.hs.dampers[z])]

theorem grantBytes_length : s.grantBytes.length = 9 := rfl

theorem AllotRecord.bytes_length (r : AllotRecord) : r.bytes.length = 116 := by
  have hhandlers := length_flatMap_const (f := fun (h : Fin 2) => let x := r.handlers[h]
    num8 x.mode.code ++ num16 x.qReq ++ num8 x.outcome.code ++ num16 x.command ++ num16 x.power) (n := 8) (fun h => rfl)
  have hzones := length_flatMap_const (f := fun (z : Fin 12) => let x := r.zones[z]
    num16 x.request ++ num16 x.duty ++ num16 x.power ++ num8 x.limited.code) (n := 7) (fun z => rfl)
  simp only [AllotRecord.bytes, List.length_append, num8_length, num16_length, yesNo_length, wordBytes_length, hhandlers, hzones,
    List.length_finRange]

theorem pointEntry_length (p : Fin 32) : (s.pointEntry p).length = 12 := rfl

/-! ### Fields that may be absent -/

theorem orAbsent8_next {n : Nat} (o : Option (Fin n)) : orAbsent8 (o.map (·.val + 1)) = match o with
    | some i => num8 (i + 1)
    | none => [0xFF] := by
  cases o <;> rfl

theorem orAbsent16_ofNat (o : Option Nat) : orAbsent16 (o.map Int.ofNat) = match o with
    | some v => num16 v
    | none => [0x80, 0] := by
  cases o with
  | none => rfl
  | some v =>
    show int16 (v : Int) = num16 v
    rw [int16, num16, BitVec.ofInt_natCast]

theorem num8_toNat (b : Byte) : num8 b.toNat = [b] := by
  rw [num8, BitVec.ofNat_toNat, BitVec.setWidth_eq]

theorem orAbsent8_byte (o : Option Byte) : orAbsent8 (o.map (·.toNat)) = [o.getD 0xFF] := by
  cases o with
  | none => rfl
  | some b => exact num8_toNat b

theorem num8_liveCode (b : Bool) : num8 (liveCode b) = ([if b then 0 else 1] : List Byte) := by
  cases b <;> rfl

theorem monitorBytes (v : Vector Word16 4) :
    wordBytes v[0] ++ wordBytes v[1] ++ wordBytes v[2] ++ wordBytes v[3] = v.toList.flatMap wordBytes := by
  have hlist : v.toList = [v[0], v[1], v[2], v[3]] := by
    apply List.ext_getElem
    · simp
    · intro i hi _
      have hcases : i = 0 ∨ i = 1 ∨ i = 2 ∨ i = 3 := by
        simp at hi
        omega
      rcases hcases with rfl | rfl | rfl | rfl <;> simp
  rw [hlist]
  simp

/-! ### The records field by field -/

theorem num8_length_eq {α : Type} {l : List α} {c : Byte} (h : l.length = c.toNat) : num8 l.length = [c] := by
  rw [h, num8_toNat]

theorem orAbsent16_eq (o : Option Int) : orAbsent16 o = match o with
    | some x => int16 x
    | none => [0x80, 0] := by
  cases o <;> rfl

theorem Channel.bytes_eq (x : Channel) : x.bytes = num8 x.role.code ++ num16 x.modulus ++ num8 x.step.code ++ num8 x.polarity.code
    ++ yesNo x.bound ++ num16 x.received
    ++ (match x.override with
      | some v => num16 v
      | none => [0x80, 0])
    ++ num16 x.effective ++ num16 x.pendingCompare ++ num16 x.compare
    ++ (match x.newModulus with
      | some v => num16 v
      | none => [0x80, 0])
    ++ (match x.newStep with
      | some v => num8 v.code
      | none => [0xFF])
    ++ (match x.newPolarity with
      | some v => num8 v.code
      | none => [0xFF])
    ++ num16 (1000 * x.compare / x.modulus) := by
  rw [Channel.bytes, orAbsent16_ofNat, orAbsent16_ofNat, Channel.duty]
  cases x.newStep <;> cases x.newPolarity <;> rfl

theorem PassRecord.bytes_eq (x : PassRecord) : x.bytes = num8 x.state.code
    ++ (match x.slot with
      | some i => num8 (i + 1)
      | none => [0xFF])
    ++ (match x.op with
      | some op => num8 op.code
      | none => [0xFF])
    ++ [x.item.getD 0xFF] ++ wordBytes (x.value.getD 0x8000)
    ++ (match x.outcome with
      | some o => num8 o.code
      | none => [0xFF])
    ++ (match x.status with
      | some st => num8 st.code
      | none => [0xFF])
    ++ wordBytes (x.returned.getD 0x8000) := by
  rw [PassRecord.bytes, orAbsent8_byte, orAbsent8_next]
  cases x.slot <;> cases x.op <;> cases x.outcome <;> cases x.status <;> rfl

theorem slotBytes_eq (i : Fin 8) : s.slotBytes i = num8 (s.wm.slotKind i).code ++ num8 (s.slot i).state.code ++ num8 (s.slot i).failed
    ++ num8 (s.slot i).lastProbe.code
    ++ (match (s.slot i).moduleType with
      | some y => num8 y.code
      | none => [0xFF])
    ++ (match (s.slot i).drive with
      | some d => num8 d.state.code ++ [d.fault] ++ wordBytes d.speed ++ wordBytes d.temperature
      | none => [0xFF, 0xFF, 0x80, 0, 0x80, 0])
    ++ (match (s.slot i).monitor with
      | some v => v.toList.flatMap wordBytes
      | none => [0x80, 0, 0x80, 0, 0x80, 0, 0x80, 0])
    ++ timerBytes (s.slot i).probeTimer ++ yesNo (s.slot i).probeDue ++ timerBytes (s.slot i).readTimer ++ yesNo (s.slot i).readDue := by
  rw [State.slotBytes]
  cases (s.slot i).monitor with
  | none => cases (s.slot i).moduleType <;> cases (s.slot i).drive <;> rfl
  | some v =>
    dsimp only
    rw [monitorBytes]
    cases (s.slot i).moduleType <;> cases (s.slot i).drive <;> rfl

/-! ### The owners -/

section
variable {f c : Byte}

theorem readZonesOwner_none (h : runOf 12 f c = none) : readZonesOwner f c s = (s, [7]) := by
  rw [readZonesOwner, h]
  rfl

theorem readPointsOwner_none (h : runOf 32 f c = none) : readPointsOwner f c s = (s, [7]) := by
  rw [readPointsOwner, h]
  rfl

theorem readOutputsOwner_none (h : runOf 16 f c = none) : readOutputsOwner f c s = (s, [7]) := by
  rw [readOutputsOwner, h]
  rfl

theorem readZonesOwner_some {zs : List (Fin 12)} (h : runOf 12 f c = some zs) : readZonesOwner f c s = (s, [0] ++ wordBytes s.zr.cycleNo
    ++ yesNo s.zr.outstanding ++ yesNo s.zr.deferred ++ num8 (cadenceFactor s.sc.cadence) ++ zs.flatMap s.zoneBytes) := by
  rw [readZonesOwner, h]
  rfl

/-- What READ_POINTS gives before its points (R172). -/
def State.sensingHead (s : State) : List Byte :=
  num8 s.su.supply.code ++ num16 s.su.supplyCode ++ (List.finRange 3).flatMap (fun b => (s.bank b).bytes)
    ++ num16 ((s.su.trimTimer.map secondsLeft).getD 0) ++ (List.finRange 4).flatMap (fun d => (s.door d).bytes)

theorem readPointsOwner_some {ps : List (Fin 32)} (h : runOf 32 f c = some ps) :
    readPointsOwner f c s = (s, [0] ++ s.sensingHead ++ ps.flatMap s.pointEntry) := by
  rw [readPointsOwner, h, State.sensingHead]
  simp only [List.append_assoc]
  rfl

theorem readOutputsOwner_some {cs : List (Fin 16)} (h : runOf 16 f c = some cs) :
    readOutputsOwner f c s = (s, [0] ++ num8 cs.length ++ cs.flatMap fun x => (s.channel x).bytes) := by
  rw [readOutputsOwner, h]
  rfl
end

theorem readHandlersOwner_eq (x : Byte) : readHandlersOwner x s = (s, if 3 ≤ x.toNat then [7] else [0] ++ wordBytes s.hs.cycleNo
    ++ yesNo s.hs.outstanding ++ (if x = 1 then [] else s.handlerBytes 0) ++ (if x = 0 then [] else s.handlerBytes 1)) := by
  have hcases : x = 0 ∨ x = 1 ∨ x = 2 ∨ 3 ≤ x.toNat := by bv_omega
  rcases hcases with rfl | rfl | rfl | h
  · simp [readHandlersOwner, codeOk]
  · simp [readHandlersOwner, codeOk]
  · simp [readHandlersOwner, codeOk]
  · have h0 : x ≠ 0 := by bv_omega
    have h1 : x ≠ 1 := by bv_omega
    have h2 : x ≠ 2 := by bv_omega
    rw [readHandlersOwner, if_neg h0, if_neg h1, if_neg h2, if_pos h]
    rfl

theorem assigned_iff (n : Nat) : assigned n = true ↔ n ≤ 31 ∨ (40 ≤ n ∧ n ≤ 78) ∨ (80 ≤ n ∧ n ≤ 497) := by
  simp [assigned, or_assoc]

theorem getParamOwner_assigned {w : Word16} (h : assigned w.toNat = true) : getParamOwner w s = (s, [0] ++ wordBytes w
    ++ wordBytes (s.wm.word w.toNat) ++ int16 (paramRange w.toNat).1 ++ int16 (paramRange w.toNat).2
    ++ [if structural w.toNat then 1 else 0] ++ [if w.toNat ∈ s.wm.locks then 1 else 0]) := by
  have hlocked : yesNo (s.wm.locks.contains w.toNat) = [if w.toNat ∈ s.wm.locks then 1 else 0] := by
    simp [yesNo]
  rw [getParamOwner, h, hlocked]
  rfl

theorem getParamOwner_unassigned {w : Word16} (h : ¬ assigned w.toNat = true) : getParamOwner w s = (s, [7]) := by
  rw [Bool.not_eq_true] at h
  rw [getParamOwner, h]
  rfl

theorem sensingHead_length : s.sensingHead.length = 51 := rfl

theorem yesNo_intervalPaused (h : Fin 2) : yesNo (s.intervalPaused h) =
    [if s.sc.opState ≠ .run ∨ (s.handler h).mode = .idle then 1 else 0] := by
  simp [yesNo, State.intervalPaused]

/-- The exchange on the line as READ_MODULES gives it (R131). -/
def State.exchangeBytes (s : State) : List Byte :=
  match s.ml.exchange with
  | some x => [Config.exchangeClassCode x.cls.number] ++ num8 (x.slot + 1)
  | none => [0xFF, 0xFF]

theorem exchangeBytes_length : s.exchangeBytes.length = 2 := by
  unfold State.exchangeBytes
  cases s.ml.exchange <;> rfl

/-- Settles O53. -/
theorem readRequestsAnswerTheirRecords : Obligations.ReadRequestsAnswerTheirRecords := by
  intro s hs run answers seconds number head
  have hnumber {n : Nat} (x : Option (Fin n)) : orAbsent8 (x.map (·.val)) = number x := by
    cases x <;> rfl
  have hseconds (t : Timer) : timerBytes t = seconds t := by
    cases t <;> rfl
  have hcount (t : Timer) : num16 ((t.map secondsLeft).getD 0) = num16 (match t with
      | some ticks => (ticks + 99999) / 100000
      | none => 0) := by
    cases t <;> rfl
  have hhead : s.sensingHead = head := by
    rw [State.sensingHead, hcount]
    rfl
  refine ⟨fun f c hno => ?_, fun f c hrun => ?_, zoneBytes_length, fun z => ?_, fun x => ?_, handlerBytes_length, fun h => ?_, ?_, ?_, ?_,
    ?_, fun h => ?_, ?_, fun f c hno => ?_, fun f c hrun => ?_, ?_, pointEntry_length, fun p => rfl, fun num => ⟨fun h => ?_, fun h => ?_⟩,
    fun f c hno => ?_, fun f c hrun => ?_, fun c => Channel.bytes_eq _, fun i => ?_, PassRecord.bytes_eq _, ?_, ?_, ?_⟩
  · exact request_only_answered hs 0x12 [f, c] (readZonesOwner_none (runOf_none hno))
  · obtain ⟨zs, hzs, hlength, hval⟩ := runOf_some hrun
    exact ⟨zs, hlength, hval, request_only_answered hs 0x12 [f, c] (readZonesOwner_some hzs)⟩
  · rw [State.zoneBytes, orAbsent16_eq]
    dsimp only
    simp only [hnumber]
    cases (s.zone z).substitute <;> cases (s.zone z).tempUsed <;> rfl
  · exact request_only_answered hs 0x18 [x] (readHandlersOwner_eq x)
  · dsimp only [State.handlerBytes, secondsLeft]
    cases (s.handler h).driveSlot <;> rfl
  · exact request_only_answered hs 0x21 [] rfl
  · rw [List.length_append, List.length_append, grantBytes_length, AllotRecord.bytes_length]
    rfl
  · rw [State.grantBytes, num8_liveCode, State.effectiveGrant]
    cases s.pa.timer <;> rfl
  · dsimp only [AllotRecord.bytes]
    rw [num8_liveCode]
  · dsimp only [State.renewalBytes]
    rw [yesNo_intervalPaused]
    cases (s.renewal h).kind <;> rfl
  · exact request_only_answered hs 0x2A [] rfl
  · exact request_only_answered hs 0x32 [f, c] (readPointsOwner_none (runOf_none hno))
  · obtain ⟨ps, hps, hlength, hval⟩ := runOf_some hrun
    refine ⟨ps, hlength, hval, ?_⟩
    rw [← hhead]
    exact request_only_answered hs 0x32 [f, c] (readPointsOwner_some hps)
  · rw [← hhead]
    exact sensingHead_length
  · exact request_only_answered hs 0x50 (wordBytes num) (getParamOwner_assigned ((assigned_iff _).mpr h))
  · exact request_only_answered hs 0x50 (wordBytes num) (getParamOwner_unassigned (mt (assigned_iff _).mp h))
  · exact request_only_answered hs 0x39 [f, c] (readOutputsOwner_none (runOf_none hno))
  · obtain ⟨cs, hcs, hlength, hval⟩ := runOf_some hrun
    refine ⟨cs, hlength, hval, ?_⟩
    have howner := readOutputsOwner_some (s := s.withInHand 0x39 [f, c]) hcs
    rw [num8_length_eq hlength] at howner
    exact request_only_answered hs 0x39 [f, c] howner
  · dsimp only
    rw [slotBytes_eq, hseconds, hseconds] <;> rfl
  · exact ⟨rfl, rfl, rfl, rfl, rfl, rfl, rfl, rfl, rfl, rfl, rfl, rfl, rfl, rfl, rfl, rfl, rfl⟩
  · exact ⟨fun z => ⟨rfl, rfl⟩, fun h => ⟨rfl, rfl, rfl⟩, rfl, rfl, rfl, rfl, rfl, rfl, rfl, rfl, rfl, rfl, rfl, rfl, rfl, rfl⟩
  · refine ⟨s.exchangeBytes, ?_, exchangeBytes_length, fun h => ?_, fun x h => ?_⟩
    · exact request_only_answered hs 0x43 [] rfl
    · rw [State.exchangeBytes, h]
    · rw [State.exchangeBytes, h]
      rfl

end Sys2Proof.Machine

/-! ## Renewals (R62 to R73) -/

namespace Sys2Proof.Machine

variable {s t : State}

/-! ### What the HS hands on at a start or an end (R38, R40) -/

theorem putHandler_twice (h : Fin 2) (x y : Handler) : (s.putHandler h x).putHandler h y = s.putHandler h y := by
  unfold State.putHandler
  simp only [State.setHs_hs, Vector.set_set]
  rfl

/-- Both airflow values anew, as one change of the state. -/
theorem renewAir_eq (h : Fin 2) (s : State) : renewAir h s = (s.putHandler h { s.handler h with
    blower := s.blowerValue h, fresh := s.freshValue h }).setBus { s.bus with ouValues :=
      s.bus.ouValues ++ [(.blower h, s.blowerValue h), (.freshDamper h, s.freshValue h)] } := by
  have hblower : renewBlower h s = (s.putHandler h { s.handler h with blower := s.blowerValue h }).setBus { s.bus with ouValues :=
      s.bus.ouValues ++ [(.blower h, s.blowerValue h)] } := rfl
  have hhandler : (renewBlower h s).handler h = { s.handler h with blower := s.blowerValue h } := by
    rw [hblower]
    exact State.putHandler_handler_same s h _
  have hfresh : (renewBlower h s).freshValue h = s.freshValue h := by
    unfold State.freshValue
    rw [hhandler]
    rfl
  have hput : (renewBlower h s).putHandler h { s.handler h with blower := s.blowerValue h, fresh := s.freshValue h } =
      (s.putHandler h { s.handler h with blower := s.blowerValue h, fresh := s.freshValue h }).setBus { s.bus with ouValues :=
        s.bus.ouValues ++ [(.blower h, s.blowerValue h)] } := by
    rw [hblower]
    exact congrArg (State.setBus · _) (putHandler_twice h _ _)
  unfold renewAir renewFresh handValue
  simp only [hfresh, hhandler]
  rw [hput]
  simp only [State.setBus, List.append_assoc]
  rfl

/-! ### What a change of the renewals may touch -/

/-- What renewals that start or end may touch: the renewal and handler records, and the values handed to the OU. -/
def State.RenewalFrame (s t : State) : Prop := t = { s with
  rs := { s.rs with renewals := t.rs.renewals }, hs := { s.hs with handlers := t.hs.handlers }
  bus := { s.bus with ouValues := t.bus.ouValues } }

theorem State.RenewalFrame.refl : s.RenewalFrame s := rfl

theorem State.RenewalFrame.trans {u : State} (h : s.RenewalFrame t) (h' : t.RenewalFrame u) : s.RenewalFrame u := by
  unfold State.RenewalFrame at *
  rw [h', h]

theorem renewAir_renewalFrame (h : Fin 2) : s.RenewalFrame (renewAir h s) := by
  rw [renewAir_eq]
  rfl

theorem renewFresh_renewalFrame (h : Fin 2) : s.RenewalFrame (renewFresh h s) := rfl

theorem putRenewal_renewalFrame (h : Fin 2) (x : Renewal) : s.RenewalFrame (s.putRenewal h x) := rfl

theorem startRenewal_renewalFrame (h : Fin 2) (k : RenewalKind) : s.RenewalFrame (startRenewal h k s) :=
  (putRenewal_renewalFrame h _).trans (renewAir_renewalFrame h)

theorem endRenewal_renewalFrame (h : Fin 2) (e : RenewalEnd) : s.RenewalFrame (endRenewal h e s) :=
  (putRenewal_renewalFrame h _).trans (renewAir_renewalFrame h)

theorem evaluate_renewalFrame (h : Fin 2) : s.RenewalFrame (evaluate h s) := by
  unfold evaluate
  split
  · exact .refl
  · split
    · exact startRenewal_renewalFrame h _
    · exact .refl

theorem forHandlers_renewalFrame {f : Fin 2 → State → State} (h : ∀ (i : Fin 2) (u : State), u.RenewalFrame (f i u)) : s.RenewalFrame (forHandlers f s) :=
  (h 0 s).trans (h 1 _)

/-! ### A start and an end, record by record -/

theorem sec_eq (n : Nat) : sec n = 100000 * n := Nat.mul_comm n 100000

/-- The record of a renewal that has started (R68). -/
def Renewal.started (duration : Nat) (k : RenewalKind) (x : Renewal) : Renewal :=
  { x with state := if k = .forced then .forced else .renewing, kind := some k, timer := 100000 * duration }

/-- The record of a renewal that has ended (R69 to R71). -/
def Renewal.ended (e : RenewalEnd) (x : Renewal) : Renewal := { x with state := .idle, timer := 0, lastEnd := e }

theorem renewAir_renewal (h k : Fin 2) : (renewAir h s).renewal k = s.renewal k := by
  rw [renewAir_eq]
  rfl

theorem startRenewal_renewal (h k : Fin 2) (c : RenewalKind) : (startRenewal h c s).renewal k =
    if k = h then (s.renewal h).started s.wm.renewalDuration c else s.renewal k := by
  rw [startRenewal, renewAir_renewal, putRenewal_renewal, sec_eq]
  rfl

theorem endRenewal_renewal (h k : Fin 2) (e : RenewalEnd) : (endRenewal h e s).renewal k =
    if k = h then (s.renewal h).ended e else s.renewal k := by
  rw [endRenewal, renewAir_renewal, putRenewal_renewal]
  rfl

theorem renewAir_handler (h k : Fin 2) : (renewAir h s).handler k =
    if k = h then { s.handler h with blower := s.blowerValue h, fresh := s.freshValue h } else s.handler k := by
  rw [renewAir_eq]
  exact putHandler_handler h k _

theorem renewFresh_handler (h k : Fin 2) : (renewFresh h s).handler k =
    if k = h then { s.handler h with fresh := s.freshValue h } else s.handler k := putHandler_handler h k _

theorem startRenewal_eq (h : Fin 2) (k : RenewalKind) (hmode : (s.handler h).mode ≠ .idle) : startRenewal h k s =
    ((s.putRenewal h ((s.renewal h).started s.wm.renewalDuration k)).putHandler h { s.handler h with
      blower := max (s.handler h).baseBlower s.hs.air.renewalBlower, fresh := 1000 }).setBus { s.bus with ouValues := s.bus.ouValues ++
        [(.blower h, max (s.handler h).baseBlower s.hs.air.renewalBlower), (.freshDamper h, 1000)] } := by
  obtain ⟨u, hu⟩ : ∃ u, u = s.putRenewal h ((s.renewal h).started s.wm.renewalDuration k) := ⟨_, rfl⟩
  have hstart : startRenewal h k s = renewAir h u := by
    rw [hu, startRenewal, sec_eq]
    rfl
  have hhandler : u.handler h = s.handler h := by
    rw [hu]
    rfl
  have hrenewing : u.renewing h = true := by
    rw [State.renewing, hu, State.putRenewal_renewal_same, Renewal.started]
    cases k <;> rfl
  have hblower : u.blowerValue h = max (s.handler h).baseBlower s.hs.air.renewalBlower := by
    rw [State.blowerValue, if_pos hrenewing, hhandler, hu]
    rfl
  have hfresh : u.freshValue h = 1000 := by
    rw [State.freshValue, hhandler, if_neg hmode, if_pos hrenewing]
  rw [hstart, renewAir_eq, hblower, hfresh, hhandler, hu]
  rfl

theorem startRenewal_handler (h k : Fin 2) (c : RenewalKind) (hmode : (s.handler h).mode ≠ .idle) : (startRenewal h c s).handler k =
    if k = h then { s.handler h with blower := max (s.handler h).baseBlower s.hs.air.renewalBlower, fresh := 1000 }
    else s.handler k := by
  rw [startRenewal_eq h c hmode]
  exact putHandler_handler h k _

theorem endRenewal_eq {u : State} (h : Fin 2) (e : RenewalEnd) (hu : u = s.putRenewal h ((s.renewal h).ended e)) : endRenewal h e s =
    (u.putHandler h { s.handler h with blower := (s.handler h).baseBlower, fresh := u.freshValue h }).setBus
      { s.bus with ouValues := s.bus.ouValues ++ [(.blower h, (s.handler h).baseBlower), (.freshDamper h, u.freshValue h)] } := by
  have hend : endRenewal h e s = renewAir h u := by
    rw [hu]
    rfl
  have hhandler : u.handler h = s.handler h := by
    rw [hu]
    rfl
  have hrenewing : ¬ u.renewing h = true := by
    rw [State.renewing, hu, State.putRenewal_renewal_same]
    exact Bool.false_ne_true
  have hblower : u.blowerValue h = (s.handler h).baseBlower := by
    rw [State.blowerValue, if_neg hrenewing, hhandler]
  have hbus : u.bus = s.bus := by
    rw [hu]
    rfl
  rw [hend, renewAir_eq, hblower, hhandler, hbus]

/-- A handler keeps everything but its airflow values. -/
theorem endRenewal_handler (h k : Fin 2) (e : RenewalEnd) : ∃ b f, (endRenewal h e s).handler k =
    { s.handler k with blower := b, fresh := f } := by
  rw [endRenewal, renewAir_handler]
  split
  · next hk =>
    subst hk
    exact ⟨_, _, rfl⟩
  · exact ⟨_, _, rfl⟩

/-! ### RENEW_NOW (R73) -/

section
variable {h : Fin 2}

/-- The answer of RENEW_NOW (R73). -/
def State.renewNowReply (s : State) (h : Fin 2) (code : Byte) (started : Bool) : State × List Byte :=
  (s, [code, BitVec.ofNat 8 h] ++ yesNo started ++ int8 (s.renewal h).balance ++ num8 (s.renewal h).state.code)

theorem renewNowOwner_eq (h : Fin 2) (s : State) : renewNowOwner (BitVec.ofNat 8 h) s =
    if s.sc.opState = .standby then s.renewNowReply h codeWrongState false
    else if s.rs.airHold ≠ .none then s.renewNowReply h codeWrongState false
    else if s.renewing h then s.renewNowReply h codeBusy false
    else if (s.handler h).mode = .defrost then s.renewNowReply h codeBusy false
    else if (s.handler h).mode = .idle then s.renewNowReply h codeWrongState false
    else if (s.renewal h).balance = 8 then s.renewNowReply h codeOk false
    else (startRenewal h .host s).renewNowReply h codeOk true := by
  have hcases : h = 0 ∨ h = 1 := by omega
  rcases hcases with rfl | rfl
  · rfl
  · rfl

theorem renewNowOwner_badArg {v : Byte} (hv : 2 ≤ v.toNat) : renewNowOwner v s = (s, [7]) := by
  have h0 : v ≠ 0 := by bv_omega
  have h1 : v ≠ 1 := by bv_omega
  rw [renewNowOwner, if_pos ⟨h0, h1⟩]
  rfl

theorem renewing_iff : s.renewing h = true ↔ (s.renewal h).state ≠ .idle := by
  simp [State.renewing]

section
variable (hrun : s.sc.opState = .run) (hhold : s.rs.airHold = .none)

theorem renewNowOwner_refused (hno : s.sc.opState = .standby ∨ s.rs.airHold ≠ .none) :
    renewNowOwner (BitVec.ofNat 8 h) s = s.renewNowReply h 4 false := by
  rw [renewNowOwner_eq]
  rcases hno with hstandby | hhold
  · exact if_pos hstandby
  · rw [if_pos hhold]
    exact ite_self _

include hrun hhold

/-- The checks that follow those of the state and the hold (R73). -/
theorem renewNowOwner_free : renewNowOwner (BitVec.ofNat 8 h) s =
    if s.renewing h then s.renewNowReply h codeBusy false
    else if (s.handler h).mode = .defrost then s.renewNowReply h codeBusy false
    else if (s.handler h).mode = .idle then s.renewNowReply h codeWrongState false
    else if (s.renewal h).balance = 8 then s.renewNowReply h codeOk false
    else (startRenewal h .host s).renewNowReply h codeOk true := by
  have hstandby : s.sc.opState ≠ .standby := by
    rw [hrun]
    decide
  rw [renewNowOwner_eq, if_neg hstandby, if_neg (not_not_intro hhold)]

theorem renewNowOwner_busy (hbusy : (s.renewal h).state ≠ .idle ∨ (s.handler h).mode = .defrost) :
    renewNowOwner (BitVec.ofNat 8 h) s = s.renewNowReply h 3 false := by
  rw [renewNowOwner_free hrun hhold]
  rcases hbusy with hrenewing | hdefrost
  · exact if_pos (renewing_iff.mpr hrenewing)
  · rw [if_pos hdefrost]
    exact ite_self _

variable (hidle : (s.renewal h).state = .idle)
include hidle

theorem renewNowOwner_idle (hmode : (s.handler h).mode = .idle) :
    renewNowOwner (BitVec.ofNat 8 h) s = s.renewNowReply h 4 false := by
  rw [renewNowOwner_free hrun hhold, if_neg (fun hr => renewing_iff.mp hr hidle), if_neg (by rw [hmode]; decide), if_pos hmode]
  rfl

variable (hnidle : (s.handler h).mode ≠ .idle) (hndefrost : (s.handler h).mode ≠ .defrost)
include hnidle hndefrost

theorem renewNowOwner_full (hfull : (s.renewal h).balance = 8) :
    renewNowOwner (BitVec.ofNat 8 h) s = s.renewNowReply h 0 false := by
  rw [renewNowOwner_free hrun hhold, if_neg (fun hr => renewing_iff.mp hr hidle), if_neg hndefrost, if_neg hnidle, if_pos hfull]
  rfl

theorem renewNowOwner_starts (hroom : (s.renewal h).balance ≠ 8) :
    renewNowOwner (BitVec.ofNat 8 h) s = (startRenewal h .host s).renewNowReply h 0 true := by
  rw [renewNowOwner_free hrun hhold, if_neg (fun hr => renewing_iff.mp hr hidle), if_neg hndefrost, if_neg hnidle, if_neg hroom]
  rfl
end

/-- Settles O29. -/
theorem renewNowStartsAHostRenewal : Obligations.RenewNowStartsAHostRenewal := by
  intro s hs
  refine ⟨fun v hv => request_only_answered hs 0x29 [v] (renewNowOwner_badArg hv), fun h => ?_⟩
  obtain ⟨u, hu⟩ : ∃ u, u = s.withInHand 0x29 [BitVec.ofNat 8 h] := ⟨_, rfl⟩
  have hop : u.sc.opState = s.sc.opState := by rw [hu]; rfl
  have hrs : u.rs = s.rs := by rw [hu]; rfl
  have hrenewal : u.renewal h = s.renewal h := by rw [hu]; rfl
  have hhandler : u.handler h = s.handler h := by rw [hu]; rfl
  have hanswers (code : Byte) (howner : renewNowOwner (BitVec.ofNat 8 h) u = u.renewNowReply h code false) :
      exec (.renewNow (BitVec.ofNat 8 h)) s = .next (s.setLu (s.lu.replied 0x29 [BitVec.ofNat 8 h]
          ([code, BitVec.ofNat 8 h, 0] ++ int8 (s.renewal h).balance ++ num8 (s.renewal h).state.code))) := by
    rw [hu] at howner
    exact request_only_answered hs 0x29 [BitVec.ofNat 8 h] howner
  refine ⟨fun hno => ?_, fun hrun hhold hbusy => ?_, fun hrun hhold hidle hmode => ?_, fun hrun hhold hidle hnidle hndefrost hfull => ?_,
    fun hrun hhold hidle hnidle hndefrost hroom => ?_⟩
  · exact hanswers 4 (renewNowOwner_refused (by rw [hop, hrs]; exact hno))
  · exact hanswers 3 (renewNowOwner_busy (hop.trans hrun) (by rw [hrs]; exact hhold) (by rw [hrenewal, hhandler]; exact hbusy))
  · exact hanswers 4 (renewNowOwner_idle (hop.trans hrun) (by rw [hrs]; exact hhold) (by rw [hrenewal]; exact hidle)
      (by rw [hhandler]; exact hmode))
  · exact hanswers 0 (renewNowOwner_full (hop.trans hrun) (by rw [hrs]; exact hhold) (by rw [hrenewal]; exact hidle)
      (by rw [hhandler]; exact hnidle) (by rw [hhandler]; exact hndefrost) (by rw [hrenewal]; exact hfull))
  · have howner := renewNowOwner_starts (h := h) (hop.trans hrun) (by rw [hrs]; exact hhold) (by rw [hrenewal]; exact hidle)
      (by rw [hhandler]; exact hnidle) (by rw [hhandler]; exact hndefrost) (by rw [hrenewal]; exact hroom)
    have hstart := startRenewal_eq (s := u) h .host (by rw [hhandler]; exact hnidle)
    have hrecord : (startRenewal h .host u).renewal h = (s.renewal h).started s.wm.renewalDuration .host := by
      rw [startRenewal_renewal, if_pos rfl, hu]
      rfl
    rw [State.renewNowReply, hrecord, hstart, hu] at howner
    exact request_answered hs 0x29 [BitVec.ofNat 8 h] howner rfl hs.awake
end

end Sys2Proof.Machine

/-! ## The start evaluation (R64 to R67) -/

namespace Sys2Proof.Machine

variable {s t : State} {h : Fin 2}

/-- The renewal that the start evaluation of a handler begins, if any (R64, R65). -/
def State.startChoice (s : State) (h : Fin 2) : Option RenewalKind :=
  if s.sc.opState ≠ .run ∨ (s.handler h).mode = .idle ∨ (s.handler h).mode = .defrost ∨ s.renewing h then none else s.renewalChoice h

theorem evaluate_none (hc : s.startChoice h = none) : evaluate h s = s := by
  unfold State.startChoice at hc
  unfold evaluate
  split
  · rfl
  · next hmay =>
    rw [if_neg hmay] at hc
    rw [hc]

theorem evaluate_some {k : RenewalKind} (hc : s.startChoice h = some k) :
    (s.handler h).mode ≠ .idle ∧ evaluate h s = startRenewal h k s := by
  unfold State.startChoice at hc
  unfold evaluate
  split at hc
  · exact absurd hc (by simp)
  · next hmay =>
    rw [if_neg hmay, hc]
    exact ⟨fun hidle => hmay (.inr (.inl hidle)), rfl⟩

/-- What the choice depends on. -/
theorem startChoice_congr (hsc : t.sc = s.sc) (hzr : t.zr = s.zr) (hsu : t.su = s.su) (hpl : t.pl = s.pl)
    (hhold : t.rs.airHold = s.rs.airHold) (hdemand : t.hs.lastDemand = s.hs.lastDemand)
    (hmode : (t.handler h).mode = (s.handler h).mode) (hrenewal : t.renewal h = s.renewal h) : t.startChoice h = s.startChoice h := by
  have husable (p : Option (Fin 32)) : t.usable p = s.usable p := by
    unfold State.usable State.point State.wm
    rw [hsu, hpl]
  have hmean : t.meanSetpoint h = s.meanSetpoint h := by
    unfold State.meanSetpoint State.countedZones State.zone
    rw [hdemand, hzr]
  have hfavourable : t.favourable h = s.favourable h := by
    unfold State.favourable State.wm
    rw [husable, husable, hmean, hmode, hpl]
  have hover : t.overCo2 h = s.overCo2 h := by
    unfold State.overCo2 State.point State.wm
    rw [hdemand, hsu, hpl]
  unfold State.startChoice State.renewalChoice State.renewing
  rw [hsc, hmode, hrenewal, hhold, hfavourable, hover]

theorem State.RenewalFrame.kept (hf : s.RenewalFrame t) : t.zr = s.zr ∧ t.su = s.su ∧ t.pl = s.pl ∧ t.sc = s.sc ∧
    t.rs.airHold = s.rs.airHold ∧ t.hs.lastDemand = s.hs.lastDemand ∧ t.hs.air = s.hs.air ∧ t.lu = s.lu := by
  unfold State.RenewalFrame at hf
  rw [hf]
  exact ⟨rfl, rfl, rfl, rfl, rfl, rfl, rfl, rfl⟩

theorem State.RenewalFrame.startChoice (hf : s.RenewalFrame t) (hmode : (t.handler h).mode = (s.handler h).mode)
    (hrenewal : t.renewal h = s.renewal h) : t.startChoice h = s.startChoice h := by
  obtain ⟨hzr, hsu, hpl, hsc, hhold, hdemand, -⟩ := hf.kept
  exact startChoice_congr hsc hzr hsu hpl hhold hdemand hmode hrenewal

/-! ### One handler evaluated -/

/-- A renewal record after a start evaluation (R64, R68). -/
def Renewal.evaluated (duration : Nat) (c : Option RenewalKind) (x : Renewal) : Renewal :=
  match c with
  | some k => x.started duration k
  | none => x

theorem evaluate_renewal (h k : Fin 2) : (evaluate h s).renewal k =
    if k = h then (s.renewal h).evaluated s.wm.renewalDuration (s.startChoice h) else s.renewal k := by
  cases hc : s.startChoice h with
  | none =>
    rw [evaluate_none hc]
    split
    · next hk => rw [hk, Renewal.evaluated]
    · rfl
  | some c => rw [(evaluate_some hc).2, startRenewal_renewal, Renewal.evaluated]

/-- A handler record after a start evaluation: its airflow values alone may change (R38, R40). -/
def Handler.evaluated (renewalBlower : Nat) (c : Option RenewalKind) (x : Handler) : Handler :=
  match c with
  | some _ => { x with blower := max x.baseBlower renewalBlower, fresh := 1000 }
  | none => x

theorem Handler.evaluated_mode (n : Nat) (c : Option RenewalKind) (x : Handler) : (x.evaluated n c).mode = x.mode := by
  cases c <;> rfl

theorem evaluate_handler (h k : Fin 2) : (evaluate h s).handler k =
    if k = h then (s.handler h).evaluated s.hs.air.renewalBlower (s.startChoice h) else s.handler k := by
  cases hc : s.startChoice h with
  | none =>
    rw [evaluate_none hc]
    split
    · next hk => rw [hk, Handler.evaluated]
    · rfl
  | some c =>
    obtain ⟨hmode, heq⟩ := evaluate_some hc
    rw [heq, startRenewal_handler h k c hmode, Handler.evaluated]

/-! ### Both handlers evaluated -/

/-- The evaluation of one handler leaves the choice of the other. -/
theorem evaluate_startChoice_other {g : Fin 2} (hg : g ≠ h) : (evaluate h s).startChoice g = s.startChoice g := by
  refine (evaluate_renewalFrame h).startChoice ?_ ?_
  · rw [evaluate_handler, if_neg hg]
  · rw [evaluate_renewal, if_neg hg]

theorem forHandlers_evaluate_renewal (h : Fin 2) : (forHandlers evaluate s).renewal h =
    (s.renewal h).evaluated s.wm.renewalDuration (s.startChoice h) := by
  have hwm : (evaluate 0 s).wm = s.wm := congrArg (·.pl.wm) (evaluate_renewalFrame 0)
  have hcases : h = 0 ∨ h = 1 := by omega
  rw [forHandlers]
  rcases hcases with rfl | rfl
  · rw [evaluate_renewal, if_neg (by decide), evaluate_renewal, if_pos rfl]
  · rw [evaluate_renewal, if_pos rfl, evaluate_renewal, if_neg (by decide), evaluate_startChoice_other (by decide), hwm]

theorem forHandlers_evaluate_handler (h : Fin 2) : (forHandlers evaluate s).handler h =
    (s.handler h).evaluated s.hs.air.renewalBlower (s.startChoice h) := by
  have hair : (evaluate 0 s).hs.air = s.hs.air := congrArg (·.hs.air) (evaluate_renewalFrame 0)
  have hcases : h = 0 ∨ h = 1 := by omega
  rw [forHandlers]
  rcases hcases with rfl | rfl
  · rw [evaluate_handler, if_neg (by decide), evaluate_handler, if_pos rfl]
  · rw [evaluate_handler, if_pos rfl, evaluate_handler, if_neg (by decide), evaluate_startChoice_other (by decide), hair]

/-! ### Which renewal starts (R65 to R67) -/

theorem startChoice_idle (hidle : (s.handler h).mode = .idle ∨ (s.handler h).mode = .defrost) : s.startChoice h = none := by
  rw [State.startChoice, if_pos]
  exact .inr (hidle.elim .inl fun hd => .inr (.inl hd))

theorem startChoice_renewing (hr : (s.renewal h).state ≠ .idle) : s.startChoice h = none := by
  rw [State.startChoice, if_pos]
  exact .inr (.inr (.inr (renewing_iff.mpr hr)))

section
variable (hrun : s.sc.opState = .run) (hnidle : (s.handler h).mode ≠ .idle) (hndefrost : (s.handler h).mode ≠ .defrost)
  (hidle : (s.renewal h).state = .idle)
include hrun hnidle hndefrost hidle

theorem startChoice_eq : s.startChoice h = s.renewalChoice h := by
  rw [State.startChoice, if_neg]
  rintro (hno | hno | hno | hno)
  · exact hno hrun
  · exact hnidle hno
  · exact hndefrost hno
  · exact renewing_iff.mp hno hidle

theorem startChoice_forced (hb : (s.renewal h).balance = -8) (hhold : s.rs.airHold ≠ .hard) : s.startChoice h = some .forced := by
  rw [startChoice_eq hrun hnidle hndefrost hidle, State.renewalChoice]
  exact if_pos ⟨hb, hhold⟩

theorem startChoice_due (hb : (s.renewal h).balance ≠ -8) (hdebt : (s.renewal h).balance < 0) (hhold : s.rs.airHold = .none) :
    s.startChoice h = some .due := by
  rw [startChoice_eq hrun hnidle hndefrost hidle, State.renewalChoice]
  rw [if_neg fun hf => hb hf.1, if_pos ⟨hdebt, hhold⟩]

theorem startChoice_free (hb : 0 ≤ (s.renewal h).balance) (hroom : (s.renewal h).balance < 8) (hhold : s.rs.airHold = .none) :
    s.startChoice h = if s.favourable h then some .economy else if s.overCo2 h then some .airQuality else none := by
  rw [startChoice_eq hrun hnidle hndefrost hidle, State.renewalChoice]
  simp [hhold, hroom, show ¬ (s.renewal h).balance = -8 by omega, show ¬ (s.renewal h).balance < 0 by omega]
end

theorem startChoice_full (hb : 8 ≤ (s.renewal h).balance) : s.startChoice h = none := by
  have hchoice : s.renewalChoice h = none := by
    simp [State.renewalChoice, show ¬ (s.renewal h).balance = -8 by omega, show ¬ (s.renewal h).balance < 0 by omega,
      show ¬ (s.renewal h).balance < 8 by omega]
  rw [State.startChoice, hchoice]
  exact ite_self _

theorem startChoice_held (hhold : s.rs.airHold ≠ .none) (hb : (s.renewal h).balance ≠ -8 ∨ s.rs.airHold = .hard) :
    s.startChoice h = none := by
  have hchoice : s.renewalChoice h = none := by
    rcases hb with hb | hhard
    · simp [State.renewalChoice, hb, hhold]
    · simp [State.renewalChoice, hhard]
  rw [State.startChoice, hchoice]
  exact ite_self _

/-! ### Favourable outside air and the CO2 limit, as the spec says them (R66, R67) -/

/-- The setpoints of the zones that the last demand set marks counted for a handler (R66). -/
def State.countedSetpoints (s : State) (h : Fin 2) : List Int := (s.countedZones h).map fun z => (s.zone z).setpoint

theorem meanSetpoint_eq : s.meanSetpoint h =
    if s.countedSetpoints h = [] then none
    else some (roundHalfAway (s.countedSetpoints h).sum (s.countedSetpoints h).length) := by
  unfold State.meanSetpoint State.countedSetpoints
  cases s.countedZones h with
  | nil => rfl
  | cons z zs =>
    rw [if_neg (by simp), ← sumInt_eq_sum, List.length_map]

/-- The outside air helps a handler (R66). -/
def State.Helps (s : State) (h : Fin 2) : Prop :=
  ∃ out, s.usable s.wm.outdoorPoint = some out ∧
    (((s.handler h).mode = .cool ∧ ∃ ret, s.usable (s.wm.returnPoint h) = some ret ∧ out ≤ ret - 30) ∨
      ((s.handler h).mode = .heat ∧ ∃ ret, s.usable (s.wm.returnPoint h) = some ret ∧ ret + 30 ≤ out) ∨
      ((s.handler h).mode = .vent ∧ s.countedSetpoints h ≠ [] ∧
        (out - roundHalfAway (s.countedSetpoints h).sum (s.countedSetpoints h).length).natAbs ≤ 20))

theorem favourable_iff : s.favourable h = true ↔ s.Helps h := by
  unfold State.favourable State.Helps
  cases s.usable s.wm.outdoorPoint with
  | none => simp
  | some out =>
    cases (s.handler h).mode with
    | idle => simp
    | defrost => simp
    | heat => cases s.usable (s.wm.returnPoint h) <;> simp
    | cool => cases s.usable (s.wm.returnPoint h) <;> simp
    | vent =>
      rw [meanSetpoint_eq]
      by_cases hempty : s.countedSetpoints h = []
      · simp [hempty]
      · simp [hempty]

theorem overCo2_iff : s.overCo2 h = true ↔ ∃ d, s.hs.lastDemand = some d ∧ ∃ z, (d.zones[z]).handler = h ∧ (d.zones[z]).state = .active ∧
    ∃ p, s.wm.zoneCo2Point z = some p ∧ s.wm.pointKind p = .co2 ∧ (s.point p).state = .valid ∧ s.wm.co2Limit < (s.point p).value := by
  unfold State.overCo2
  cases s.hs.lastDemand with
  | none => simp
  | some d =>
    have hzone (z : Fin 12) : (match s.wm.zoneCo2Point z with
        | none => false
        | some p => s.wm.pointKind p == .co2 && (s.point p).state == .valid && decide (s.wm.co2Limit < (s.point p).value)) = true ↔
        ∃ p, s.wm.zoneCo2Point z = some p ∧ s.wm.pointKind p = .co2 ∧ (s.point p).state = .valid ∧ s.wm.co2Limit < (s.point p).value := by
      cases s.wm.zoneCo2Point z with
      | none => simp
      | some p => simp [and_assoc]
    simp only [List.any_eq_true, List.mem_finRange, true_and, Bool.and_eq_true, beq_iff_eq, Option.some.injEq, exists_eq_left',
      and_assoc]
    exact exists_congr fun z => and_congr_right fun _ => and_congr_right fun _ => hzone z

end Sys2Proof.Machine

/-! ## RENEWAL_COMPLETE and INTERVAL_EXPIRY (R63, R69) -/

namespace Sys2Proof.Machine

variable {s v : State} {h : Fin 2}

theorem freshValue_congr {t : State} (hmode : (t.handler h).mode = (s.handler h).mode) (hrenewal : (t.renewal h).state = (s.renewal h).state)
    (hhold : t.rs.airHold = s.rs.airHold) (hair : t.hs.air = s.hs.air) : t.freshValue h = s.freshValue h := by
  unfold State.freshValue State.renewing
  rw [hmode, hrenewal, hhold, hair]

theorem putRenewal_twice (h : Fin 2) (x y : Renewal) : (s.putRenewal h x).putRenewal h y = s.putRenewal h y := by
  unfold State.putRenewal
  simp only [State.setRs_rs, Vector.set_set]
  rfl

theorem exec_renewalComplete (hr : (s.renewal h).state ≠ .idle) :
    exec (.renewalComplete h) s = .next (endRenewal h .completed (credit h s)) :=
  if_pos (renewing_iff.mpr hr)

/-- A renewal that ends with a credit (R62, R69). -/
theorem endRenewal_credit {u : State} (hu : u = s.putRenewal h { s.renewal h with
      balance := min 8 ((s.renewal h).balance + 1), state := .idle, timer := 0, lastEnd := .completed }) :
    endRenewal h .completed (credit h s) = (u.putHandler h { s.handler h with
      blower := (s.handler h).baseBlower, fresh := u.freshValue h }).setBus { s.bus with
        ouValues := s.bus.ouValues ++ [(.blower h, (s.handler h).baseBlower), (.freshDamper h, u.freshValue h)] } := by
  have hrecord : u = (credit h s).putRenewal h (((credit h s).renewal h).ended .completed) := by
    rw [hu, credit, State.putRenewal_renewal_same, putRenewal_twice]
    rfl
  have hend := endRenewal_eq h .completed hrecord
  rw [hend]
  rfl

theorem paused_iff : s.intervalPaused h = true ↔ s.sc.opState ≠ .run ∨ (s.handler h).mode = .idle := by
  simp [State.intervalPaused]

section
variable (hgoes : ¬ (s.sc.opState ≠ .run ∨ (s.handler h).mode = .idle))
include hgoes

theorem exec_intervalExpiry : exec (.intervalExpiry h) s = .next (kick (intervalExpired h s)) :=
  if_neg (fun hp => hgoes (paused_iff.mp hp))

/-- An interval expiry that takes a credit (R63). -/
theorem exec_intervalExpiry_counts (hb : -8 < (s.renewal h).balance) (hv : v = s.putRenewal h { s.renewal h with
      interval := 100000 * s.wm.renewalInterval, balance := (s.renewal h).balance - 1 }) :
    exec (.intervalExpiry h) s = .next (kick (evaluate h v)) := by
  rw [exec_intervalExpiry hgoes, intervalExpired]
  rw [if_pos hb, if_pos hb, sec_eq, hv]

/-- An interval expiry at the lowest balance (R63). -/
theorem exec_intervalExpiry_overdue (hb : (s.renewal h).balance = -8) (hv : v = latch .renewalOverdue h (-8) (s.putRenewal h { s.renewal h with
      interval := 100000 * s.wm.renewalInterval, balance := -8 })) :
    exec (.intervalExpiry h) s = .next (kick (evaluate h v)) := by
  have hnot : ¬ -8 < (s.renewal h).balance := by omega
  rw [exec_intervalExpiry hgoes, intervalExpired]
  rw [if_neg hnot, if_neg hnot, sec_eq, hv]
end

theorem kick_evaluate_frame (hv : v = { s with rs := v.rs, lu := v.lu }) : kick (evaluate h v) = { s with
    rs := (kick (evaluate h v)).rs, hs := (kick (evaluate h v)).hs, bus := (kick (evaluate h v)).bus
    lu := (kick (evaluate h v)).lu } := by
  have hframe := evaluate_renewalFrame (s := v) h
  have hkick := kick_eq (evaluate h v)
  unfold State.RenewalFrame at hframe
  generalize kick (evaluate h v) = e at *
  generalize evaluate h v = w at *
  rw [hkick, hframe, hv]
  rfl

/-- What is read of a handler's renewal and airflow after an evaluation. -/
theorem kick_evaluate_renewal : (kick (evaluate h v)).renewal h = (v.renewal h).evaluated v.wm.renewalDuration (v.startChoice h) := by
  rw [kick_eq]
  exact (evaluate_renewal h h).trans (if_pos rfl)

theorem kick_evaluate_handler : (kick (evaluate h v)).handler h = (v.handler h).evaluated v.hs.air.renewalBlower (v.startChoice h) := by
  rw [kick_eq]
  exact (evaluate_handler h h).trans (if_pos rfl)

theorem Renewal.evaluated_balance (n : Nat) (c : Option RenewalKind) (x : Renewal) : (x.evaluated n c).balance = x.balance := by
  cases c <;> rfl

theorem Renewal.evaluated_interval (n : Nat) (c : Option RenewalKind) (x : Renewal) : (x.evaluated n c).interval = x.interval := by
  cases c <;> rfl

theorem countedSetpoints_eq : s.countedSetpoints h = match s.hs.lastDemand with
    | some d => ((List.finRange 12).filter fun z => (d.zones[z]).counted && (d.zones[z]).handler == h).map fun z => (s.zone z).setpoint
    | none => [] := by
  unfold State.countedSetpoints State.countedZones
  cases s.hs.lastDemand <;> rfl

/-- What is read of a state whose balance has been counted down (R63). -/
theorem counted_fields (hv : v = s.putRenewal h { s.renewal h with
      interval := 100000 * s.wm.renewalInterval, balance := (s.renewal h).balance - 1 }) :
    v.renewal h = { s.renewal h with interval := 100000 * s.wm.renewalInterval, balance := (s.renewal h).balance - 1 } ∧
      v.handler h = s.handler h ∧ v.sc.opState = s.sc.opState ∧ v.rs.airHold = s.rs.airHold ∧ v.wm = s.wm ∧ v.hs.air = s.hs.air := by
  rw [hv, State.putRenewal_renewal_same]
  exact ⟨rfl, rfl, rfl, rfl, rfl, rfl⟩

/-- Settles O30. -/
theorem renewalsCountTheBalance : Obligations.RenewalsCountTheBalance := by
  intro s h x paused
  refine ⟨fun hidle => ?_, fun hr => ?_, fun hp => ?_, fun hgoes hsettled hhard hb => ?_, fun hgoes hb => ?_,
    fun hgoes hb hdebt hhold hidle hndefrost => ?_, fun hgoes hb hfull hhold hidle hndefrost => ?_⟩
  · exact if_neg fun hr => renewing_iff.mp hr hidle
  · obtain ⟨u, hu⟩ : ∃ u, u = s.putRenewal h { s.renewal h with
      balance := min 8 ((s.renewal h).balance + 1), state := .idle, timer := 0, lastEnd := .completed } := ⟨_, rfl⟩
    refine ⟨_, exec_renewalComplete hr, ?_⟩
    have hend := endRenewal_credit hu
    have hfresh : (endRenewal h .completed (credit h s)).freshValue h = u.freshValue h := by
      rw [hend]
      refine freshValue_congr ?_ rfl rfl rfl
      have hhandler : u.handler h = s.handler h := by
        rw [hu]
        rfl
      rw [hhandler]
      have hput := congrArg Handler.mode (State.putHandler_handler_same u h { s.handler h with
        blower := (s.handler h).baseBlower, fresh := u.freshValue h })
      exact hput
    rw [hfresh, hend, hu]
    rfl
  · exact if_pos (paused_iff.mpr hp)
  · obtain ⟨v, hv⟩ : ∃ v, v = s.putRenewal h { s.renewal h with
      interval := 100000 * s.wm.renewalInterval, balance := (s.renewal h).balance - 1 } := ⟨_, rfl⟩
    have hnone : v.startChoice h = none := by
      have hairHold : v.rs.airHold = .hard := by
        rw [hv]
        exact hhard
      exact startChoice_held (by rw [hairHold]; decide) (.inr hairHold)
    rw [exec_intervalExpiry_counts hgoes hb hv, evaluate_none hnone, kick_settled (by rw [hv]; exact hsettled), hv]
    rfl
  · obtain ⟨v, hv⟩ : ∃ v, v = latch .renewalOverdue h (-8) (s.putRenewal h { s.renewal h with
      interval := 100000 * s.wm.renewalInterval, balance := -8 }) := ⟨_, rfl⟩
    have hrecord : v.renewal h = { s.renewal h with interval := 100000 * s.wm.renewalInterval, balance := -8 } := by
      rw [hv, latch_renewal, State.putRenewal_renewal_same]
    refine ⟨_, exec_intervalExpiry_overdue hgoes hb hv, kick_evaluate_frame (by rw [hv]; rfl), ?_, ?_, ?_⟩
    · rw [kick_evaluate_renewal, Renewal.evaluated_balance, hrecord]
    · rw [kick_evaluate_renewal, Renewal.evaluated_interval, hrecord]
    · obtain ⟨-, -, -, -, -, -, -, hlu⟩ := (evaluate_renewalFrame (s := v) h).kept
      rw [kick_event, hlu, hv, latch_event]
      rfl
  · obtain ⟨v, hv⟩ : ∃ v, v = s.putRenewal h { s.renewal h with
      interval := 100000 * s.wm.renewalInterval, balance := (s.renewal h).balance - 1 } := ⟨_, rfl⟩
    obtain ⟨hrecord, hhandler, hop, hairHold, hwm, hair⟩ := counted_fields hv
    obtain ⟨hrun, hnidle⟩ := not_or.mp hgoes
    have hchoice : v.startChoice h = some (if (s.renewal h).balance - 1 = -8 then .forced else .due) := by
      have hv1 : v.sc.opState = .run := hop.trans (not_not.mp hrun)
      have hv2 : (v.handler h).mode ≠ .idle := by rw [hhandler]; exact hnidle
      have hv3 : (v.handler h).mode ≠ .defrost := by rw [hhandler]; exact hndefrost
      have hv4 : (v.renewal h).state = .idle := by rw [hrecord]; exact hidle
      have hbalance : (v.renewal h).balance = (s.renewal h).balance - 1 := by rw [hrecord]
      split
      · next hlow => exact startChoice_forced hv1 hv2 hv3 hv4 (hbalance.trans hlow) (by rw [hairHold, hhold]; decide)
      · next hlow =>
        have hx : (s.renewal h).balance ≤ 0 := hdebt
        exact startChoice_due hv1 hv2 hv3 hv4 (by rw [hbalance]; exact hlow) (by omega)
          (hairHold.trans hhold)
    refine ⟨_, exec_intervalExpiry_counts hgoes hb hv, kick_evaluate_frame (by rw [hv]; rfl), ?_, ?_, ?_⟩
    · rw [kick_evaluate_renewal, hchoice, hrecord, hwm, Renewal.evaluated, Renewal.started]
      by_cases hlow : (s.renewal h).balance - 1 = -8
      · simp [hlow, x]
      · simp [hlow, x]
    · rw [kick_evaluate_handler, hchoice]
      rfl
    · rw [kick_evaluate_handler, hchoice, hhandler, hair]
      rfl
  · intro m setpoints helps stale counted
    obtain ⟨v, hv⟩ : ∃ v, v = s.putRenewal h { s.renewal h with
      interval := 100000 * s.wm.renewalInterval, balance := (s.renewal h).balance - 1 } := ⟨_, rfl⟩
    obtain ⟨hrecord, hhandler, hop, hairHold, hwm, hair⟩ := counted_fields hv
    obtain ⟨hrun, hnidle⟩ := not_or.mp hgoes
    have hhelps : v.favourable h = true ↔ helps := by
      have hsetpoints : v.countedSetpoints h = setpoints := by
        rw [hv]
        exact countedSetpoints_eq
      rw [favourable_iff, State.Helps, hsetpoints, hv]
      exact Iff.rfl
    have hstale : v.overCo2 h = true ↔ stale := by
      rw [overCo2_iff, hv]
      exact Iff.rfl
    have hlow : 0 < (s.renewal h).balance := hb
    have hchoice : v.startChoice h = if v.favourable h then some .economy else if v.overCo2 h then some .airQuality else none := by
      have hhigh : (s.renewal h).balance ≤ 8 := hfull
      have hbalance : (v.renewal h).balance = (s.renewal h).balance - 1 := by rw [hrecord]
      exact startChoice_free (hop.trans (not_not.mp hrun)) (by rw [hhandler]; exact hnidle) (by rw [hhandler]; exact hndefrost)
        (by rw [hrecord]; exact hidle) (by omega) (by omega) (hairHold.trans hhold)
    refine ⟨_, exec_intervalExpiry_counts hgoes (by omega) hv, kick_evaluate_frame (by rw [hv]; rfl), fun hyes => ?_, fun hno hyes => ?_,
      fun hyes => ?_, fun hno hnot => ?_⟩
    · rw [kick_evaluate_renewal, hchoice, if_pos (hhelps.mpr hyes), hrecord, hwm]
      rfl
    · rw [kick_evaluate_renewal, hchoice, if_neg (mt hhelps.mp hno), if_pos (hstale.mpr hyes), hrecord, hwm]
      rfl
    · obtain ⟨k, hk⟩ : ∃ k, v.startChoice h = some k := by
        rw [hchoice]
        by_cases hf : helps
        · exact ⟨_, if_pos (hhelps.mpr hf)⟩
        · rw [if_neg (mt hhelps.mp hf), if_pos (hstale.mpr (hyes.resolve_left hf))]
          exact ⟨_, rfl⟩
      rw [kick_evaluate_handler, hk, hhandler, hair]
      exact ⟨rfl, rfl⟩
    · have hnone : v.startChoice h = none := by
        rw [hchoice, if_neg (mt hhelps.mp hno), if_neg (mt hstale.mp hnot)]
      rw [evaluate_none hnone, kick_eq]
      refine ⟨hrecord, ?_, ?_⟩
      · rw [hv]
        rfl
      · rw [hv]
        rfl

end Sys2Proof.Machine

/-! ## AIR_HOLD (R70, R72) -/

namespace Sys2Proof.Machine

variable {s t u : State} {h : Fin 2}

/-! ### What a change of the hold does in RUN -/

/-- The renewals that a new hold forbids are ended (R70). -/
def endForbidden (before now : AirHold) (s : State) : State :=
  forHandlers (fun h s => if holdAborts before now (s.renewal h).state then endRenewal h .hold s else s) s

/-- The airflow follows a new hold in RUN (R70, R72). -/
def applyHold (before now : AirHold) (s : State) : State :=
  forHandlers renewFresh (forHandlers evaluate (endForbidden before now s))

section
variable {before now : AirHold}

theorem holdAborts_idle : holdAborts before now .idle = false := by
  cases now <;> simp [holdAborts]

theorem endForbidden_renewalFrame : s.RenewalFrame (endForbidden before now s) := by
  refine forHandlers_renewalFrame fun i u => ?_
  split
  · exact endRenewal_renewalFrame i _
  · exact .refl

theorem applyHold_renewalFrame : s.RenewalFrame (applyHold before now s) :=
  endForbidden_renewalFrame.trans
    ((forHandlers_renewalFrame fun i _ => evaluate_renewalFrame i).trans (forHandlers_renewalFrame fun i _ => renewFresh_renewalFrame i))

/-- A renewal record after the renewals that a new hold forbids are ended (R70). -/
def Renewal.heldBack (before now : AirHold) (x : Renewal) : Renewal := if holdAborts before now x.state then x.ended .hold else x

theorem endForbidden_renewal (h : Fin 2) : (endForbidden before now s).renewal h = (s.renewal h).heldBack before now := by
  refine forHandlers_pointwise State.renewal _ (fun _ => Renewal.heldBack before now) (fun i u k => ?_) s h
  unfold Renewal.heldBack
  split
  · exact endRenewal_renewal i k _
  · split
    · next hk => rw [hk]
    · rfl

theorem endForbidden_mode (h : Fin 2) : ((endForbidden before now s).handler h).mode = (s.handler h).mode := by
  refine forHandlers_pointwise (fun s k => (s.handler k).mode) _ (fun _ m => m) (fun i u k => ?_) s h
  have hmode : ((endRenewal i .hold u).handler k).mode = (u.handler k).mode := by
    obtain ⟨b, f, hb⟩ := endRenewal_handler (s := u) i k .hold
    rw [hb]
  split
  · rw [hmode]
    split
    · next hk => rw [hk]
    · rfl
  · split
    · next hk => rw [hk]
    · rfl

theorem applyHold_renewal (h : Fin 2) : (applyHold before now s).renewal h =
    ((s.renewal h).heldBack before now).evaluated s.wm.renewalDuration ((endForbidden before now s).startChoice h) := by
  obtain ⟨-, -, hpl, -⟩ := (endForbidden_renewalFrame (s := s) (before := before) (now := now)).kept
  have hwm : (endForbidden before now s).wm = s.wm := congrArg (·.wm) hpl
  have hlast : (applyHold before now s).renewal h = (forHandlers evaluate (endForbidden before now s)).renewal h := rfl
  rw [hlast, forHandlers_evaluate_renewal, endForbidden_renewal, hwm]

/-- A renewal that the new hold does not end is evaluated as it stood. -/
theorem applyHold_renewal_kept (hkept : holdAborts before now (s.renewal h).state = false) : (applyHold before now s).renewal h =
    (s.renewal h).evaluated s.wm.renewalDuration (s.startChoice h) := by
  have hrecord : (s.renewal h).heldBack before now = s.renewal h := if_neg (by rw [hkept]; decide)
  rw [applyHold_renewal, endForbidden_renewalFrame.startChoice (endForbidden_mode h) ((endForbidden_renewal h).trans hrecord), hrecord]

theorem renewFresh_freshValue (h k : Fin 2) : (renewFresh h s).freshValue k = s.freshValue k := by
  refine freshValue_congr ?_ rfl rfl rfl
  rw [renewFresh_handler]
  split
  · next hk => rw [hk]
  · rfl

/-- Both fresh dampers stand at their values (R40). -/
theorem forHandlers_renewFresh_fresh (h : Fin 2) : ((forHandlers renewFresh s).handler h).fresh = (forHandlers renewFresh s).freshValue h := by
  rw [forHandlers, renewFresh_freshValue, renewFresh_handler]
  split
  · next hk => rw [hk]
  · next hk =>
    have hzero : h = 0 := by omega
    rw [renewFresh_handler, if_pos hzero, renewFresh_freshValue, hzero]
end

/-! ### The request -/

/-- The answer of AIR_HOLD (R72). -/
def State.airHoldReply (t : State) (now : AirHold) : List Byte :=
  [0] ++ num8 now.code ++ num8 (t.renewal 0).state.code ++ int8 (t.renewal 0).balance
    ++ num8 (t.renewal 1).state.code ++ int8 (t.renewal 1).balance

theorem airHoldOwner_badArg {v : Byte} (hv : 3 ≤ v.toNat) : airHoldOwner v s = (s, [7]) := by
  have h0 : v ≠ 0 := by bv_omega
  have h1 : v ≠ 1 := by bv_omega
  have h2 : v ≠ 2 := by bv_omega
  rw [airHoldOwner, if_neg h0, if_neg h1, if_neg h2]
  rfl

section
variable (now : AirHold)

theorem airHoldOwner_eq (hu : u = s.setRs { s.rs with airHold := now }) (ht : t = if now = s.rs.airHold then s
    else if s.sc.opState ≠ .run then u else applyHold s.rs.airHold now u) :
    airHoldOwner (BitVec.ofNat 8 now.code) s = (t, t.airHoldReply now) := by
  rw [ht, hu]
  cases now <;> rfl
end

/-- Settles O28. -/
theorem airHoldStopsRenewals : Obligations.AirHoldStopsRenewals := by
  intro s hs
  refine ⟨fun v hv => request_only_answered hs 0x28 [v] (airHoldOwner_badArg hv), fun hold => ⟨fun hstays => ?_, fun hnew hrun => ?_⟩⟩
  · obtain ⟨u, hu⟩ : ∃ u, u = (s.withInHand 0x28 [BitVec.ofNat 8 hold.code]).setRs { s.rs with airHold := hold } := ⟨_, rfl⟩
    have howner : airHoldOwner (BitVec.ofNat 8 hold.code) (s.withInHand 0x28 [BitVec.ofNat 8 hold.code]) =
        (u, u.airHoldReply hold) := by
      refine airHoldOwner_eq hold hu ?_
      split
      · next heq =>
        rw [hu, heq]
        rfl
      · next hne =>
        have hstandby : s.sc.opState = .standby := hstays.resolve_left fun heq => hne heq.symm
        rw [if_pos]
        show s.sc.opState ≠ .run
        rw [hstandby]
        decide
    rw [hu] at howner
    exact request_answered hs 0x28 [BitVec.ofNat 8 hold.code] howner rfl hs.awake
  · obtain ⟨u, hu⟩ : ∃ u, u = (s.withInHand 0x28 [BitVec.ofNat 8 hold.code]).setRs { s.rs with airHold := hold } := ⟨_, rfl⟩
    have howner : airHoldOwner (BitVec.ofNat 8 hold.code) (s.withInHand 0x28 [BitVec.ofNat 8 hold.code]) =
        (applyHold s.rs.airHold hold u, (applyHold s.rs.airHold hold u).airHoldReply hold) := by
      refine airHoldOwner_eq hold hu ?_
      rw [if_neg, if_neg]
      · rfl
      · exact not_not_intro hrun
      · exact fun heq => hnew heq.symm
    have hframe := applyHold_renewalFrame (s := u) (before := s.rs.airHold) (now := hold)
    have hrecord (h : Fin 2) := applyHold_renewal (s := u) (before := s.rs.airHold) (now := hold) h
    have hkept (h : Fin 2) := applyHold_renewal_kept (s := u) (before := s.rs.airHold) (now := hold) (h := h)
    have hfresh (h : Fin 2) := forHandlers_renewFresh_fresh (s := forHandlers evaluate (endForbidden s.rs.airHold hold u)) h
    rw [← applyHold] at hfresh
    have hw := endForbidden_renewalFrame (s := u) (before := s.rs.airHold) (now := hold)
    have hwrecord := endForbidden_renewal (s := u) (before := s.rs.airHold) (now := hold)
    have hwmode := endForbidden_mode (s := u) (before := s.rs.airHold) (now := hold)
    generalize applyHold s.rs.airHold hold u = e at *
    generalize endForbidden s.rs.airHold hold u = w at *
    have hawake : e.sc.opState ≠ .parked := by
      rw [hframe, hu]
      exact hs.awake
    have hlu : e.lu = (s.withInHand 0x28 [BitVec.ofNat 8 hold.code]).lu := by
      rw [hframe, hu]
      rfl
    refine ⟨_, request_answered hs 0x28 [BitVec.ofNat 8 hold.code] howner hlu hawake, ?_, fun h => ?_⟩
    · unfold State.RenewalFrame at hframe
      rw [hframe, hu]
      rfl
    · have hop : u.sc.opState = .run := by
        rw [hu]
        exact hrun
      have hairHold : u.rs.airHold = hold := by rw [hu]; rfl
      have hrenewal : u.renewal h = s.renewal h := by rw [hu]; rfl
      have hhandler : u.handler h = s.handler h := by rw [hu]; rfl
      have hwm : u.wm = s.wm := by rw [hu]; rfl
      obtain ⟨-, -, -, hwop, hwhold, -⟩ := hw.kept
      replace hrecord := hrecord h
      replace hkept := hkept h
      replace hwrecord := hwrecord h
      replace hwmode := hwmode h
      rw [hrenewal, hwm] at hrecord hkept
      rw [hrenewal] at hwrecord
      have hbalance : ((s.renewal h).heldBack s.rs.airHold hold).balance = (s.renewal h).balance := by
        unfold Renewal.heldBack
        split <;> rfl
      have hended (hab : holdAborts s.rs.airHold hold (s.renewal h).state = true) (hnone : hold ≠ .none)
          (hb : (s.renewal h).balance ≠ -8 ∨ hold = .hard) : e.renewal h = (s.renewal h).ended .hold := by
        have hno : w.startChoice h = none := by
          refine startChoice_held (by rw [hwhold, hairHold]; exact hnone) ?_
          rw [hwrecord, hbalance, hwhold, hairHold]
          exact hb
        rw [hrecord, hno, Renewal.evaluated, Renewal.heldBack, if_pos hab]
      have hactive (hmode : (s.handler h).mode = .vent ∨ (s.handler h).mode = .heat ∨ (s.handler h).mode = .cool) :
          (s.handler h).mode ≠ .idle ∧ (s.handler h).mode ≠ .defrost := by
        rcases hmode with hm | hm | hm <;> rw [hm] <;> decide
      refine ⟨?_, hfresh h, fun hhard hr => ?_, fun hsoft hwas hr hb => ?_, fun hsoft hr => ?_, fun hnhard hb hr hmode => ?_,
        fun hnone hr => ?_, fun hnnone hr hb => ?_, fun hr hmode => ?_, fun hnone hr hb hmode => ?_⟩
      · have hthis : (e.renewal h).balance = (s.renewal h).balance := by rw [hrecord, Renewal.evaluated_balance, hbalance]
        exact hthis
      · exact hended (by rw [hhard]; simpa [holdAborts] using hr) (by rw [hhard]; decide) (.inr hhard)
      · exact hended (by rw [hsoft, hwas, hr]; rfl) (by rw [hsoft]; decide) (.inl hb)
      · refine (hkept (by rw [hsoft, hr]; exact Bool.and_false _)).trans ?_
        rw [startChoice_renewing (by rw [hrenewal, hr]; decide)]
        rfl
      · obtain ⟨hnidle, hndefrost⟩ := hactive hmode
        have hforced : w.startChoice h = some .forced := by
          refine startChoice_forced (by rw [hwop]; exact hop) (by rw [hwmode, hhandler]; exact hnidle) (by rw [hwmode, hhandler]; exact hndefrost) ?_
            (by rw [hwrecord, hbalance]; exact hb) (by rw [hwhold, hairHold]; exact hnhard)
          rw [hwrecord]
          rcases hr with hidle | ⟨hsoft, hwas, hrenewing⟩
          · rw [Renewal.heldBack, if_neg (by rw [hidle, holdAborts_idle]; decide)]
            exact hidle
          · rw [Renewal.heldBack, if_pos (by rw [hsoft, hwas, hrenewing]; rfl)]
            rfl
        refine hrecord.trans ?_
        rw [hforced]
        rcases hr with hidle | ⟨hsoft, hwas, hrenewing⟩
        · rw [Renewal.heldBack, if_neg (by rw [hidle, holdAborts_idle]; decide), if_neg (by rw [hidle]; decide)]
          rfl
        · rw [Renewal.heldBack, if_pos (by rw [hsoft, hwas, hrenewing]; rfl), if_pos hrenewing]
          rfl
      · refine (hkept (by rw [hnone]; rfl)).trans ?_
        rw [startChoice_renewing (by rw [hrenewal]; exact hr)]
        rfl
      · refine (hkept (by rw [hr]; exact holdAborts_idle)).trans ?_
        rw [startChoice_held (by rw [hairHold]; exact hnnone) (by rw [hrenewal, hairHold]; exact hb.symm)]
        rfl
      · refine (hkept (by rw [hr]; exact holdAborts_idle)).trans ?_
        rw [startChoice_idle (by rw [hhandler]; exact hmode)]
        rfl
      · obtain ⟨hnidle, hndefrost⟩ := hactive hmode
        have hevaluated := hkept (by rw [hnone]; rfl)
        have huidle : (u.renewal h).state = .idle := by rw [hrenewal]; exact hr
        have hunidle : (u.handler h).mode ≠ .idle := by rw [hhandler]; exact hnidle
        have hundefrost : (u.handler h).mode ≠ .defrost := by rw [hhandler]; exact hndefrost
        have huhold : u.rs.airHold = .none := hairHold.trans hnone
        intro x m setpoints helps stale started
        have hhelps : u.favourable h = true ↔ helps := by
          have hsetpoints : u.countedSetpoints h = setpoints := by
            rw [hu]
            exact countedSetpoints_eq
          rw [favourable_iff, State.Helps, hsetpoints, hu]
          exact Iff.rfl
        have hstale : u.overCo2 h = true ↔ stale := by
          rw [overCo2_iff, hu]
          exact Iff.rfl
        have hbefore : (u.renewal h).balance = x.balance := congrArg Renewal.balance hrenewal
        have hfree (hlow : 0 ≤ x.balance) (hroom : x.balance < 8) := startChoice_free hop hunidle hundefrost huidle
          (by rw [hbefore]; exact hlow) (by rw [hbefore]; exact hroom) huhold
        refine ⟨fun hdebt => ?_, fun hlow hroom hyes => ?_, fun hlow hroom hno hyes => ?_, fun hlow hroom hno hnot => ?_, fun hfull => ?_⟩
        · have hnlow : (u.renewal h).balance ≠ -8 := by
            rw [hrenewal]
            omega
          refine hevaluated.trans ?_
          rw [startChoice_due hop hunidle hundefrost huidle hnlow (by rw [hbefore]; exact hdebt) huhold]
          rfl
        · refine hevaluated.trans ?_
          rw [hfree hlow hroom, if_pos (hhelps.mpr hyes)]
          rfl
        · refine hevaluated.trans ?_
          rw [hfree hlow hroom, if_neg (mt hhelps.mp hno), if_pos (hstale.mpr hyes)]
          rfl
        · refine hevaluated.trans ?_
          rw [hfree hlow hroom, if_neg (mt hhelps.mp hno), if_neg (mt hstale.mp hnot)]
          rfl
        · refine hevaluated.trans ?_
          rw [startChoice_full (by rw [hbefore]; exact hfull)]
          rfl

end Sys2Proof.Machine

/-! ## Saves and the hard reset (R133, R168, R169) -/

namespace Sys2Proof.Machine

variable {s : State} {w : WorkingMemory}

/-! ### A page of the image -/

theorem imagePage_getElem? (w : WorkingMemory) (page : Nat) {i : Nat} (hi : i < 64) :
    (w.imagePage page)[i]? = w.image[64 * page + i]? := by
  rw [WorkingMemory.imagePage, List.getElem?_take_of_lt hi, List.getElem?_drop]

theorem imagePage_length_le (w : WorkingMemory) (page : Nat) : (w.imagePage page).length ≤ 64 := List.length_take_le _ _

theorem imageBody_length (w : WorkingMemory) : w.imageBody.length = 975 + 2 * w.locks.length := by
  have hcount : imageParams.length = 487 := by
    simp [imageParams]
  have hparams : (imageParams.flatMap fun n => wordBytes (w.word n)).length = 2 * imageParams.length :=
    length_flatMap_const (fun n => wordBytes_length (w.word n)) imageParams
  have hlocks : (w.locks.flatMap num16).length = 2 * w.locks.length := length_flatMap_const num16_length w.locks
  rw [WorkingMemory.imageBody, List.length_append, List.length_append, hparams, hcount, hlocks, num8_length]

/-! ### A page mixed of old and new bytes (R169) -/

/-- What an address reads once the page being written is a mix: within the page the new byte or the old one, elsewhere the old one. -/
theorem mixPage_read (hm : s.MemoryCanonical) (a : Nat) : (mixPage w s).eeprom.read a =
    if 64 * s.pl.savePage ≤ a ∧ a < 64 * s.pl.savePage + 64 then
      if Config.mixTakesNew s.free a then w.image[a]?.getD (Config.mixPadding s.free a) else s.eeprom.read a
    else s.eeprom.read a := by
  have hlength : (mixedPage w s.pl.savePage s.free s.eeprom).length = 64 := by
    rw [mixedPage, List.length_map, List.length_range]
  have hread : (mixPage w s).eeprom.read a =
      (s.eeprom.writeBytes (64 * s.pl.savePage) (mixedPage w s.pl.savePage s.free s.eeprom)).read a := rfl
  rw [hread, Memory.read_writeBytes hm, hlength]
  split
  · next hin =>
    have hi : a - 64 * s.pl.savePage < 64 := by omega
    have haddress : 64 * s.pl.savePage + (a - 64 * s.pl.savePage) = a := by omega
    rw [mixedPage, List.getElem?_map, List.getElem?_range hi]
    simp only [Option.map_some, Option.getD_some]
    rw [haddress, imagePage_getElem? w _ hi, haddress]
  · rfl

theorem mixPage_read_outside (hm : s.MemoryCanonical) {a : Nat} (ha : a < 64 * s.pl.savePage ∨ 64 * s.pl.savePage + 64 ≤ a) :
    (mixPage w s).eeprom.read a = s.eeprom.read a := by
  rw [mixPage_read hm, if_neg (by omega)]

theorem mixPage_read_image (hm : s.MemoryCanonical) {a : Nat} (ha : a < w.image.length) :
    (mixPage w s).eeprom.read a = s.eeprom.read a ∨ some ((mixPage w s).eeprom.read a) = w.image[a]? := by
  rw [mixPage_read hm]
  split
  · split
    · right
      rw [List.getElem?_eq_getElem ha]
      rfl
    · exact .inl rfl
  · exact .inl rfl

/-! ### HARD_RESET (R133) -/

theorem cutSave_idle (h : s.pl.saveState = .idle) : cutSave s = s := by
  rw [cutSave, h]

theorem cutSave_cases : cutSave s = s ∨ ∃ w, s.pl.snapshot = some w ∧ cutSave s = mixPage w s := by
  unfold cutSave
  split
  · next w _ hw => exact .inr ⟨w, hw, rfl⟩
  · exact .inl rfl

/-- The wake line's debounce begins from the level at its input (R132). -/
theorem debounced_wake : debounced (s.pins.wake != .inactive) none = if s.pins.wake = .active then some 2000 else none := by
  cases s.pins.wake <;> rfl

/-- A door's debounce begins from the level at its input (R100). -/
theorem debounced_door (d : Fin 4) :
    debounced (s.pins.doors[d] != .closed) none = if s.pins.doors[d] = .opened then some 2000 else none := by
  cases s.pins.doors[d] <;> rfl

/-- Settles O48. -/
theorem hardResetStartsAfresh : Obligations.HardResetStartsAfresh := by
  intro rate s
  refine ⟨_, rfl, ?_, fun d => ?_, fun hidle => ?_, fun hm a ha => ?_, fun hm w hw a ha => ?_⟩
  · rw [← debounced_wake]
    rfl
  · rw [← debounced_door, State.door]
    exact Vector.getElem_ofFn _
  · show (cutSave s).eeprom = s.eeprom ∧ (cutSave s).free = s.free
    rw [cutSave_idle hidle]
    exact ⟨rfl, rfl⟩
  · show (cutSave s).eeprom.read a = s.eeprom.read a
    rcases cutSave_cases (s := s) with h | ⟨w, -, h⟩
    · rw [h]
    · rw [h, mixPage_read_outside hm ha]
  · show (cutSave s).eeprom.read a = s.eeprom.read a ∨ some ((cutSave s).eeprom.read a) = w.image[a]?
    rcases cutSave_cases (s := s) with h | ⟨w', hw', h⟩
    · rw [h]
      exact .inl rfl
    · obtain rfl := Option.some.inj (hw.symm.trans hw')
      rw [h]
      exact mixPage_read_image hm ha

/-! ### The save, page by page (R168, R169) -/

theorem saveProfileOwner_busy (h : s.pl.saveState = .saving) : saveProfileOwner s = (s, [3]) := if_pos h

theorem saveProfileOwner_starts (h : s.pl.saveState = .idle) : saveProfileOwner s =
    (s.setPl { s.pl with snapshot := some s.wm, savePage := 0, saveState := .saving },
      [0] ++ num16 (991 + 2 * s.wm.locks.length) ++ num8 ((991 + 2 * s.wm.locks.length + 63) / 64)) := by
  rw [saveProfileOwner, if_neg (by rw [h]; decide)]
  rfl

theorem exec_savePageComplete_idle (page : PageResult) (h : s.pl.saveState = .idle) : exec (.savePageComplete page) s = .next s := by
  show execSavePageComplete page s = .next s
  rw [execSavePageComplete, h]

theorem exec_savePollTimeout_idle (h : s.pl.saveState = .idle) : exec .savePollTimeout s = .next s := by
  show execSavePollTimeout s = .next s
  rw [execSavePollTimeout, h]

section
variable (hsaving : s.pl.saveState = .saving) (hw : s.pl.snapshot = some w)
include hsaving hw

theorem exec_savePageComplete_readBack (bytes : Vector Byte 64) :
    exec (.savePageComplete (.readBack bytes)) s = .next (kick (savePageRead w bytes s)) := by
  show execSavePageComplete (.readBack bytes) s = _
  rw [execSavePageComplete, hsaving, hw]

theorem exec_savePageComplete_noAnswer : exec (.savePageComplete .noAnswer) s = .next (kick (saveUnanswered w s)) := by
  show execSavePageComplete .noAnswer s = _
  rw [execSavePageComplete, hsaving, hw]

theorem exec_savePollTimeout_saving : exec .savePollTimeout s = .next (kick (saveUnanswered w s)) := by
  show execSavePollTimeout s = _
  rw [execSavePollTimeout, hsaving, hw]
end

/-- The page reads back as the image has it, as far as the image goes (log 28). -/
theorem readBack_iff (page : Nat) (bytes : Vector Byte 64) :
    bytes.toList.take (w.imagePage page).length = w.imagePage page ↔
      ∀ i : Fin 64, ∀ b, w.image[64 * page + i.val]? = some b → bytes[i] = b := by
  have hbytes (i : Nat) (hi : i < 64) : bytes.toList[i]? = some bytes[i] := by
    rw [Vector.getElem?_toList]
    exact Vector.getElem?_eq_getElem hi
  constructor
  · intro h i b hb
    rw [← imagePage_getElem? w page i.isLt] at hb
    have hlt : i.val < (w.imagePage page).length := (List.getElem?_eq_some_iff.mp hb).1
    rw [← h, List.getElem?_take_of_lt hlt, hbytes i i.isLt] at hb
    exact Option.some.inj hb
  · intro h
    refine List.ext_getElem? fun i => ?_
    by_cases hi : i < (w.imagePage page).length
    · have h64 : i < 64 := Nat.lt_of_lt_of_le hi (imagePage_length_le w page)
      have hpage := List.getElem?_eq_getElem hi
      rw [List.getElem?_take_of_lt hi, hbytes i h64, hpage]
      rw [imagePage_getElem? w page h64] at hpage
      exact congrArg some (h ⟨i, h64⟩ _ hpage)
    · rw [List.getElem?_take_eq_none (by omega), List.getElem?_eq_none (by omega)]

/-- The state once a page has been read back, before it is compared (R169). -/
def State.pageReadBack (s : State) (bytes : Vector Byte 64) : State :=
  s.setEeprom (s.eeprom.writeBytes (64 * s.pl.savePage) bytes.toList)

section
variable {bytes : Vector Byte 64}

theorem savePageRead_differs (h : ¬ ∀ i : Fin 64, ∀ b, w.image[64 * s.pl.savePage + i.val]? = some b → bytes[i] = b) :
    savePageRead w bytes s = endSave .profileFault 1 7 (s.pageReadBack bytes) :=
  if_pos (mt (readBack_iff _ _).mp h)

variable (h : ∀ i : Fin 64, ∀ b, w.image[64 * s.pl.savePage + i.val]? = some b → bytes[i] = b)
include h

theorem savePageRead_last (hlast : (991 + 2 * w.locks.length + 63) / 64 ≤ s.pl.savePage + 1) :
    savePageRead w bytes s = endSave .profileSaved 0 ((991 + 2 * w.locks.length + 63) / 64 : Nat) (s.pageReadBack bytes) := by
  rw [savePageRead, if_neg (not_not_intro ((readBack_iff _ _).mpr h))]
  exact if_pos hlast

theorem savePageRead_next (hnext : s.pl.savePage + 1 < (991 + 2 * w.locks.length + 63) / 64) :
    savePageRead w bytes s = (s.pageReadBack bytes).setPl { s.pl with savePage := s.pl.savePage + 1 } := by
  rw [savePageRead, if_neg (not_not_intro ((readBack_iff _ _).mpr h))]
  exact if_neg (Nat.not_le.mpr hnext)
end

/-- The comparison leaves the EEPROM as it was read back. -/
theorem savePageRead_keeps (bytes : Vector Byte 64) : savePageRead w bytes s = { s with
    pl := (savePageRead w bytes s).pl, eeprom := (s.pageReadBack bytes).eeprom, lu := (savePageRead w bytes s).lu } := by
  unfold savePageRead
  dsimp only
  split
  · rfl
  · split <;> rfl

theorem pageReadBack_read (hm : s.MemoryCanonical) (bytes : Vector Byte 64) (a : Nat) : (s.pageReadBack bytes).eeprom.read a =
    if 64 * s.pl.savePage ≤ a ∧ a < 64 * s.pl.savePage + 64 then bytes.toList[a - 64 * s.pl.savePage]?.getD 0 else s.eeprom.read a := by
  have hread : (s.pageReadBack bytes).eeprom.read a = (s.eeprom.writeBytes (64 * s.pl.savePage) bytes.toList).read a := rfl
  rw [hread, Memory.read_writeBytes hm, Vector.length_toList]

theorem endSave_pl (k : EventKind) (n : Nat) (v : Int) : (endSave k n v s).pl = { s.pl with saveState := .idle, snapshot := none } := rfl

theorem endSave_event (k : EventKind) (n : Nat) (v : Int) (hv : clampInt (-32768) 32767 v = v) : (endSave k n v s).lu.event k =
    { s.lu.event k with latched := true, subject := n, value := v } := by
  rw [endSave, latch_event, hv]
  rfl

/-- What a step of the save may touch (R169). -/
def State.SaveFrame (s t : State) : Prop := t = { s with pl := t.pl, eeprom := t.eeprom, free := t.free, lu := t.lu }

theorem State.SaveFrame.kick {v : State} (h : s.SaveFrame v) : s.SaveFrame (kick v) := by
  have hkick := kick_eq v
  unfold State.SaveFrame at *
  generalize Machine.kick v = e at *
  rw [hkick, h]
  rfl

theorem State.SaveFrame.of_blocks (m : Memory) (n : Nat) (p : PL) (l : LU) :
    s.SaveFrame ((((s.setEeprom m).setFree n).setPl p).setLu l) := rfl

theorem saveUnanswered_saveFrame : s.SaveFrame (saveUnanswered w s) := State.SaveFrame.of_blocks _ _ _ _

theorem endSave_eeprom (k : EventKind) (n : Nat) (v : Int) : (endSave k n v s).eeprom = s.eeprom := rfl

theorem saveUnanswered_read (a : Nat) : (saveUnanswered w s).eeprom.read a = (mixPage w s).eeprom.read a := by
  rw [saveUnanswered, endSave_eeprom]

theorem saveUnanswered_pl : (saveUnanswered w s).pl = { s.pl with saveState := .idle, snapshot := none } := by
  have hpl : (mixPage w s).pl = s.pl := by simp
  rw [saveUnanswered, endSave_pl, hpl]

theorem saveUnanswered_event : (saveUnanswered w s).lu.event .profileFault =
    { s.lu.event .profileFault with latched := true, subject := 1, value := 1 } := by
  have hlu : (mixPage w s).lu = s.lu := by simp
  rw [saveUnanswered, endSave_event .profileFault 1 1 rfl, hlu]

theorem savePageRead_saveFrame (bytes : Vector Byte 64) : s.SaveFrame (savePageRead w bytes s) := by
  have h := savePageRead_keeps (s := s) (w := w) bytes
  unfold State.SaveFrame
  generalize savePageRead w bytes s = v at *
  generalize s.pageReadBack bytes = u at *
  rw [h]

theorem kick_read (v : State) (a : Nat) : (kick v).eeprom.read a = v.eeprom.read a := by
  rw [kick_eq]
  rfl

theorem kick_pl (v : State) : (kick v).pl = v.pl := by
  rw [kick_eq]
  rfl

theorem savePageRead_read (hm : s.MemoryCanonical) (bytes : Vector Byte 64) (a : Nat) : (savePageRead w bytes s).eeprom.read a =
    if 64 * s.pl.savePage ≤ a ∧ a < 64 * s.pl.savePage + 64 then bytes.toList[a - 64 * s.pl.savePage]?.getD 0 else s.eeprom.read a := by
  rw [savePageRead_keeps]
  exact pageReadBack_read hm bytes a

/-- Settles O51. -/
theorem savesWriteTheSnapshot : Obligations.SavesWriteTheSnapshot := by
  intro s
  refine ⟨fun hs hsaving => ?_, fun hs hidle => ?_, fun page hidle => ?_, fun w hm hsaving hw => ?_⟩
  · exact request_only_answered hs 0x52 [] (saveProfileOwner_busy hsaving)
  · have howner := saveProfileOwner_starts (s := s.withInHand 0x52 []) hidle
    have hwm : (s.withInHand 0x52 []).wm = s.wm := rfl
    rw [hwm] at howner
    exact request_answered hs 0x52 [] howner rfl hs.awake
  · exact ⟨exec_savePageComplete_idle page hidle, exec_savePollTimeout_idle hidle⟩
  · intro base pages ended outside
    have hunanswered : outside (kick (saveUnanswered w s)) ∧ ended (kick (saveUnanswered w s)) .profileFault 1 1 := by
      refine ⟨⟨saveUnanswered_saveFrame.kick, fun a ha => ?_⟩, (kick_pl _).trans saveUnanswered_pl, ?_⟩
      · rw [kick_read, saveUnanswered_read, mixPage_read_outside hm ha]
      · rw [kick_event, saveUnanswered_event]
    refine ⟨fun bytes => ?_, ⟨_, exec_savePageComplete_noAnswer hsaving hw, hunanswered⟩, ⟨_, exec_savePollTimeout_saving hsaving hw, hunanswered⟩⟩
    refine ⟨_, exec_savePageComplete_readBack hsaving hw bytes, ⟨(savePageRead_saveFrame bytes).kick, fun a ha => ?_⟩, fun i => ?_, ?_⟩
    · rw [kick_read, savePageRead_read hm, if_neg (by omega)]
    · have hi : i.val < 64 := i.isLt
      have hin : 64 * s.pl.savePage ≤ base + i ∧ base + i < 64 * s.pl.savePage + 64 := by omega
      rw [kick_read, savePageRead_read hm, if_pos hin, show base + i.val - 64 * s.pl.savePage = i by omega, Vector.getElem?_toList,
        Vector.getElem?_eq_getElem hi]
      rfl
    · intro same
      refine ⟨fun hsame hmore => ?_, fun hsame hlast hpages => ?_, fun hdiffers => ?_⟩
      · rw [kick_pl, kick_events, savePageRead_next hsame hmore]
        exact ⟨rfl, rfl⟩
      · have hvalue : clampInt (-32768) 32767 (pages : Int) = pages := by
          simp only [clampInt]
          omega
        refine ⟨?_, ?_⟩
        · rw [kick_pl, savePageRead_last hsame hlast]
          rfl
        · rw [kick_event, savePageRead_last hsame hlast]
          exact endSave_event .profileSaved 0 pages hvalue
      · refine ⟨?_, ?_⟩
        · rw [kick_pl, savePageRead_differs hdiffers]
          rfl
        · rw [kick_event, savePageRead_differs hdiffers]
          exact endSave_event .profileFault 1 7 rfl

end Sys2Proof.Machine

/-! ## A point's settings (R92, R98) -/

namespace Sys2Proof.Machine

variable {s t : State} {w before : WorkingMemory} {p : Fin 32}

/-! ### Words of working memory -/

theorem word_put (w : WorkingMemory) {n : Nat} (hn : n < 512) (v : Word16) (m : Nat) :
    (w.put n v).word m = if m = n then v else w.word m := by
  unfold WorkingMemory.put WorkingMemory.word
  by_cases h : m = n
  · subst h
    simp [hn]
  · rw [if_neg h, Vector.getElem?_setIfInBounds_ne (Ne.symm h)]

theorem toInt_setWidth_byte (b : Byte) : (b.setWidth 16 : Word16).toInt = b.toNat := by
  rw [BitVec.toInt_eq_toNat_of_lt (by simp; omega), BitVec.toNat_setWidth, Nat.mod_eq_of_lt (by omega)]

/-- The five settings of a point, as MAP_POINT gives them (R98). -/
def pointSettings (enabled source kind curve shift : Byte) (f : Nat) : Word16 :=
  ([enabled, source, kind, curve, shift].getD f 0).setWidth 16

section
variable (p : Fin 32) (en so ki cu sh : Byte)

theorem putPointSettings_word (w : WorkingMemory) (n : Nat) : (w.putPointSettings p en so ki cu sh).word n =
    if 200 + 5 * p.val ≤ n ∧ n < 205 + 5 * p.val then pointSettings en so ki cu sh (n - (200 + 5 * p.val)) else w.word n := by
  have hlt (f : Nat) (hf : f < 5) : pointParam p f < 512 := by
    unfold pointParam
    omega
  unfold WorkingMemory.putPointSettings
  rw [word_put _ (hlt 4 (by omega)), word_put _ (hlt 3 (by omega)), word_put _ (hlt 2 (by omega)), word_put _ (hlt 1 (by omega)),
    word_put _ (hlt 0 (by omega))]
  unfold pointParam
  by_cases hin : 200 + 5 * p.val ≤ n ∧ n < 205 + 5 * p.val
  · obtain ⟨f, hf, hn⟩ : ∃ f, f < 5 ∧ n = 200 + 5 * p.val + f := ⟨n - (200 + 5 * p.val), by omega, by omega⟩
    rw [if_pos hin, hn, Nat.add_sub_cancel_left]
    have hcases : f = 0 ∨ f = 1 ∨ f = 2 ∨ f = 3 ∨ f = 4 := by omega
    rcases hcases with rfl | rfl | rfl | rfl | rfl <;> simp [pointSettings]
  · rw [if_neg hin, if_neg (by omega), if_neg (by omega), if_neg (by omega), if_neg (by omega), if_neg (by omega)]

theorem putPointSettings_setting (w : WorkingMemory) {f : Nat} (hf : f < 5) :
    (w.putPointSettings p en so ki cu sh).word (pointParam p f) = pointSettings en so ki cu sh f := by
  unfold pointParam
  rw [putPointSettings_word, if_pos (by omega), Nat.add_sub_cancel_left]

theorem putPointSettings_bytes (w : WorkingMemory) : (w.putPointSettings p en so ki cu sh).pointBytes p = [en, so, ki, cu, sh] := by
  have hbyte (f : Nat) (hf : f < 5) : num8 ((w.putPointSettings p en so ki cu sh).nat (pointParam p f)) = [[en, so, ki, cu, sh].getD f 0] := by
    rw [WorkingMemory.nat, WorkingMemory.int, putPointSettings_setting p en so ki cu sh w hf, pointSettings, toInt_setWidth_byte,
      Int.toNat_natCast, num8_toNat]
  have hrange : List.range 5 = [0, 1, 2, 3, 4] := rfl
  rw [WorkingMemory.pointBytes, hrange]
  simp only [List.flatMap_cons, List.flatMap_nil, hbyte 0 (by omega), hbyte 1 (by omega), hbyte 2 (by omega), hbyte 3 (by omega),
    hbyte 4 (by omega)]
  rfl
end

/-! ### The point's state after a change (R98) -/

theorem applyPointChange_pointFrame (before : WorkingMemory) (p : Fin 32) : PointFrame s (applyPointChange before p s) := by
  unfold applyPointChange
  dsimp only
  split
  · split
    · exact putPoint_pointFrame p _
    · exact .refl s
  · split
    · exact failPoint_pointFrame p _
    · split
      · exact putPoint_pointFrame p _
      · exact .refl s

/-- A point after its settings changed, by the first row of R98's table that applies. -/
def State.changedPoint (s : State) (before : WorkingMemory) (p : Fin 32) : Point :=
  if !s.wm.pointEnabled p then
    if before.pointEnabled p then { s.point p with state := .absent, run := 0 } else s.point p
  else if s.sourceFailed p ≠ none then { s.point p with state := .failed, run := 0 }
  else if !before.pointEnabled p ∨ s.wm.pointSource p ≠ before.pointSource p ∨ s.wm.pointKind p ≠ before.pointKind p
      ∨ s.wm.pointCurveB p ≠ before.pointCurveB p then { s.point p with state := .pending, run := 0 }
  else s.point p

theorem applyPointChange_point (before : WorkingMemory) (p k : Fin 32) : (applyPointChange before p s).point k =
    if k = p then s.changedPoint before p else s.point k := by
  have hself : s.point k = if k = p then s.point p else s.point k := by
    split
    · next hk => rw [hk]
    · rfl
  unfold applyPointChange State.changedPoint
  dsimp only
  split
  · split
    · exact putPoint_point p k _
    · exact hself
  · cases hfailed : s.sourceFailed p with
    | some cause => exact failPoint_point p k cause
    | none =>
      rw [if_neg (not_not_intro rfl)]
      dsimp only
      split
      · exact putPoint_point p k _
      · exact hself

section
variable (hoff : s.wm.pointEnabled p = false)
include hoff

theorem changedPoint_switchedOff (hwas : before.pointEnabled p = true) :
    s.changedPoint before p = { s.point p with state := .absent, run := 0 } := by
  rw [State.changedPoint, if_pos (by rw [hoff]; rfl), if_pos hwas]

theorem changedPoint_staysOff (hwas : before.pointEnabled p = false) : s.changedPoint before p = s.point p := by
  rw [State.changedPoint, if_pos (by rw [hoff]; rfl), if_neg (by rw [hwas]; decide)]
end

section
variable (hon : s.wm.pointEnabled p = true)
include hon

theorem changedPoint_failed (hfailed : s.sourceFailed p ≠ none) :
    s.changedPoint before p = { s.point p with state := .failed, run := 0 } := by
  rw [State.changedPoint, if_neg (by rw [hon]; decide), if_pos hfailed]

variable (hsource : s.sourceFailed p = none)
include hsource

theorem changedPoint_moved (hmoved : before.pointEnabled p = false ∨ s.wm.pointSource p ≠ before.pointSource p ∨
    s.wm.pointKind p ≠ before.pointKind p ∨ s.wm.pointCurveB p ≠ before.pointCurveB p) :
    s.changedPoint before p = { s.point p with state := .pending, run := 0 } := by
  rw [State.changedPoint, if_neg (by rw [hon]; decide), if_neg (not_not_intro hsource), if_pos]
  simpa using hmoved

theorem changedPoint_same (hsame : ¬ (before.pointEnabled p = false ∨ s.wm.pointSource p ≠ before.pointSource p ∨
    s.wm.pointKind p ≠ before.pointKind p ∨ s.wm.pointCurveB p ≠ before.pointCurveB p)) :
    s.changedPoint before p = s.point p := by
  rw [State.changedPoint, if_neg (by rw [hon]; decide), if_neg (not_not_intro hsource), if_neg]
  simpa using hsame
end

/-- What a point's source is does not depend on the points. -/
theorem PointFrame.sourceFailed (h : PointFrame s t) (p : Fin 32) : t.sourceFailed p = s.sourceFailed p := by
  rw [h.frame]
  rfl

end Sys2Proof.Machine

/-! ## MAP_POINT (R98, R167) -/

namespace Sys2Proof.Machine

variable {s t : State} {p : Fin 32} {en so ki cu sh : Byte}

theorem LU.Latches.replied_eq {k : Byte} {pl content : List Byte} (h : (s.withInHand k pl).lu.Latches t.lu) :
    t.lu.replied k pl content = { s.lu with events := t.lu.events, queue := t.lu.queue }.replied k pl content := by
  obtain ⟨hrate, hreceiver, hgap, hin, hoverrun, hanswer, hreject, htransmitter, hafter⟩ := h.frame
  have hlu : t.lu = { ({ s.lu with events := t.lu.events, queue := t.lu.queue } : LU) with inHand := some ⟨k, pl⟩ } := by
    generalize t.lu = l at *
    cases l
    cases hrate
    cases hreceiver
    cases hgap
    cases hin
    cases hoverrun
    cases hanswer
    cases hreject
    cases htransmitter
    cases hafter
    rfl
  have hreplied := congrArg (LU.replied · k pl content) hlu
  dsimp only at hreplied
  rw [hreplied]
  exact LU.replied_inHand { s.lu with events := t.lu.events, queue := t.lu.queue } (some ⟨k, pl⟩) k pl content

/-! ### The checks of MAP_POINT -/

/-- The five settings lie in their ranges (R98). -/
def settingsInRange (en so ki cu sh : Byte) : Prop :=
  en.toNat ≤ 1 ∧ (so.toNat ≤ 23 ∨ (32 ≤ so.toNat ∧ so.toNat ≤ 63)) ∧ ki.toNat ≤ 2 ∧ cu.toNat ≤ 1 ∧ sh.toNat ≤ 6

theorem mapPointArgs_iff (point : Byte) : mapPointArgs point en so ki cu sh = true ↔
    point.toNat ≤ 31 ∧ settingsInRange en so ki cu sh := by
  simp [mapPointArgs, settingsInRange, and_assoc]

theorem mapPointOwner_badArg {point : Byte} (h : ¬ (point.toNat ≤ 31 ∧ settingsInRange en so ki cu sh)) :
    mapPointOwner point en so ki cu sh s = (s, [7]) := by
  have hargs : mapPointArgs point en so ki cu sh = false := by
    rw [← Bool.not_eq_true, mapPointArgs_iff]
    exact h
  rw [mapPointOwner, if_pos (by rw [hargs]; rfl)]
  rfl

/-- A setting of the point is locked (R167). -/
def WorkingMemory.pointLocked (w : WorkingMemory) (p : Fin 32) : Prop := ∃ f, f < 5 ∧ 200 + 5 * p.val + f ∈ w.locks

theorem pointLocked_iff (w : WorkingMemory) (p : Fin 32) :
    ((List.range 5).any fun f => w.locks.contains (pointParam p f)) = true ↔ w.pointLocked p := by
  simp [WorkingMemory.pointLocked, pointParam]

theorem point_byte (p : Fin 32) : (BitVec.ofNat 8 p : Byte).toNat = p := by
  rw [BitVec.toNat_ofNat]
  omega

/-- The answer of MAP_POINT (R98). -/
def State.mapPointReply (s : State) (p : Fin 32) (code : Byte) : State × List Byte :=
  (s, [code] ++ s.wm.pointBytes p ++ num8 (s.point p).state.code)

/-- Working memory with the settings written, before the point takes them (R98). -/
def State.withSettings (s : State) (p : Fin 32) (en so ki cu sh : Byte) : State :=
  s.setPl { s.pl with wm := s.wm.putPointSettings p en so ki cu sh }

/-- The settings that only STANDBY may change differ (R98). -/
def WorkingMemory.structuralDiffers (w : WorkingMemory) (p : Fin 32) (now : Nat → Word16) : Prop :=
  now 0 ≠ w.word (200 + 5 * p.val + 0) ∨ now 2 ≠ w.word (200 + 5 * p.val + 2) ∨ now 3 ≠ w.word (200 + 5 * p.val + 3)

section
variable (hgood : settingsInRange en so ki cu sh)
include hgood

/-- The checks that follow those of the arguments. -/
theorem mapPointOwner_good : mapPointOwner (BitVec.ofNat 8 p) en so ki cu sh s =
    if (List.range 5).any fun f => s.wm.locks.contains (pointParam p f) then s.mapPointReply p codeLocked
    else if s.sc.opState = .run ∧ ((s.wm.putPointSettings p en so ki cu sh).word (pointParam p 0) ≠ s.wm.word (pointParam p 0)
        ∨ (s.wm.putPointSettings p en so ki cu sh).word (pointParam p 2) ≠ s.wm.word (pointParam p 2)
        ∨ (s.wm.putPointSettings p en so ki cu sh).word (pointParam p 3) ≠ s.wm.word (pointParam p 3)) then s.mapPointReply p codeWrongState
    else if (List.range 5).all fun f => (s.wm.putPointSettings p en so ki cu sh).word (pointParam p f) == s.wm.word (pointParam p f) then
      s.mapPointReply p codeOk
    else (applyPointChange s.wm p (s.withSettings p en so ki cu sh)).mapPointReply p codeOk := by
  have hargs : mapPointArgs (BitVec.ofNat 8 p) en so ki cu sh = true := by
    rw [mapPointArgs_iff, point_byte]
    exact ⟨by omega, hgood⟩
  have hp : Fin.ofNat 32 (BitVec.ofNat 8 p : Byte).toNat = p := by
    rw [point_byte]
    exact Fin.ofNat_val_eq_self p
  rw [mapPointOwner, if_neg (by rw [hargs]; decide), hp]
  rfl

theorem mapPointOwner_locked (hlocked : s.wm.pointLocked p) :
    mapPointOwner (BitVec.ofNat 8 p) en so ki cu sh s = s.mapPointReply p 6 := by
  rw [mapPointOwner_good hgood, if_pos ((pointLocked_iff _ _).mpr hlocked)]
  rfl

variable (hopen : ¬ s.wm.pointLocked p)
include hopen

theorem mapPointOwner_wrongState (hrun : s.sc.opState = .run) (hdiffers : s.wm.structuralDiffers p (pointSettings en so ki cu sh)) :
    mapPointOwner (BitVec.ofNat 8 p) en so ki cu sh s = s.mapPointReply p 4 := by
  rw [mapPointOwner_good hgood, if_neg (mt (pointLocked_iff _ _).mp hopen), putPointSettings_setting p _ _ _ _ _ _ (by omega),
    putPointSettings_setting p _ _ _ _ _ _ (by omega), putPointSettings_setting p _ _ _ _ _ _ (by omega), if_pos ⟨hrun, hdiffers⟩]
  rfl

variable (hmay : s.sc.opState ≠ .run ∨ ¬ s.wm.structuralDiffers p (pointSettings en so ki cu sh))
include hmay

/-- The checks passed: a change is made where a setting differs. -/
theorem mapPointOwner_accepted : mapPointOwner (BitVec.ofNat 8 p) en so ki cu sh s =
    if (List.range 5).all fun f => (s.wm.putPointSettings p en so ki cu sh).word (pointParam p f) == s.wm.word (pointParam p f) then
      s.mapPointReply p 0
    else (applyPointChange s.wm p (s.withSettings p en so ki cu sh)).mapPointReply p 0 := by
  rw [mapPointOwner_good hgood, if_neg (mt (pointLocked_iff _ _).mp hopen), putPointSettings_setting p _ _ _ _ _ _ (by omega),
    putPointSettings_setting p _ _ _ _ _ _ (by omega), putPointSettings_setting p _ _ _ _ _ _ (by omega), if_neg]
  · rfl
  · rintro ⟨hrun, hdiffers⟩
    exact hmay.elim (fun h => h hrun) (fun h => h hdiffers)

theorem mapPointOwner_same (hsame : ∀ f, f < 5 → pointSettings en so ki cu sh f = s.wm.word (200 + 5 * p.val + f)) :
    mapPointOwner (BitVec.ofNat 8 p) en so ki cu sh s = s.mapPointReply p 0 := by
  rw [mapPointOwner_accepted hgood hopen hmay, if_pos]
  rw [List.all_eq_true]
  intro f hf
  rw [List.mem_range] at hf
  rw [putPointSettings_setting p _ _ _ _ _ _ hf, beq_iff_eq]
  exact hsame f hf

theorem mapPointOwner_changes (hchange : ∃ f, f < 5 ∧ pointSettings en so ki cu sh f ≠ s.wm.word (200 + 5 * p.val + f)) :
    mapPointOwner (BitVec.ofNat 8 p) en so ki cu sh s =
      (applyPointChange s.wm p (s.withSettings p en so ki cu sh)).mapPointReply p 0 := by
  obtain ⟨f, hf, hne⟩ := hchange
  rw [mapPointOwner_accepted hgood hopen hmay, if_neg]
  intro hall
  have hthis := List.all_eq_true.mp hall f (List.mem_range.mpr hf)
  rw [putPointSettings_setting p _ _ _ _ _ _ hf, beq_iff_eq] at hthis
  exact hne hthis
end

/-! ### Settings read from working memory -/

theorem toInt_eq_one_iff (v : Word16) : v.toInt = 1 ↔ v = 1 := by
  have hone : (1 : Word16).toInt = 1 := rfl
  rw [← hone, BitVec.toInt_inj]

theorem pointEnabled_iff (w : WorkingMemory) (p : Fin 32) : w.pointEnabled p = true ↔ w.word (200 + 5 * p.val + 0) = 1 := by
  rw [WorkingMemory.pointEnabled, beq_iff_eq, WorkingMemory.int, toInt_eq_one_iff]
  rfl

theorem pointCurveB_iff (w : WorkingMemory) (p : Fin 32) : w.pointCurveB p = true ↔ w.word (200 + 5 * p.val + 3) = 1 := by
  rw [WorkingMemory.pointCurveB, beq_iff_eq, WorkingMemory.int, toInt_eq_one_iff]
  rfl

theorem kindOfCode_injective {a b : Nat} (ha : a ≤ 2) (hb : b ≤ 2) (h : kindOfCode a = kindOfCode b) : a = b := by
  have hcode (n : Nat) (hn : n ≤ 2) : n = if kindOfCode n = .co2 then 1 else if kindOfCode n = .level then 2 else 0 := by
    have hcases : n = 0 ∨ n = 1 ∨ n = 2 := by omega
    rcases hcases with rfl | rfl | rfl <;> rfl
  rw [hcode a ha, hcode b hb, h]

/-- A valid profile's parameters are in range (R161). -/
theorem WorkingMemory.inRange_of_valid {w : WorkingMemory} (h : w.valid = true) {n : Nat} (hn : n < 512) (ha : assigned n = true) :
    inRange n (w.word n) = true := by
  simp only [WorkingMemory.valid, Bool.and_eq_true, List.all_eq_true, List.mem_range] at h
  have hthis := h.1.1 n hn
  rw [ha] at hthis
  exact hthis

theorem paramInt_of_not_pattern {n : Nat} (hn : 200 ≤ n) (v : Word16) : paramInt n v = v.toInt := by
  have hpattern : isPattern n = false := by
    simp [isPattern]
    omega
  rw [paramInt, hpattern]
  rfl

/-- The ranges of a point's five settings (R164). -/
def pointRange : Nat → Int × Int
  | 0 => (0, 1)
  | 1 => (0, 63)
  | 2 => (0, 2)
  | 3 => (0, 1)
  | _ => (0, 6)

theorem paramRange_point (p : Fin 32) {f : Nat} (hf : f < 5) : paramRange (200 + 5 * p.val + f) = pointRange f := by
  have hmod : (200 + 5 * p.val + f - 200) % 5 = f := by omega
  unfold paramRange
  rw [if_neg (by omega), if_neg (by omega), if_neg (by omega), if_neg (by omega), if_neg (by omega), if_pos (by omega), hmod]
  have hcases : f = 0 ∨ f = 1 ∨ f = 2 ∨ f = 3 ∨ f = 4 := by omega
  rcases hcases with rfl | rfl | rfl | rfl | rfl <;> rfl

/-- A valid profile's point settings lie within their ranges. -/
theorem pointSetting_bounds {w : WorkingMemory} (h : w.valid = true) (p : Fin 32) {f : Nat} (hf : f < 5) :
    (pointRange f).1 ≤ (w.word (200 + 5 * p.val + f)).toInt ∧ (w.word (200 + 5 * p.val + f)).toInt ≤ (pointRange f).2 := by
  have hassigned : assigned (200 + 5 * p.val + f) = true := (assigned_iff _).mpr (by omega)
  have hin := w.inRange_of_valid h (by omega) hassigned
  simp only [inRange, Bool.and_eq_true, decide_eq_true_eq, paramInt_of_not_pattern (show 200 ≤ 200 + 5 * p.val + f by omega)] at hin
  rw [paramRange_point p hf] at hin
  exact ⟨hin.1.1.2, hin.1.2⟩

/-- With both profiles in range, another kind code is another kind (R164). -/
theorem pointKind_ne {v w : WorkingMemory} (hv : (v.word (200 + 5 * p.val + 2)).toInt.toNat ≤ 2) (hw : w.valid = true)
    (h0 : 0 ≤ (v.word (200 + 5 * p.val + 2)).toInt) (hne : v.word (200 + 5 * p.val + 2) ≠ w.word (200 + 5 * p.val + 2)) :
    v.pointKind p ≠ w.pointKind p := by
  have hbounds : 0 ≤ (w.word (200 + 5 * p.val + 2)).toInt ∧ (w.word (200 + 5 * p.val + 2)).toInt ≤ 2 :=
    pointSetting_bounds hw p (f := 2) (by omega)
  intro heq
  have hcode := kindOfCode_injective (b := (w.word (200 + 5 * p.val + 2)).toInt.toNat) hv (by omega) heq
  refine hne (BitVec.toInt_inj.mp ?_)
  omega

/-- With both profiles in range, another curve code is another curve (R164). -/
theorem pointCurveB_ne {v w : WorkingMemory} (hv : (v.word (200 + 5 * p.val + 3)).toInt ≤ 1) (hw : w.valid = true)
    (h0 : 0 ≤ (v.word (200 + 5 * p.val + 3)).toInt) (hne : v.word (200 + 5 * p.val + 3) ≠ w.word (200 + 5 * p.val + 3)) :
    v.pointCurveB p ≠ w.pointCurveB p := by
  have hbounds : 0 ≤ (w.word (200 + 5 * p.val + 3)).toInt ∧ (w.word (200 + 5 * p.val + 3)).toInt ≤ 1 :=
    pointSetting_bounds hw p (f := 3) (by omega)
  intro heq
  have hiff : v.word (200 + 5 * p.val + 3) = 1 ↔ w.word (200 + 5 * p.val + 3) = 1 := by
    rw [← pointCurveB_iff, ← pointCurveB_iff, heq]
  rw [← toInt_eq_one_iff, ← toInt_eq_one_iff] at hiff
  refine hne (BitVec.toInt_inj.mp ?_)
  omega

theorem changedPoint_keeps (before : WorkingMemory) (p : Fin 32) : (s.changedPoint before p).value = (s.point p).value ∧
    (s.changedPoint before p).age = (s.point p).age := by
  unfold State.changedPoint
  repeat' split
  all_goals exact ⟨rfl, rfl⟩

/-- Settles O35. -/
theorem mapPointChangesAPoint : Obligations.MapPointChangesAPoint := by
  intro s p en so ki cu sh hs pb payload good locked was now settings
  refine ⟨fun far hfar => ?_, fun hbad => ?_, fun hgood hlocked => ?_, fun hgood hopen hrun hdiffers => ?_, fun hgood hopen hsame => ?_,
    fun hgood hopen hmay hchange => ?_⟩
  · exact request_only_answered hs 0x31 [far, en, so, ki, cu, sh] (mapPointOwner_badArg (by omega))
  · exact request_only_answered hs 0x31 payload (mapPointOwner_badArg (fun h => hbad h.2))
  · exact request_only_answered hs 0x31 payload (mapPointOwner_locked (s := s.withInHand 0x31 payload) hgood hlocked)
  · exact request_only_answered hs 0x31 payload (mapPointOwner_wrongState (s := s.withInHand 0x31 payload) hgood hopen hrun hdiffers)
  · have hstays : ¬ s.wm.structuralDiffers p (pointSettings en so ki cu sh) := by
      rintro (hne | hne | hne)
      · exact hne (hsame 0 (by omega))
      · exact hne (hsame 2 (by omega))
      · exact hne (hsame 3 (by omega))
    exact request_only_answered hs 0x31 payload (mapPointOwner_same (s := s.withInHand 0x31 payload) hgood hopen (.inr hstays) hsame)
  · have hallowed : s.sc.opState ≠ .run ∨ ¬ s.wm.structuralDiffers p (pointSettings en so ki cu sh) := by
      rcases hmay with hstandby | ⟨h0, h2, h3⟩
      · exact .inl (by rw [hstandby]; decide)
      · exact .inr (by rintro (hne | hne | hne) <;> contradiction)
    obtain ⟨u, hu⟩ : ∃ u, u = (s.withInHand 0x31 payload).withSettings p en so ki cu sh := ⟨_, rfl⟩
    have howner := mapPointOwner_changes (s := s.withInHand 0x31 payload) hgood hopen hallowed hchange
    rw [← hu] at howner
    have hframe := applyPointChange_pointFrame (s := u) s.wm p
    have hpoint := applyPointChange_point (s := u) s.wm p
    have howner' : mapPointOwner pb en so ki cu sh (s.withInHand 0x31 payload) = (applyPointChange s.wm p u).mapPointReply p 0 := howner
    generalize applyPointChange s.wm p u = e at *
    have huwm : u.wm = s.wm.putPointSettings p en so ki cu sh := by rw [hu]; rfl
    have hewm : e.wm = s.wm.putPointSettings p en so ki cu sh := hframe.wm.trans huwm
    have hlatches : (s.withInHand 0x31 payload).lu.Latches e.lu := by
      have := hframe.latches
      rw [hu] at this
      exact this
    have hupoint (q : Fin 32) : u.point q = s.point q := by rw [hu]; rfl
    rw [State.mapPointReply, hewm, putPointSettings_bytes] at howner'
    have hchanged : e.point p = u.changedPoint s.wm p := (hpoint p).trans (if_pos rfl)
    have hsettings (f : Nat) (hf : f < 5) : u.wm.word (200 + 5 * p.val + f) = now f := by
      rw [huwm]
      exact putPointSettings_setting p en so ki cu sh s.wm hf
    have hsource := hframe.sourceFailed p
    have henabled (hon : en = 1) : u.wm.pointEnabled p = true := by
      rw [pointEnabled_iff, hsettings 0 (by omega)]
      show (en.setWidth 16 : Word16) = 1
      rw [hon]
      rfl
    refine ⟨_, request_latched hs 0x31 payload howner' hlatches (by rw [hframe.frame, hu]; exact hs.awake), ?_, ?_, fun n hn => ?_,
      fun q hq => ?_, ?_, ?_, fun hoff hwas => ?_, fun hon hfailed => ?_, fun hon hok hmoved hvalid => ?_, fun hon hok h0 h1 h2 h3 => ?_⟩
    · rw [hframe.frame, hu]
      rfl
    · rw [State.setLu_lu, LU.replied_events, LU.replied_queue]
      exact hlatches.replied_eq
    · show e.wm.word n = _
      rw [hewm, putPointSettings_word] <;> rfl
    · exact (hpoint q).trans ((if_neg hq).trans (hupoint q))
    · exact (congrArg Point.value hchanged).trans ((changedPoint_keeps _ _).1.trans (congrArg Point.value (hupoint p)))
    · exact (congrArg Point.age hchanged).trans ((changedPoint_keeps _ _).2.trans (congrArg Point.age (hupoint p)))
    · have hnow : u.wm.pointEnabled p = false := by
        rw [← Bool.not_eq_true, pointEnabled_iff, hsettings 0 (by omega)]
        show ¬ (en.setWidth 16 : Word16) = 1
        rw [hoff]
        decide
      have hthis := hchanged.trans (changedPoint_switchedOff hnow ((pointEnabled_iff _ _).mpr hwas))
      exact ⟨congrArg Point.state hthis, congrArg Point.run hthis⟩
    · have hthis := hchanged.trans (changedPoint_failed (henabled hon) (by rw [← hsource]; exact hfailed))
      exact ⟨congrArg Point.state hthis, congrArg Point.run hthis⟩
    · have hki : (u.wm.word (200 + 5 * p.val + 2)).toInt = ki.toNat := by
        rw [hsettings 2 (by omega)]
        exact toInt_setWidth_byte ki
      have hcu : (u.wm.word (200 + 5 * p.val + 3)).toInt = cu.toNat := by
        rw [hsettings 3 (by omega)]
        exact toInt_setWidth_byte cu
      obtain ⟨-, -, hkimax, hcumax, -⟩ := hgood
      have hthis := hchanged.trans (changedPoint_moved (before := s.wm) (henabled hon) (hsource.symm.trans hok) (by
        rcases hmoved with hwas | hsourceMoved | hkind | hcurve
        · left
          rw [← Bool.not_eq_true, pointEnabled_iff]
          exact hwas
        · right; left
          rw [huwm, ← hewm]
          exact hsourceMoved
        · right; right; left
          exact pointKind_ne (by omega) hvalid (by omega) (by rw [hsettings 2 (by omega)]; exact hkind)
        · right; right; right
          exact pointCurveB_ne (by omega) hvalid (by omega) (by rw [hsettings 3 (by omega)]; exact hcurve)))
      exact ⟨congrArg Point.state hthis, congrArg Point.run hthis⟩
    · have hword (f : Nat) (hf : f < 5) (hsame : now f = was f) : u.wm.word (200 + 5 * p.val + f) = s.wm.word (200 + 5 * p.val + f) :=
        (hsettings f hf).trans hsame
      have hthis := hchanged.trans (changedPoint_same (before := s.wm) (henabled hon) (hsource.symm.trans hok) (by
        rintro (hwas | hsourceMoved | hkind | hcurve)
        · rw [(pointEnabled_iff _ _).mpr h0] at hwas
          exact absurd hwas (by decide)
        · exact hsourceMoved (congrArg (fun v : Word16 => sourceOfCode v.toInt.toNat) (hword 1 (by omega) h1))
        · exact hkind (congrArg (fun v : Word16 => kindOfCode v.toInt.toNat) (hword 2 (by omega) h2))
        · exact hcurve (congrArg (fun v : Word16 => v.toInt == 1) (hword 3 (by omega) h3))))
      exact hthis.trans (hupoint p)

end Sys2Proof.Machine

/-! ## SET_PARAM (R166) -/

namespace Sys2Proof.Machine

variable {s t : State} {w before : WorkingMemory}

/-! ### What the blocks do with a written parameter -/

section
variable {n : Nat}

theorem paramWritten_quiet (h : n < 80 ∨ (n < 200 ∧ n % 10 ≠ 7 ∧ n % 10 ≠ 8) ∨ 432 ≤ n) : paramWritten before n s = s := by
  unfold paramWritten
  by_cases hzone : 80 ≤ n ∧ n ≤ 199
  · rw [if_pos hzone, if_neg (by omega)]
  · rw [if_neg hzone, if_neg (by omega), if_neg (by omega), if_neg (by omega)]

theorem paramWritten_zone (h : 80 ≤ n ∧ n < 200) (hchannel : n % 10 = 7 ∨ n % 10 = 8) : paramWritten before n s = zoneChannelChanged s := by
  rw [paramWritten, if_pos (by omega), if_pos (by omega)]

theorem paramWritten_point {p : Fin 32} {f : Nat} (hf : f < 5) (h : n = 200 + 5 * p.val + f) :
    paramWritten before n s = applyPointChange before p s := by
  have hp : Fin.ofNat 32 ((n - 200) / 5) = p := by
    have hdiv : (n - 200) / 5 = p.val := by omega
    rw [hdiv]
    exact Fin.ofNat_val_eq_self p
  rw [paramWritten, if_neg (by omega), if_pos (by omega), hp]

/-- What the OU does with a written channel parameter (R112, R113). -/
def channelWritten (c : Fin 16) (f : Nat) (s : State) : State :=
  match f with
  | 0 => roleChanged c s
  | 1 => modulusChanged c s
  | 2 => stepChanged c s
  | _ => polarityChanged c s

theorem paramWritten_channel {c : Fin 16} {f : Nat} (hf : f < 4) (h : n = 360 + 4 * c.val + f) :
    paramWritten before n s = channelWritten c f s := by
  have hc : Fin.ofNat 16 ((n - 360) / 4) = c := by
    have hdiv : (n - 360) / 4 = c.val := by omega
    rw [hdiv]
    exact Fin.ofNat_val_eq_self c
  have hmod : (n - 360) % 4 = f := by omega
  rw [paramWritten, if_neg (by omega), if_neg (by omega), if_pos (by omega), hc, hmod]
  rfl

theorem paramWritten_slot {i : Fin 8} (h : n = 424 + i.val) : paramWritten before n s = slotKindChanged i s := by
  have hi : Fin.ofNat 8 (n - 424) = i := by
    have hsub : n - 424 = i.val := by omega
    rw [hsub]
    exact Fin.ofNat_val_eq_self i
  rw [paramWritten, if_neg (by omega), if_neg (by omega), if_neg (by omega), if_pos (by omega), hi]
end

/-! ### Channels (R107, R112, R113) -/

theorem effectiveOf_received_zero (r : Role) (o : Option Nat) : effectiveOf r 0 o = match r with
    | .zoneReheat _ | .none => 0
    | .spare | .zoneDamper _ | .blower _ | .freshDamper _ => o.getD 0 := by
  cases r <;> cases o <;> simp [effectiveOf]

/-- A channel whose zone's channels may have changed (R107). -/
def Channel.derived (now : Bool) (x : Channel) : Channel :=
  if x.bound && !now then ({ x with bound := now, received := 0 }).recompute else { x with bound := now }

theorem zoneChannelChanged_channel (c : Fin 16) :
    (zoneChannelChanged s).channel c = (s.channel c).derived (s.wm.binds c (s.channel c).role) := by
  refine forChannels_channel deriveBound (fun c x => x.derived (s.wm.binds c x.role)) (fun u => u.wm = s.wm) (fun c u hu => hu)
    (fun c u k hu => ?_) rfl c
  rw [← hu]
  exact putChannel_channel c k _

theorem Channel.derived_unbound {x : Channel} (h : x.bound = true) : x.derived false = { x with
    bound := false, received := 0, effective := effectiveOf x.role 0 x.override
    pendingCompare := (effectiveOf x.role 0 x.override * x.modulus + 500) / 1000 } := by
  rw [Channel.derived, h]
  rfl

theorem Channel.derived_other {x : Channel} {now : Bool} (h : ¬ (x.bound = true ∧ now = false)) : x.derived now = { x with bound := now } := by
  rw [Channel.derived, if_neg]
  simpa using h

theorem channelWritten_channel_other {c k : Fin 16} (hk : k ≠ c) (f : Nat) : (channelWritten c f s).channel k = s.channel k := by
  unfold channelWritten
  split
  all_goals exact (putChannel_channel c k _).trans (if_neg hk)

theorem roleChanged_channel (c : Fin 16) : (roleChanged c s).channel c = { s.channel c with
    role := s.wm.channelRole c, received := 0, override := none, bound := s.wm.binds c (s.wm.channelRole c), effective := 0
    pendingCompare := 0 } := by
  have hcompare (m : Nat) : compareOf 0 m = 0 := by
    rw [compareOf, Nat.zero_mul]
  refine (State.putChannel_channel_same s c _).trans ?_
  rw [Channel.recompute, effectiveOf_zero, hcompare]

theorem modulusChanged_channel (c : Fin 16) : (modulusChanged c s).channel c = { s.channel c with
    newModulus := if s.wm.channelModulus c = (s.channel c).modulus then none else some (s.wm.channelModulus c) } :=
  State.putChannel_channel_same s c _

theorem stepChanged_channel (c : Fin 16) : (stepChanged c s).channel c = { s.channel c with
    newStep := if s.wm.channelStep c = (s.channel c).step then none else some (s.wm.channelStep c) } :=
  State.putChannel_channel_same s c _

theorem polarityChanged_channel (c : Fin 16) : (polarityChanged c s).channel c = { s.channel c with
    newPolarity := if s.wm.channelPolarity c = (s.channel c).polarity then none else some (s.wm.channelPolarity c) } :=
  State.putChannel_channel_same s c _

/-- A channel parameter touches the OU alone. -/
theorem channelWritten_frame (c : Fin 16) (f : Nat) : channelWritten c f s = { s with ou := (channelWritten c f s).ou } := by
  unfold channelWritten
  split <;> rfl

theorem zoneChannelChanged_ou : zoneChannelChanged s = { s with ou := (zoneChannelChanged s).ou } := by
  obtain ⟨hzr, hhs, hpa, hrs, hsu, hml, hsc, hlu, hpl, hbus, hpins, heeprom, htenth, hfree, hpending⟩ := zoneChannelChanged_frame s
  generalize zoneChannelChanged s = e at *
  exact State.eq_of_blocks hzr hhs hpa hrs hsu rfl hml hsc hlu hpl hbus hpins heeprom htenth hfree hpending

/-! ### Slots (R121) -/

/-- A slot whose kind changed starts afresh, before its points fail and the HS is told (R121). -/
def State.slotAfresh (s : State) (i : Fin 8) : State :=
  let probes := s.ml.line = .on ∧ s.wm.slotKind i ≠ .none
  let s1 := s.putSlot i { Slot.reset with probeTimer := if probes then some (sec 5) else none, probeDue := decide probes }
  s1.setMl { s1.ml with exchange := s1.ml.exchange.map fun x => if x.slot = i then { x with detached := true } else x }

theorem slotKindChanged_eq (i : Fin 8) : slotKindChanged i s = tellDrives (failSlotPoints i (s.slotAfresh i)) := rfl

theorem slotAfresh_slot (i k : Fin 8) : ∃ timer due, (s.slotAfresh i).slot k =
    if k = i then { Slot.reset with probeTimer := timer, probeDue := due } else s.slot k := by
  refine ⟨if s.ml.line = .on ∧ s.wm.slotKind i ≠ .none then some (sec 5) else none,
    decide (s.ml.line = .on ∧ s.wm.slotKind i ≠ .none), ?_⟩
  rw [← putSlot_slot]
  rfl

theorem slotKindChanged_slot (i k : Fin 8) : ∃ timer due, (slotKindChanged i s).slot k =
    if k = i then { Slot.reset with probeTimer := timer, probeDue := due } else s.slot k := by
  obtain ⟨timer, due, h⟩ := slotAfresh_slot (s := s) i k
  refine ⟨timer, due, Eq.trans ?_ h⟩
  have hfail := (failPoints_pointFrame (s := s.slotAfresh i) (fun w => w.onSlot i) causeSlot).frame
  have hml : (slotKindChanged i s).ml = (s.slotAfresh i).ml := by
    rw [slotKindChanged_eq, failSlotPoints_eq]
    generalize failPoints _ causeSlot (s.slotAfresh i) = v at *
    rw [(tellDrives_frame v).2.2.2.2.2.1, hfail]
  exact slot_congr (congrArg ML.slots hml) k

theorem slotAfresh_points (i : Fin 8) : (s.slotAfresh i).su = s.su ∧ (s.slotAfresh i).wm = s.wm := ⟨rfl, rfl⟩

theorem slotKindChanged_point (i : Fin 8) {p : Fin 32} {j : Fin 4} (hon : s.wm.pointEnabled p = true) (hsource : s.wm.pointSource p = .slot i j) :
    ((slotKindChanged i s).point p).state = .failed ∧ ((slotKindChanged i s).point p).run = 0 := by
  have hchosen : s.wm.onSlot i p = true := by
    simp [WorkingMemory.onSlot, hon, hsource]
  have hpoint := failPoints_point (s := s.slotAfresh i) (fun w => w.onSlot i) causeSlot p
  rw [if_pos (by rw [(slotAfresh_points i).2]; exact hchosen)] at hpoint
  have hsu : (slotKindChanged i s).su = (failPoints (fun w => w.onSlot i) causeSlot (s.slotAfresh i)).su := by
    rw [slotKindChanged_eq, failSlotPoints_eq]
    simp
  rw [State.point] at hpoint
  rw [State.point, hsu, hpoint]
  exact ⟨rfl, rfl⟩

theorem slotKindChanged_driveSlot (i : Fin 8) (h : Fin 2) : ((slotKindChanged i s).handler h).driveSlot = s.wm.driveSlotOf h := by
  have hwm : (failSlotPoints i (s.slotAfresh i)).wm = s.wm := by
    rw [failSlotPoints_eq, (failPoints_pointFrame _ _).wm]
    rfl
  rw [slotKindChanged_eq, tellDrives_handler, hwm]
  exact congrArg Handler.driveSlot (Handler.told_eq _ _ _ _)

/-! ### The checks of SET_PARAM (R166) -/

/-- The answer of SET_PARAM (R166). -/
def State.setParamReply (s : State) (num : Word16) (code : Byte) : State × List Byte :=
  (s, [code] ++ wordBytes num ++ wordBytes (s.wm.word num.toNat))

section
variable {num value : Word16}

theorem setParamOwner_badArg (h : inRange num.toNat value = false) : setParamOwner num value s = (s, [7]) := by
  rw [setParamOwner, h]
  rfl

variable (hin : inRange num.toNat value = true)
include hin

theorem setParamOwner_inRange : setParamOwner num value s =
    if s.wm.locks.contains num.toNat then s.setParamReply num codeLocked
    else if structural num.toNat ∧ s.sc.opState ≠ .standby then s.setParamReply num codeWrongState
    else if s.wm.word num.toNat = value then s.setParamReply num codeOk
    else (paramWritten s.wm num.toNat (s.setPl { s.pl with wm := s.wm.put num.toNat value })).setParamReply num codeOk := by
  rw [setParamOwner, hin]
  rfl

theorem setParamOwner_locked (hlocked : num.toNat ∈ s.wm.locks) : setParamOwner num value s = s.setParamReply num 6 := by
  rw [setParamOwner_inRange hin, if_pos (List.contains_iff_mem.mpr hlocked)]
  rfl

variable (hopen : ¬ num.toNat ∈ s.wm.locks)
include hopen

theorem setParamOwner_wrongState (hstructural : structural num.toNat = true) (hstate : s.sc.opState ≠ .standby) :
    setParamOwner num value s = s.setParamReply num 4 := by
  rw [setParamOwner_inRange hin, if_neg (mt List.contains_iff_mem.mp hopen), if_pos ⟨hstructural, hstate⟩]
  rfl

variable (hmay : structural num.toNat = false ∨ s.sc.opState = .standby)
include hmay

theorem setParamOwner_accepted : setParamOwner num value s = if s.wm.word num.toNat = value then s.setParamReply num 0
    else (paramWritten s.wm num.toNat (s.setPl { s.pl with wm := s.wm.put num.toNat value })).setParamReply num 0 := by
  rw [setParamOwner_inRange hin, if_neg (mt List.contains_iff_mem.mp hopen), if_neg]
  · rfl
  · rintro ⟨hstructural, hstate⟩
    rcases hmay with hno | hstandby
    · rw [hno] at hstructural
      exact absurd hstructural (by decide)
    · exact hstate hstandby

theorem setParamOwner_unchanged (hsame : s.wm.word num.toNat = value) : setParamOwner num value s = s.setParamReply num 0 := by
  rw [setParamOwner_accepted hin hopen hmay, if_pos hsame]

theorem setParamOwner_writes (hnew : s.wm.word num.toNat ≠ value) : setParamOwner num value s =
    (paramWritten s.wm num.toNat (s.setPl { s.pl with wm := s.wm.put num.toNat value })).setParamReply num 0 := by
  rw [setParamOwner_accepted hin hopen hmay, if_neg hnew]
end

/-- The parameter's number is assigned, and its value lies within its range (R164). -/
theorem inRange_bounds {n : Nat} {v : Word16} (h : inRange n v = true) :
    assigned n = true ∧ (paramRange n).1 ≤ paramInt n v ∧ paramInt n v ≤ (paramRange n).2 := by
  simp only [inRange, Bool.and_eq_true, decide_eq_true_eq] at h
  exact ⟨h.1.1.1, h.1.1.2, h.1.2⟩

/-- A written channel parameter is not negative. -/
theorem channelParam_toInt {c : Fin 16} {f : Nat} (hf : f < 4) {n : Nat} (hn : n = 360 + 4 * c.val + f) {v : Word16} (h : inRange n v = true) :
    0 ≤ v.toInt ∧ v.toInt ≤ if f = 0 then 51 else if f = 1 then 256 else if f = 2 then 3 else 1 := by
  obtain ⟨-, hlow, hhigh⟩ := inRange_bounds h
  have hmod : (n - 360) % 4 = f := by omega
  have hrange : paramRange n = if f = 0 then (0, 51) else if f = 1 then (16, 256) else if f = 2 then (0, 3) else (0, 1) := by
    unfold paramRange
    rw [if_neg (by omega), if_neg (by omega), if_neg (by omega), if_neg (by omega), if_neg (by omega), if_neg (by omega), if_pos (by omega), hmod]
    have hcases : f = 0 ∨ f = 1 ∨ f = 2 ∨ f = 3 := by omega
    rcases hcases with rfl | rfl | rfl | rfl <;> rfl
  rw [hrange, paramInt_of_not_pattern (by omega)] at hlow hhigh
  have hcases : f = 0 ∨ f = 1 ∨ f = 2 ∨ f = 3 := by omega
  rcases hcases with rfl | rfl | rfl | rfl
  · exact ⟨hlow, hhigh⟩
  · exact ⟨Int.le_trans (by decide) hlow, hhigh⟩
  · exact ⟨hlow, hhigh⟩
  · exact ⟨hlow, hhigh⟩

theorem toInt_toNat_of_nonneg {v : Word16} (h : 0 ≤ v.toInt) : v.toInt.toNat = v.toNat := by
  rw [BitVec.toInt_eq_toNat_cond] at *
  split at h
  · next hlt =>
    rw [if_pos hlt, Int.toNat_natCast]
  · have := v.isLt
    omega

/-- The step code a valid value gives (R164). -/
theorem stepOfCode_toNat {v : Word16} (h : v.toNat ≤ 3) : stepOfCode v.toNat =
    if v = 0 then .us10 else if v = 1 then .us100 else if v = 2 then .ms1 else .ms10 := by
  have hcases : v = 0 ∨ v = 1 ∨ v = 2 ∨ v = 3 := by bv_omega
  rcases hcases with rfl | rfl | rfl | rfl <;> rfl

/-- The polarity code a valid value gives (R164). -/
theorem polarityOfCode_toNat {v : Word16} (h : v.toNat ≤ 1) : polarityOfCode v.toNat = if v = 0 then .normal else .inverted := by
  have hcases : v = 0 ∨ v = 1 := by bv_omega
  rcases hcases with rfl | rfl <;> rfl

end Sys2Proof.Machine

/-! ## SET_PARAM: what an accepted value changes (R166) -/

namespace Sys2Proof.Machine

variable {s : State} {before : WorkingMemory} {n : Nat}

/-- The blocks that a written parameter may change. -/
theorem paramWritten_eq : paramWritten before n s = { s with
    hs := (paramWritten before n s).hs, su := (paramWritten before n s).su, ou := (paramWritten before n s).ou
    ml := (paramWritten before n s).ml, lu := (paramWritten before n s).lu } := by
  obtain ⟨hzr, hpa, hrs, hsc, hpl, hbus, hpins, heeprom, htenth, hfree, hpending⟩ := paramWritten_frame s before n
  generalize paramWritten before n s = e at *
  exact State.eq_of_blocks hzr rfl hpa hrs rfl rfl rfl hsc rfl hpl hbus hpins heeprom htenth hfree hpending

/-- A parameter of the blocks without own state, of a zone or of a channel changes channels alone. -/
theorem paramWritten_ou (h : n < 200 ∨ (360 ≤ n ∧ n < 424) ∨ 432 ≤ n) :
    paramWritten before n s = { s with ou := (paramWritten before n s).ou } := by
  by_cases hzone : 80 ≤ n ∧ n < 200 ∧ (n % 10 = 7 ∨ n % 10 = 8)
  · rw [paramWritten_zone ⟨hzone.1, hzone.2.1⟩ hzone.2.2]
    exact zoneChannelChanged_ou
  · by_cases hchannel : 360 ≤ n ∧ n < 424
    · have hn : n = 360 + 4 * (⟨(n - 360) / 4, by omega⟩ : Fin 16).val + (n - 360) % 4 := by
        show n = 360 + 4 * ((n - 360) / 4) + (n - 360) % 4
        omega
      rw [paramWritten_channel (Nat.mod_lt _ (by decide)) hn]
      exact channelWritten_frame _ _
    · rw [paramWritten_quiet (by omega)]

theorem binds_eq (w : WorkingMemory) (c : Fin 16) (r : Role) : w.binds c r = match r with
    | .zoneDamper z => decide (w.zoneDamper z = some c)
    | .zoneReheat z => decide (w.zoneReheat z = some c)
    | .blower _ | .freshDamper _ => true
    | .spare | .none => false := by
  cases r
  case zoneDamper z => rw [Bool.eq_iff_iff]; simp [WorkingMemory.binds]
  case zoneReheat z => rw [Bool.eq_iff_iff]; simp [WorkingMemory.binds]
  all_goals rfl

/-- Settles O50. -/
theorem setParamWritesOneParameter : Obligations.SetParamWritesOneParameter := by
  intro num value s hs n answer refused locked accepted
  refine ⟨fun hbad => ?_, fun hin hlocked => ?_, fun hin hopen hstructural hrun => ?_, fun hok hsame => ?_, fun hok hnew => ?_⟩
  · exact request_only_answered hs 0x51 (wordBytes num ++ wordBytes value) (setParamOwner_badArg hbad)
  · exact request_only_answered hs 0x51 (wordBytes num ++ wordBytes value)
      (setParamOwner_locked (s := s.withInHand 0x51 (wordBytes num ++ wordBytes value)) hin hlocked)
  · have hstate : s.sc.opState ≠ .standby := by
      rw [hrun]
      decide
    exact request_only_answered hs 0x51 (wordBytes num ++ wordBytes value)
      (setParamOwner_wrongState (s := s.withInHand 0x51 (wordBytes num ++ wordBytes value)) hin hopen hstructural hstate)
  · obtain ⟨hin, hopen, hmay⟩ := hok
    exact request_only_answered hs 0x51 (wordBytes num ++ wordBytes value)
      (setParamOwner_unchanged (s := s.withInHand 0x51 (wordBytes num ++ wordBytes value)) hin hopen hmay hsame)
  · obtain ⟨hin, hopen, hmay⟩ := hok
    obtain ⟨u, hu⟩ : ∃ u, u = (s.withInHand 0x51 (wordBytes num ++ wordBytes value)).setPl { s.pl with wm := s.wm.put n value } :=
      ⟨_, rfl⟩
    have howner := setParamOwner_writes (s := s.withInHand 0x51 (wordBytes num ++ wordBytes value)) hin hopen hmay hnew
    replace howner : setParamOwner num value (s.withInHand 0x51 (wordBytes num ++ wordBytes value)) =
        (paramWritten s.wm n u).setParamReply num 0 := by
      rw [hu]
      exact howner
    have hn : n < 512 := by
      have := (assigned_iff n).mp (inRange_bounds hin).1
      omega
    have huwm : u.wm = s.wm.put n value := by rw [hu]; rfl
    have heq := paramWritten_eq (s := u) (before := s.wm) (n := n)
    have hlatches := paramWritten_latches (s := u) s.wm n (LU.Latches.refl)
    have hou := paramWritten_ou (s := u) (before := s.wm) (n := n)
    have hquiet := paramWritten_quiet (s := u) (before := s.wm) (n := n)
    have hzone := paramWritten_zone (s := u) (before := s.wm) (n := n)
    have hchannel (c : Fin 16) (f : Nat) := paramWritten_channel (s := u) (before := s.wm) (n := n) (c := c) (f := f)
    have hpoint (p : Fin 32) (f : Nat) := paramWritten_point (s := u) (before := s.wm) (n := n) (p := p) (f := f)
    have hslot (i : Fin 8) := paramWritten_slot (s := u) (before := s.wm) (n := n) (i := i)
    generalize paramWritten s.wm n u = e at *
    have hewm : e.wm = s.wm.put n value := by
      rw [heq]
      exact huwm
    have hwordn : (s.wm.put n value).word n = value := by rw [word_put _ hn, if_pos rfl]
    have hanswered : setParamOwner num value (s.withInHand 0x51 (wordBytes num ++ wordBytes value)) =
        (e, [0] ++ wordBytes num ++ wordBytes value) := by
      rw [howner, State.setParamReply, hewm]
      exact congrArg (fun v => (e, [0] ++ wordBytes num ++ wordBytes v)) hwordn
    have hlu : (s.withInHand 0x51 (wordBytes num ++ wordBytes value)).lu.Latches e.lu := by
      rw [hu] at hlatches
      exact hlatches
    refine ⟨_, request_latched hs 0x51 (wordBytes num ++ wordBytes value) hanswered hlu (by rw [heq, hu]; exact hs.awake), ?_,
      fun m hm => ?_, ?_, fun hrange => ?_, fun hrange => ?_, ?_⟩
    · rw [heq, hu]
      rfl
    · show e.wm.word m = _
      rw [hewm, word_put _ hn]
    · rw [State.setLu_lu, LU.replied_events, LU.replied_queue]
      exact hlu.replied_eq
    · have hthis := hou hrange
      refine ⟨?_, ?_, ?_, ?_, ?_⟩
      · exact (congrArg State.hs hthis).trans (by rw [hu]; rfl)
      · exact (congrArg State.su hthis).trans (by rw [hu]; rfl)
      · exact (congrArg State.ml hthis).trans (by rw [hu]; rfl)
      · rw [State.setLu_lu, LU.replied_events, hthis, hu]
        rfl
      · rw [State.setLu_lu, LU.replied_queue, hthis, hu]
        rfl
    · exact (congrArg State.ou (hquiet hrange)).trans (by rw [hu]; rfl)
    · intro binds
      have hbinds (c : Fin 16) (r : Role) : e.wm.binds c r = binds c r := (binds_eq _ c r).trans (by cases r <;> rfl)
      have huchannel (c : Fin 16) : u.channel c = s.channel c := by rw [hu]; rfl
      have huewm : u.wm = e.wm := huwm.trans hewm.symm
      refine ⟨fun hlow hhigh hmod c => ?_, fun c f hnumber => ?_, fun p f hnumber => ?_, fun i hnumber => ?_⟩
      · intro y v
        have hv : effectiveOf y.role 0 y.override = v := effectiveOf_received_zero _ _
        have hthis : e.channel c = y.derived (binds c y.role) := by
          rw [hzone ⟨hlow, hhigh⟩ hmod, zoneChannelChanged_channel, huchannel, huewm, hbinds]
        refine Eq.trans hthis ?_
        split
        · next hceases => rw [hceases.2, Channel.derived_unbound hceases.1, hv]
        · next hstays => exact Channel.derived_other hstays
      · have hthis := hchannel c f f.isLt hnumber
        refine ⟨fun k hk => ?_, ?_⟩
        · have hother : e.channel k = u.channel k := by
            rw [hthis]
            exact channelWritten_channel_other hk f
          exact hother.trans (huchannel k)
        · intro y step polarity
          have hword : u.wm.word (360 + 4 * c.val + f.val) = value := by
            rw [huwm, ← hnumber, hwordn]
          have hcode (k : Nat) (hk : f.val = k) (h4 : k < 4) : u.wm.nat (channelParam c k) = value.toNat := by
            subst hk
            rw [WorkingMemory.nat, WorkingMemory.int, channelParam, hword]
            exact toInt_toNat_of_nonneg (channelParam_toInt h4 hnumber hin).1
          have hmax := (channelParam_toInt f.isLt hnumber hin).2
          have hnonneg := toInt_toNat_of_nonneg (channelParam_toInt f.isLt hnumber hin).1
          have hcases : f = 0 ∨ f = 1 ∨ f = 2 ∨ f = 3 := by omega
          rcases hcases with rfl | rfl | rfl | rfl
          · have hrole := roleChanged_channel (s := u) c
            rw [huchannel, huewm, hbinds] at hrole
            rw [if_pos rfl]
            have hsteps : e.channel c = (roleChanged c u).channel c := congrArg (fun t : State => t.channel c) hthis
            exact hsteps.trans hrole
          · have hmodulus := modulusChanged_channel (s := u) c
            have hnow : u.wm.channelModulus c = value.toNat := hcode 1 rfl (by omega)
            rw [huchannel, hnow] at hmodulus
            rw [if_neg (by decide), if_pos rfl]
            have hsteps : e.channel c = (modulusChanged c u).channel c := congrArg (fun t : State => t.channel c) hthis
            exact hsteps.trans hmodulus
          · have hstep := stepChanged_channel (s := u) c
            have hle : value.toInt ≤ 3 := hmax
            have hnow : u.wm.channelStep c = step :=
              (congrArg stepOfCode (hcode 2 rfl (by omega))).trans (stepOfCode_toNat (by omega))
            rw [huchannel, hnow] at hstep
            rw [if_neg (by decide), if_neg (by decide), if_pos rfl]
            have hsteps : e.channel c = (stepChanged c u).channel c := congrArg (fun t : State => t.channel c) hthis
            exact hsteps.trans hstep
          · have hpolarity := polarityChanged_channel (s := u) c
            have hle : value.toInt ≤ 1 := hmax
            have hnow : u.wm.channelPolarity c = polarity :=
              (congrArg polarityOfCode (hcode 3 rfl (by omega))).trans (polarityOfCode_toNat (by omega))
            rw [huchannel, hnow] at hpolarity
            rw [if_neg (by decide), if_neg (by decide), if_neg (by decide)]
            have hsteps : e.channel c = (polarityChanged c u).channel c := congrArg (fun t : State => t.channel c) hthis
            exact hsteps.trans hpolarity
      · have hframe : PointFrame u e := by
          rw [hpoint p f f.isLt hnumber]
          exact applyPointChange_pointFrame s.wm p
        have hchange (q : Fin 32) : e.point q = if q = p then u.changedPoint s.wm p else u.point q := by
          rw [hpoint p f f.isLt hnumber]
          exact applyPointChange_point s.wm p q
        have hupoint (q : Fin 32) : u.point q = s.point q := by rw [hu]; rfl
        have hchanged : e.point p = u.changedPoint s.wm p := (hchange p).trans (if_pos rfl)
        have hsource := hframe.sourceFailed p
        refine ⟨?_, ?_, ?_, ?_, fun q hq => ?_, ?_⟩
        · rw [hframe.frame, hu]
          rfl
        · rw [hframe.frame, hu]
          rfl
        · rw [hframe.frame, hu]
          rfl
        · rw [hframe.frame, hu]
          rfl
        · exact (hchange q).trans ((if_neg hq).trans (hupoint q))
        · intro y was now moved
          have hmoved : moved ↔ s.wm.pointEnabled p = false ∨ u.wm.pointSource p ≠ s.wm.pointSource p ∨
              u.wm.pointKind p ≠ s.wm.pointKind p ∨ u.wm.pointCurveB p ≠ s.wm.pointCurveB p := by
            rw [huewm]
            exact Iff.rfl
          have hnow (b : Bool) (hb : now = b) : u.wm.pointEnabled p = b := by
            rw [huewm]
            exact hb
          refine ⟨fun hoff hwas => ?_, fun hoff hwas => ?_, fun hon hfailed => ?_, fun hon hok hyes => ?_, fun hon hok hno => ?_⟩
          · have hrow := changedPoint_switchedOff (hnow false hoff) hwas
            rw [hupoint] at hrow
            exact hchanged.trans hrow
          · have hrow := changedPoint_staysOff (hnow false hoff) hwas
            rw [hupoint] at hrow
            exact hchanged.trans hrow
          · have hrow := changedPoint_failed (before := s.wm) (hnow true hon) (by rw [← hsource]; exact hfailed)
            rw [hupoint] at hrow
            exact hchanged.trans hrow
          · have hrow := changedPoint_moved (hnow true hon) (hsource.symm.trans hok) (hmoved.mp hyes)
            rw [hupoint] at hrow
            exact hchanged.trans hrow
          · have hrow := changedPoint_same (hnow true hon) (hsource.symm.trans hok) (mt hmoved.mpr hno)
            exact hchanged.trans (hrow.trans (hupoint p))
      · have hthis := hslot i hnumber
        have hafresh (k : Fin 8) := slotKindChanged_slot (s := u) i k
        have hpoints (p : Fin 32) (j : Fin 4) := slotKindChanged_point (s := u) i (p := p) (j := j)
        have hdrive (h : Fin 2) := slotKindChanged_driveSlot (s := u) i h
        have houts := (slotKindChanged_frame u i).2.2.2.1
        rw [← hthis] at houts
        simp only [← hthis] at hafresh hpoints hdrive
        have huslot (k : Fin 8) : u.slot k = s.slot k := by rw [hu]; rfl
        obtain ⟨timer, due, hself⟩ := hafresh i
        rw [if_pos rfl] at hself
        refine ⟨houts.trans (by rw [hu]; rfl), congrArg Slot.state hself, congrArg Slot.failed hself, congrArg Slot.drive hself,
          congrArg Slot.monitor hself, fun j hj => ?_, fun p j hon hsource => ?_, fun h => ?_⟩
        · obtain ⟨_, _, hother⟩ := hafresh j
          rw [if_neg hj] at hother
          exact hother.trans (huslot j)
        · have hword (f : Nat) (hf : f < 5) : u.wm.word (pointParam p f) = s.wm.word (pointParam p f) := by
            have hne : pointParam p f ≠ n := by
              unfold pointParam
              omega
            rw [huwm, word_put _ hn, if_neg hne]
          have henabled : u.wm.pointEnabled p = s.wm.pointEnabled p := congrArg (fun v : Word16 => v.toInt == 1) (hword 0 (by omega))
          have hsources : u.wm.pointSource p = s.wm.pointSource p :=
            congrArg (fun v : Word16 => sourceOfCode v.toInt.toNat) (hword 1 (by omega))
          exact hpoints p j (henabled.trans hon) (hsources.trans hsource)
        · exact (hdrive h).trans (by rw [huewm]; rfl)

end Sys2Proof.Machine

/-! ## A saved image loads (R161, R162, R175) -/

namespace Sys2Proof.Machine

variable {m : Memory} {w : WorkingMemory}

/-- The EEPROM holds a list of bytes from address 0 on. -/
def Memory.Holds (m : Memory) (l : List Byte) : Prop := ∀ i b, l[i]? = some b → m.read i = b

section
variable {a b c : List Byte}

theorem Memory.Holds.read (h : m.Holds (a ++ (b ++ c))) {i : Nat} (hi : i < b.length) : m.read (a.length + i) = b[i] := by
  apply h
  rw [List.getElem?_append_right (Nat.le_add_right _ _), Nat.add_sub_cancel_left, List.getElem?_append_left hi, List.getElem?_eq_getElem hi]

theorem Memory.Holds.readBytes (h : m.Holds (a ++ (b ++ c))) : m.readBytes a.length b.length = b := by
  unfold Memory.readBytes
  refine List.ext_getElem (by simp) fun i hi hi' => ?_
  rw [List.getElem_map, List.getElem_range]
  exact h.read hi'

theorem Memory.Holds.readWord {v : Word16} (h : m.Holds (a ++ (wordBytes v ++ c))) : m.readWord a.length = v := by
  have h0 : m.read a.length = v.extractLsb' 8 8 := h.read (i := 0) Nat.zero_lt_two
  have h1 : m.read (a.length + 1) = v.extractLsb' 0 8 := h.read (i := 1) Nat.one_lt_two
  rw [Memory.readWord, h0, h1, bytesWord_extract]
end

/-! ### The parts of an image (R175) -/

theorem flatMap_split {α : Type} (f : α → List Byte) {l : List α} {k : Nat} {x : α} (h : l[k]? = some x) :
    l.flatMap f = (l.take k).flatMap f ++ (f x ++ (l.drop (k + 1)).flatMap f) := by
  obtain ⟨hk, hx⟩ := List.getElem?_eq_some_iff.mp h
  calc l.flatMap f = (l.take k ++ l.drop k).flatMap f := by rw [List.take_append_drop]
    _ = (l.take k).flatMap f ++ (f x ++ (l.drop (k + 1)).flatMap f) := by
      rw [List.flatMap_append, List.drop_eq_getElem_cons hk, hx, List.flatMap_cons]

/-- The bytes of an image before its parameters. -/
def WorkingMemory.imageStart (w : WorkingMemory) : List Byte := w.imageHead ++ crcBytes (crc32 (w.imageHead ++ w.imageBody))

theorem imageStart_length (w : WorkingMemory) : w.imageStart.length = 16 := rfl

/-- The bytes of the parameters. -/
def WorkingMemory.imageValues (w : WorkingMemory) : List Byte := imageParams.flatMap fun n => wordBytes (w.word n)

theorem imageParams_length : imageParams.length = 487 := by
  simp [imageParams]

theorem imageValues_length (w : WorkingMemory) : w.imageValues.length = 974 := by
  have hlength := length_flatMap_const (fun n => wordBytes_length (w.word n)) imageParams
  rw [WorkingMemory.imageValues, hlength, imageParams_length]

theorem image_eq (w : WorkingMemory) : w.image = w.imageStart ++ (w.imageValues ++ (num8 w.locks.length ++ w.locks.flatMap num16)) := by
  rw [WorkingMemory.image, WorkingMemory.imageStart, WorkingMemory.imageBody, List.append_assoc, List.append_assoc, List.append_assoc]
  rfl

/-! ### Where each parameter stands -/

/-- The place of a section's parameter in the image's order (R175). -/
theorem imageParams_getElem? {n : Nat} (h : assigned n = true) (h30 : n ≠ 30) (h31 : n ≠ 31) :
    ∃ k, imageParams[k]? = some n ∧ paramAddress n = 16 + 2 * k := by
  have hcases := (assigned_iff n).mp h
  have hsections : n ≤ 28 ∨ n = 29 ∨ (40 ≤ n ∧ n ≤ 78) ∨ (80 ≤ n ∧ n ≤ 497) := by omega
  unfold paramAddress imageParams
  rcases hsections with h28 | rfl | hhandler | hother
  · refine ⟨n, ?_, by rw [if_pos h28]⟩
    rw [List.getElem?_append_left (by simp; omega), List.getElem?_append_left (by simp; omega), List.getElem?_append_left (by simp; omega),
      List.getElem?_range (by omega)]
  · refine ⟨486, ?_, by decide⟩
    rw [List.getElem?_append_right (by simp)]
    simp
  · refine ⟨29 + (n - 40), ?_, ?_⟩
    · rw [List.getElem?_append_left (by simp; omega), List.getElem?_append_left (by simp; omega), List.getElem?_append_right (by simp),
        List.length_range, Nat.add_sub_cancel_left, List.getElem?_map, List.getElem?_range (by omega)]
      simp
      omega
    · rw [if_neg (by omega), if_neg (by omega), if_neg (by omega), if_neg (by omega), if_pos (by omega)]
      omega
  · refine ⟨68 + (n - 80), ?_, ?_⟩
    · rw [List.getElem?_append_left (by simp; omega), List.getElem?_append_right (by simp), List.length_append, List.length_map,
        List.length_range, List.length_range, Nat.add_sub_cancel_left, List.getElem?_map, List.getElem?_range (by omega)]
      simp
      omega
    · rw [if_neg (by omega), if_neg (by omega), if_neg (by omega), if_neg (by omega), if_neg (by omega)]
      omega

theorem locks_of_valid (h : w.valid = true) : w.locks.length ≤ 64 ∧ ∀ x ∈ w.locks, assigned x = true := by
  simp only [WorkingMemory.valid, Bool.and_eq_true, decide_eq_true_eq, List.all_eq_true] at h
  exact ⟨h.1.2, h.2⟩

section
variable (h : m.Holds w.image)
include h

/-- A word of the header (R175). -/
theorem Memory.Holds.headWord {a c : List Byte} {v : Word16} (hhead : w.imageHead = a ++ (wordBytes v ++ c)) : m.readWord a.length = v := by
  refine Memory.Holds.readWord (a := a) (c := c ++ (crcBytes (crc32 (w.imageHead ++ w.imageBody)) ++ w.imageBody)) ?_
  have himage : w.image = a ++ (wordBytes v ++ (c ++ (crcBytes (crc32 (w.imageHead ++ w.imageBody)) ++ w.imageBody))) := by
    rw [WorkingMemory.image, List.append_assoc]
    conv_lhs => rw [hhead]
    simp only [List.append_assoc]
    rw [hhead]
    simp only [List.append_assoc]
  rw [← himage]
  exact h

/-- A parameter reads back as it was written (R175). -/
theorem Memory.Holds.param {n : Nat} (hn : assigned n = true) : m.readWord (paramAddress n) = w.word n := by
  by_cases h30 : n = 30
  · subst h30
    exact h.headWord (a := imageMark ++ imageVersion ++ num16 (imageLength w.locks.length)) (c := wordBytes (w.word 31)) rfl
  by_cases h31 : n = 31
  · subst h31
    exact h.headWord (a := imageMark ++ imageVersion ++ num16 (imageLength w.locks.length) ++ wordBytes (w.word 30)) (c := []) rfl
  obtain ⟨k, hk, haddress⟩ := imageParams_getElem? hn h30 h31
  have hbefore : (w.imageStart ++ (imageParams.take k).flatMap fun n => wordBytes (w.word n)).length = 16 + 2 * k := by
    have hklt := (List.getElem?_eq_some_iff.mp hk).1
    have hlength := length_flatMap_const (fun n => wordBytes_length (w.word n)) (imageParams.take k)
    rw [List.length_append, imageStart_length, hlength, List.length_take_of_le (Nat.le_of_lt hklt)]
  rw [haddress, ← hbefore]
  refine Memory.Holds.readWord (c := ((imageParams.drop (k + 1)).flatMap fun n => wordBytes (w.word n)) ++
    (num8 w.locks.length ++ w.locks.flatMap num16)) ?_
  have hsplit := flatMap_split (fun n => wordBytes (w.word n)) hk
  rw [image_eq, WorkingMemory.imageValues, hsplit] at h
  simpa only [List.append_assoc] using h

/-- The lock count reads back. -/
theorem Memory.Holds.lockCount (hlocks : w.locks.length ≤ 64) : m.lockCount = w.locks.length := by
  have hholds : m.Holds ((w.imageStart ++ w.imageValues) ++ (num8 w.locks.length ++ w.locks.flatMap num16)) := by
    rw [image_eq] at h
    simpa only [List.append_assoc] using h
  have hread : m.read (w.imageStart ++ w.imageValues).length = BitVec.ofNat 8 w.locks.length := hholds.read (i := 0) Nat.zero_lt_one
  have hplace : (w.imageStart ++ w.imageValues).length = imageFixed := by
    rw [List.length_append, imageStart_length, imageValues_length]
    rfl
  rw [hplace] at hread
  rw [Memory.lockCount, hread, BitVec.toNat_ofNat]
  omega

/-- A lock reads back. -/
theorem Memory.Holds.lock {i x : Nat} (hx : w.locks[i]? = some x) : m.readWord (imageFixed + 1 + 2 * i) = BitVec.ofNat 16 x := by
  have hbefore : (w.imageStart ++ w.imageValues ++ num8 w.locks.length ++ (w.locks.take i).flatMap num16).length = imageFixed + 1 + 2 * i := by
    have hi := (List.getElem?_eq_some_iff.mp hx).1
    have hlength := length_flatMap_const num16_length (w.locks.take i)
    rw [List.length_append, List.length_append, List.length_append, imageStart_length, imageValues_length, num8_length, hlength,
      List.length_take_of_le (Nat.le_of_lt hi)]
    rfl
  rw [← hbefore]
  refine Memory.Holds.readWord (c := (w.locks.drop (i + 1)).flatMap num16) ?_
  have hsplit := flatMap_split num16 hx
  rw [image_eq, hsplit] at h
  simpa only [List.append_assoc, num16] using h

/-! ### What the load reads back -/

theorem Memory.Holds.mark : m.readBytes 0 4 = imageMark :=
  Memory.Holds.readBytes (a := []) (b := imageMark) (c := imageVersion ++ (num16 (imageLength w.locks.length) ++ (wordBytes (w.word 30) ++
    (wordBytes (w.word 31) ++ (crcBytes (crc32 (w.imageHead ++ w.imageBody)) ++ w.imageBody))))) (by
      simpa only [WorkingMemory.image, WorkingMemory.imageHead, List.append_assoc, List.nil_append] using h)

theorem Memory.Holds.version : m.readBytes 4 2 = imageVersion :=
  Memory.Holds.readBytes (a := imageMark) (b := imageVersion) (c := num16 (imageLength w.locks.length) ++ (wordBytes (w.word 30) ++
    (wordBytes (w.word 31) ++ (crcBytes (crc32 (w.imageHead ++ w.imageBody)) ++ w.imageBody)))) (by
      simpa only [WorkingMemory.image, WorkingMemory.imageHead, List.append_assoc] using h)

theorem Memory.Holds.length (hlocks : w.locks.length ≤ 64) : (m.readWord 6).toNat = imageLength w.locks.length := by
  have hword : m.readWord 6 = BitVec.ofNat 16 (imageLength w.locks.length) :=
    h.headWord (a := imageMark ++ imageVersion) (c := wordBytes (w.word 30) ++ wordBytes (w.word 31)) (by
      simp only [WorkingMemory.imageHead, num16, List.append_assoc])
  rw [hword, BitVec.toNat_ofNat, imageLength, imageFixed]
  omega

theorem Memory.Holds.head : m.readBytes 0 12 = w.imageHead :=
  Memory.Holds.readBytes (a := []) (b := w.imageHead) (c := crcBytes (crc32 (w.imageHead ++ w.imageBody)) ++ w.imageBody) (by
    simpa only [WorkingMemory.image, List.append_assoc, List.nil_append] using h)

theorem Memory.Holds.crc : m.readBytes 12 4 = crcBytes (crc32 (w.imageHead ++ w.imageBody)) :=
  Memory.Holds.readBytes (a := w.imageHead) (b := crcBytes (crc32 (w.imageHead ++ w.imageBody))) (c := w.imageBody) (by
    simpa only [WorkingMemory.image, List.append_assoc] using h)

theorem Memory.Holds.body : m.readBytes 16 (imageLength w.locks.length - 16) = w.imageBody := by
  have hbody := Memory.Holds.readBytes (m := m) (a := w.imageStart) (b := w.imageBody) (c := []) (by
    simpa only [WorkingMemory.image, WorkingMemory.imageStart, List.append_assoc, List.append_nil] using h)
  have hlength : imageLength w.locks.length - 16 = w.imageBody.length := by
    rw [imageBody_length, imageLength, imageFixed]
    omega
  rw [hlength, ← imageStart_length w]
  exact hbody

/-- The parameters of the profile read are those written. -/
theorem Memory.Holds.profile_word {n : Nat} (hn : assigned n = true) : m.profile.word n = w.word n := by
  have hlt : n < 512 := by
    have hcases := (assigned_iff n).mp hn
    omega
  rw [WorkingMemory.word, Memory.profile, Vector.getElem?_ofFn, dif_pos hlt, Option.getD_some, if_pos hn, h.param hn]

/-- The locks of the profile read are those written. -/
theorem Memory.Holds.profile_locks (hvalid : w.valid = true) : m.profile.locks = w.locks := by
  obtain ⟨hcount, hassigned⟩ := locks_of_valid hvalid
  have hlength : m.profile.locks.length = w.locks.length := by
    rw [Memory.profile, List.length_map, List.length_range, h.lockCount hcount]
  refine List.ext_getElem hlength fun i hi hi' => ?_
  have hlock := h.lock (List.getElem?_eq_getElem hi')
  have hbound := (assigned_iff w.locks[i]).mp (hassigned _ (List.getElem_mem hi'))
  simp only [Memory.profile, List.getElem_map, List.getElem_range, hlock, BitVec.toNat_ofNat]
  omega

/-- The profile read is valid where the one written was. -/
theorem Memory.Holds.profile_valid (hvalid : w.valid = true) : m.profile.valid = true := by
  obtain ⟨hcount, hassigned⟩ := locks_of_valid hvalid
  rw [WorkingMemory.valid, h.profile_locks hvalid, Bool.and_eq_true, Bool.and_eq_true]
  refine ⟨⟨?_, decide_eq_true hcount⟩, List.all_eq_true.mpr hassigned⟩
  refine List.all_eq_true.mpr fun n hn => ?_
  cases ha : assigned n with
  | false => rfl
  | true =>
    rw [h.profile_word ha, w.inRange_of_valid hvalid (List.mem_range.mp hn) ha]
    rfl

/-- Every check of the load passes (R161). -/
theorem Memory.Holds.loadFault (hvalid : w.valid = true) : m.loadFault true = none := by
  obtain ⟨hcount, -⟩ := locks_of_valid hvalid
  have hlength : ¬ (64 < w.locks.length ∨ (m.readWord 6).toNat ≠ imageLength w.locks.length) := by
    rw [h.length hcount]
    omega
  simp only [Memory.loadFault, h.lockCount hcount, h.mark, h.version, h.head, h.body, h.crc, h.profile_valid hvalid, if_neg hlength]
  simp
end

/-- Settles O52. -/
theorem savedImageLoads : Obligations.SavedImageLoads := by
  intro m w hvalid hread
  have h : m.Holds w.image := hread
  exact ⟨h.loadFault hvalid, h.profile_locks hvalid, fun n hn => h.profile_word hn⟩

end Sys2Proof.Machine

/-! ## Stage 2 of the handlers (R25 to R35) -/

namespace Sys2Proof.Machine

variable {s t : State} {h k : Fin 2}

/-! ### What a handler's turn may touch -/

/-- What a handler's turn at stage 2 may touch: its own record and renewal, the airflow settings as they are read, events, and the values
handed to the OU. -/
structure State.Turn (h : Fin 2) (s t : State) : Prop where
  frame : t = { s with
    hs := { s.hs with handlers := t.hs.handlers, air := t.hs.air }, rs := { s.rs with renewals := t.rs.renewals }, lu := t.lu
    bus := { s.bus with ouValues := t.bus.ouValues } }
  air : s.hs.air = s.wm.airSettings → t.hs.air = s.wm.airSettings
  handler : ∀ k, k ≠ h → t.handler k = s.handler k
  renewal : ∀ k, k ≠ h → t.renewal k = s.renewal k

theorem State.Turn.refl : State.Turn h s s := ⟨rfl, id, fun _ _ => rfl, fun _ _ => rfl⟩

theorem State.Turn.wm (ht : State.Turn h s t) : t.wm = s.wm := by
  rw [ht.frame]
  rfl

theorem State.Turn.usable (ht : State.Turn h s t) (p : Option (Fin 32)) : t.usable p = s.usable p := by
  rw [ht.frame]
  rfl

theorem State.Turn.trans {u : State} (ht : State.Turn h s t) (hu : State.Turn h t u) : State.Turn h s u where
  frame := by
    have hframe := hu.frame
    rw [ht.frame] at hframe
    exact hframe
  air ha := by rw [← ht.wm]; exact hu.air (by rw [ht.wm]; exact ht.air ha)
  handler k hk := (hu.handler k hk).trans (ht.handler k hk)
  renewal k hk := (hu.renewal k hk).trans (ht.renewal k hk)

theorem putHandler_turn (h : Fin 2) (x : Handler) : State.Turn h s (s.putHandler h x) :=
  ⟨rfl, id, fun _ hk => State.putHandler_handler_other s hk.symm x, fun _ _ => rfl⟩

theorem latch_turn (h : Fin 2) (e : EventKind) (n : Nat) (v : Int) : State.Turn h s (latch e n v s) :=
  ⟨rfl, id, fun _ _ => rfl, fun _ _ => rfl⟩

theorem readAir_turn (h : Fin 2) : State.Turn h s (readAir s) := ⟨rfl, fun _ => rfl, fun _ _ => rfl, fun _ _ => rfl⟩

theorem timerStart_turn (h : Fin 2) (b : Bool) : State.Turn h s (timerStart b s) := by
  cases b with
  | false => exact .refl
  | true => exact readAir_turn h

theorem takeMode_turn (h : Fin 2) (m : Mode) : State.Turn h s (takeMode h m s) := by
  unfold takeMode
  dsimp only
  split
  · exact .refl
  · exact (putHandler_turn h _).trans (latch_turn h _ _ _)

theorem endDefrost_turn (h : Fin 2) (r : DefrostEnd) : State.Turn h s (endDefrost h r s) :=
  (putHandler_turn h _).trans (latch_turn h _ _ _)

theorem leaveTo_turn (h : Fin 2) (m : Mode) (r : DefrostEnd) : State.Turn h s (leaveTo h m r s) := by
  have hends : State.Turn h s (if (s.handler h).mode = .defrost then endDefrost h r s else s) := by
    split
    · exact endDefrost_turn h r
    · exact .refl
  exact hends.trans ((putHandler_turn h _).trans ((takeMode_turn h m).trans (timerStart_turn h _)))

theorem abortRenewal_turn (h : Fin 2) (e : RenewalEnd) : State.Turn h s (abortRenewal h e s) := by
  unfold abortRenewal
  split
  · have hframe := endRenewal_renewalFrame (s := s) h e
    refine ⟨?_, fun ha => ?_, fun k hk => ?_, fun k hk => (endRenewal_renewal h k e).trans (if_neg hk)⟩
    · have hlu := congrArg State.lu hframe
      have hair := congrArg (fun u : State => u.hs.air) hframe
      dsimp only at hlu hair
      rw [hlu, hair]
      exact hframe
    · rw [congrArg (fun u : State => u.hs.air) hframe]
      exact ha
    · rw [endRenewal, renewAir_handler, if_neg hk]
      rfl
  · exact .refl

theorem returnToHeat_turn (h : Fin 2) (r : DefrostEnd) (n : Nat) : State.Turn h s (returnToHeat h r n s) :=
  (putHandler_turn h _).trans ((endDefrost_turn h r).trans (takeMode_turn h .heat))

theorem transition_turn (h : Fin 2) : State.Turn h s (transition h s) := by
  unfold transition
  dsimp only
  split
  · exact takeMode_turn h _
  · split
    · exact takeMode_turn h _
    · split
      · exact takeMode_turn h _
      · exact .refl
  · split
    · exact leaveTo_turn h _ _
    · exact .refl
  · split
    · exact leaveTo_turn h _ _
    · exact .refl
  · split
    · exact leaveTo_turn h _ _
    · split
      · exact returnToHeat_turn h _ _
      · split
        · exact returnToHeat_turn h _ _
        · exact .refl

theorem stepMode_turn (h : Fin 2) : State.Turn h s (stepMode h s) := by
  unfold stepMode
  split
  · split
    · exact .refl
    · exact (leaveTo_turn h _ _).trans (abortRenewal_turn h _)
  · exact transition_turn h

theorem stage2Handler_turn (d : DemandSet) (h : Fin 2) : State.Turn h s (stage2Handler d h s) :=
  (putHandler_turn h _).trans ((stepMode_turn h).trans ((putHandler_turn h _).trans (putHandler_turn h _)))

/-- The state in which a handler's turn begins, as far as the turn depends on it. -/
structure State.TurnStart (h : Fin 2) (s v : State) : Prop where
  handler : v.handler h = s.handler h
  renewal : v.renewal h = s.renewal h
  wm : v.wm = s.wm
  usable : ∀ p, v.usable p = s.usable p

/-- Each handler has its own turn, and the other's turn leaves its record as it is. -/
theorem forHandlers_turn {f : Fin 2 → State → State} (hf : ∀ i u, State.Turn i u (f i u))
    (hl : ∀ (i : Fin 2) (u : State), u.lu.Latches (f i u).lu)
    (s : State) (h : Fin 2) : ∃ v, State.TurnStart h s v ∧ (forHandlers f s).handler h = (f h v).handler h ∧
      (forHandlers f s).renewal h = (f h v).renewal h ∧ (f h v).lu.Latches (forHandlers f s).lu := by
  have hcases : h = 0 ∨ h = 1 := by omega
  rcases hcases with rfl | rfl
  · exact ⟨s, ⟨rfl, rfl, rfl, fun _ => rfl⟩, (hf 1 _).handler 0 (by decide), (hf 1 _).renewal 0 (by decide), hl 1 _⟩
  · have hfirst := hf 0 s
    exact ⟨f 0 s, ⟨hfirst.handler 1 (by decide), hfirst.renewal 1 (by decide), hfirst.wm, hfirst.usable⟩, rfl, rfl, .refl⟩

/-! ### The request of a handler (R30, R33) -/

/-- A handler with its compressor request and its defrost offered or not. -/
def Handler.requested (w : WorkingMemory) (renewing : Bool) (x : Handler) : Handler :=
  { x with qReq := requestOf w x, candidate := x.mode == .heat && x.defrostDue && x.driveAvailable && x.restClear && !renewing }

theorem stage2Handler_eq (d : DemandSet) (h : Fin 2) {u : State}
    (hu : u = s.putHandler h { s.handler h with counted := (d.counted h).length, net := netDemand (d.counted h) }) :
    stage2Handler d h s = (stepMode h u).putHandler h (((stepMode h u).handler h).requested (stepMode h u).wm ((stepMode h u).renewing h)) := by
  rw [stage2Handler, ← hu]
  dsimp only
  rw [State.offersDefrost, State.putHandler_handler_same, putHandler_twice]
  rfl

section
variable {x : Handler} {w : WorkingMemory} {b : Bool}

theorem Handler.resting_iff : x.resting = true ↔ x.comp = .stopped ∧ x.rest ≠ 0 := by
  simp [Handler.resting]

theorem Handler.restClear_eq : x.restClear = !x.resting := by
  rw [Handler.restClear, Handler.resting]
  cases x.comp <;> simp [bne]

theorem Handler.requested_still (hm : x.mode = .idle ∨ x.mode = .vent) : (x.requested w b).qReq = 0 ∧ (x.requested w b).candidate = false := by
  unfold Handler.requested requestOf
  rcases hm with hm | hm <;> rw [hm] <;> exact ⟨rfl, rfl⟩

theorem Handler.requested_heat (hm : x.mode = .heat) :
    (x.requested w b).qReq = if x.comp = .stopped ∧ x.rest ≠ 0 then 0 else max w.qMin (min 1000 x.net).toNat := by
  unfold Handler.requested requestOf
  rw [hm]
  exact if_congr resting_iff rfl rfl

theorem Handler.requested_cool (hm : x.mode = .cool) :
    (x.requested w b).qReq = (if x.comp = .stopped ∧ x.rest ≠ 0 then 0 else max w.qMin (min 1000 (-x.net)).toNat) ∧
      (x.requested w b).candidate = false := by
  unfold Handler.requested requestOf
  rw [hm]
  exact ⟨if_congr resting_iff rfl rfl, rfl⟩

theorem Handler.requested_defrost (hm : x.mode = .defrost) :
    (x.requested w b).qReq = w.qDef ∧ (x.requested w b).candidate = false := by
  unfold Handler.requested requestOf
  rw [hm]
  exact ⟨rfl, rfl⟩
end

/-! ### The mode transitions (R27), row by row -/

section
variable (hcounted : (s.handler h).counted ≠ 0)
include hcounted

theorem stepMode_idle (hm : (s.handler h).mode = .idle) : stepMode h s = takeMode h .vent s := by
  rw [stepMode, if_neg hcounted, transition]
  simp only [hm]

theorem stepMode_vent (hm : (s.handler h).mode = .vent) : stepMode h s =
    if s.wm.heatOn ≤ (s.handler h).net ∧ (s.handler h).driveAvailable ∧ (s.handler h).restClear ∧ (s.handler h).dwellClear .heat then
      takeMode h .heat s
    else if (s.handler h).net ≤ -s.wm.coolOn ∧ (s.handler h).driveAvailable ∧ (s.handler h).restClear ∧ (s.handler h).dwellClear .cool then
      takeMode h .cool s
    else s := by
  rw [stepMode, if_neg hcounted, transition]
  simp only [hm]

theorem stepMode_heat (hm : (s.handler h).mode = .heat) : stepMode h s =
    if (s.handler h).driveAvailable = false ∨ (s.handler h).net ≤ s.wm.heatOff then leaveTo h .vent .drive s else s := by
  rw [stepMode, if_neg hcounted, transition]
  simp only [hm, Bool.not_eq_true']

theorem stepMode_cool (hm : (s.handler h).mode = .cool) : stepMode h s =
    if (s.handler h).driveAvailable = false ∨ -s.wm.coolOff ≤ (s.handler h).net then leaveTo h .vent .drive s else s := by
  rw [stepMode, if_neg hcounted, transition]
  simp only [hm, Bool.not_eq_true']

theorem stepMode_defrost (hm : (s.handler h).mode = .defrost) : stepMode h s =
    if (s.handler h).driveAvailable = false then leaveTo h .vent .drive s
    else if s.coilWarm h then returnToHeat h .temperature 0 s
    else if s.wm.defrostMaximum ≤ (s.handler h).defrostTimer then returnToHeat h .time (s.wm.defrostInterval / 2) s
    else s := by
  rw [stepMode, if_neg hcounted, transition]
  simp only [hm, Bool.not_eq_true']
end

theorem coilWarm_iff : s.coilWarm h = true ↔ ∃ v, s.usable (s.wm.coilPoint h) = some v ∧ 120 ≤ v := by
  unfold State.coilWarm
  cases s.usable (s.wm.coilPoint h) with
  | none => simp
  | some v => simp

/-! ### The events of a transition -/

theorem takeMode_latched (m : Mode) (hm : (s.handler h).mode ≠ m) : ((takeMode h m s).lu.event .modeChange).latched = true := by
  rw [takeMode, if_neg hm, latch_event]

theorem leaveTo_modeChange (m : Mode) (r : DefrostEnd) (hm : (s.handler h).mode ≠ m) :
    ((leaveTo h m r s).lu.event .modeChange).latched = true := by
  simp only [leaveTo, timerStart_frame]
  refine takeMode_latched m ?_
  rw [State.putHandler_handler_same, Handler.stop_eq, Handler.leaveMode_eq]
  split
  · rw [endDefrost_handler]
    exact hm
  · exact hm

theorem leaveTo_defrostEnd (m : Mode) (r : DefrostEnd) (hm : (s.handler h).mode = .defrost) :
    ((leaveTo h m r s).lu.event .defrostEnd).latched = true := by
  simp only [leaveTo, timerStart_frame]
  rw [if_pos hm]
  refine (takeMode_latches h m (s := (endDefrost h r s).putHandler h _) .refl).latched ?_
  exact congrArg EventRecord.latched (latch_event _ _ _ _)

theorem returnToHeat_defrostEnd (r : DefrostEnd) (n : Nat) : ((returnToHeat h r n s).lu.event .defrostEnd).latched = true := by
  refine (takeMode_latches h .heat (s := endDefrost h r _) .refl).latched ?_
  exact congrArg EventRecord.latched (latch_event _ _ _ _)

theorem returnToHeat_handler (r : DefrostEnd) (n : Nat) : (returnToHeat h r n s).handler h =
    { s.handler h with icing := n, defrostDue := false, lastEnd := r, mode := .heat } := by
  rw [returnToHeat, takeMode_handler, endDefrost_handler, State.putHandler_handler_same]

theorem leaveTo_renewal (m : Mode) (r : DefrostEnd) (k : Fin 2) : (leaveTo h m r s).renewal k = s.renewal k := by
  simp [State.renewal]

end Sys2Proof.Machine

/-! ## DEMAND_SET_RECEIVED (R25 to R35) -/

namespace Sys2Proof.Machine

variable {s : State} {d : DemandSet}

/-! ### The counted zones and the net demand (R26) -/

/-- The zones a demand set counts for a handler (R26). -/
def DemandSet.countedOf (d : DemandSet) (h : Fin 2) : List (Fin 12) :=
  (List.finRange 12).filter fun z => (d.zones[z]).counted && (d.zones[z]).handler == h

theorem counted_eq (d : DemandSet) (h : Fin 2) : d.counted h = (d.countedOf h).map fun z => d.zones[z] := by
  rw [DemandSet.counted, List.filter_map]
  rfl

theorem counted_length (d : DemandSet) (h : Fin 2) : (d.counted h).length = (d.countedOf h).length := by
  rw [counted_eq, List.length_map]

theorem netDemand_counted (d : DemandSet) (h : Fin 2) : netDemand (d.counted h) =
    Int.tdiv (((d.countedOf h).map fun z => ((d.zones[z]).weight : Int) * (d.zones[z]).demand).sum)
      (((d.countedOf h).map fun z => ((d.zones[z]).weight : Int)).sum) := by
  rw [netDemand, counted_eq, sumInt_eq_sum, sumInt_eq_sum, List.map_map, List.map_map]
  rfl

/-! ### The state after stage 2 -/

/-- The state in which the handlers have their turns at stage 2 (R22, R25). -/
def State.stage2Start (s : State) (d : DemandSet) : State := readAir (s.setHs { s.hs with cycleNo := d.cycleNo, lastDemand := some d })

theorem stage2Start_turnStart (s : State) (d : DemandSet) (h : Fin 2) : State.TurnStart h s (s.stage2Start d) :=
  ⟨rfl, rfl, rfl, fun _ => rfl⟩

/-- The state after the handlers' turns at stage 2. -/
def State.stage2Turns (s : State) (d : DemandSet) : State := forHandlers (stage2Handler d) (s.stage2Start d)

theorem stage2Turns_eq (s : State) (d : DemandSet) : s.stage2Turns d = { s with
    hs := { s.hs with
      handlers := (s.stage2Turns d).hs.handlers, air := s.wm.airSettings, cycleNo := d.cycleNo, lastDemand := some d }
    rs := { s.rs with renewals := (s.stage2Turns d).rs.renewals }, lu := (s.stage2Turns d).lu
    bus := { s.bus with ouValues := (s.stage2Turns d).bus.ouValues } } := by
  obtain ⟨u, hu⟩ : ∃ u, u = s.stage2Start d := ⟨_, rfl⟩
  have hfirst := stage2Handler_turn (s := u) d 0
  have hsecond := stage2Handler_turn (s := stage2Handler d 0 u) d 1
  have hturns : s.stage2Turns d = stage2Handler d 1 (stage2Handler d 0 u) := by
    rw [hu]
    rfl
  have hair : (s.stage2Turns d).hs.air = s.wm.airSettings := by
    have hread : u.hs.air = u.wm.airSettings := by
      rw [hu]
      rfl
    have hwm : u.wm = s.wm := by
      rw [hu]
      rfl
    rw [hturns, hsecond.air (by rw [hfirst.wm]; exact hfirst.air hread), hfirst.wm, hwm]
  have hframe := hsecond.frame
  rw [← hturns, hfirst.frame, hair, hu] at hframe
  exact hframe

theorem stage2_eq {u : State} (hu : u = s.stage2Turns d) : stage2 d s = { u with
    hs := { u.hs with outstanding := true }
    bus := { u.bus with requestSets := u.bus.requestSets ++ [⟨false, u.requestSet d⟩] } } := by
  have hturns : forHandlers (stage2Handler d) (readAir (s.setHs { s.hs with cycleNo := d.cycleNo, lastDemand := some d })) = u := by
    rw [hu]
    rfl
  rw [stage2, hturns]
  rfl

/-- What a handler is after stage 2, from the state in which its turn begins. -/
theorem stage2Turns_handler (s : State) (d : DemandSet) (h : Fin 2) : ∃ v, State.TurnStart h s v ∧
    (s.stage2Turns d).handler h = (stage2Handler d h v).handler h ∧ (s.stage2Turns d).renewal h = (stage2Handler d h v).renewal h ∧
    (stage2Handler d h v).lu.Latches (s.stage2Turns d).lu := by
  obtain ⟨v, hv, hhandler, hrenewal, hlatches⟩ := forHandlers_turn (f := stage2Handler d) (fun i u => stage2Handler_turn d i)
    (fun i u => stage2Handler_latches d i .refl) (s.stage2Start d) h
  have hstart := stage2Start_turnStart s d h
  exact ⟨v, ⟨hv.handler.trans hstart.handler, hv.renewal.trans hstart.renewal, hv.wm.trans hstart.wm,
    fun p => (hv.usable p).trans (hstart.usable p)⟩, hhandler, hrenewal, hlatches⟩

/-! ### The request set (R25, R31) -/

theorem assist_iff : s.assist = true ↔ ∃ v, s.usable s.wm.outdoorPoint = some v ∧ v ≤ s.wm.assistThreshold := by
  unfold State.assist
  cases s.usable s.wm.outdoorPoint with
  | none => simp
  | some v => simp

/-- A zone's reheat is requested (R31). -/
def State.asksReheat (s : State) (x : DemandZone) : Prop := x.hasReheat = true ∧ 0 < x.demand ∧
  ((s.handler x.handler).mode = .vent ∨ (s.handler x.handler).mode = .cool ∨ (s.handler x.handler).mode = .defrost ∨
    ((s.handler x.handler).mode = .heat ∧ ∃ v, s.usable s.wm.outdoorPoint = some v ∧ v ≤ s.wm.assistThreshold))

theorem reheatRequest_asks {x : DemandZone} (h : s.asksReheat x) : s.reheatRequest x = x.demand.toNat := by
  obtain ⟨hhas, hdemand, hmode⟩ := h
  rw [State.reheatRequest, if_neg (by rw [hhas]; simp; exact hdemand)]
  rcases hmode with hm | hm | hm | ⟨hm, hassist⟩
  · rw [hm]
  · rw [hm]
  · rw [hm]
  · rw [hm]
    exact if_pos (assist_iff.mpr hassist)

theorem reheatRequest_none {x : DemandZone} (h : ¬ s.asksReheat x) : s.reheatRequest x = 0 := by
  unfold State.reheatRequest
  split
  · rfl
  · next hasks =>
    have hpositive : x.hasReheat = true ∧ 0 < x.demand := by
      simp only [Bool.not_eq_true', not_or, Bool.not_eq_false, Int.not_le] at hasks
      exact hasks
    cases hm : (s.handler x.handler).mode with
    | vent => exact absurd ⟨hpositive.1, hpositive.2, .inl hm⟩ h
    | cool => exact absurd ⟨hpositive.1, hpositive.2, .inr (.inl hm)⟩ h
    | defrost => exact absurd ⟨hpositive.1, hpositive.2, .inr (.inr (.inl hm))⟩ h
    | heat => exact if_neg fun hassist => h ⟨hpositive.1, hpositive.2, .inr (.inr (.inr ⟨hm, assist_iff.mp hassist⟩))⟩
    | idle => rfl

theorem requestSet_handler (s : State) (d : DemandSet) (h : Fin 2) : (s.requestSet d).handlers[h] = {
    mode := (s.handler h).mode, qReq := (s.handler h).qReq, rating := s.wm.compressorRating h
    candidate := (s.handler h).candidate, runningDefrost := decide ((s.handler h).mode = .defrost) } := by
  simp only [State.requestSet, Fin.getElem_fin, Vector.getElem_ofFn]
  rfl

theorem requestSet_zone (s : State) (d : DemandSet) (z : Fin 12) : (s.requestSet d).zones[z] =
    ⟨s.reheatRequest d.zones[z], (d.zones[z]).rating⟩ := by
  simp only [State.requestSet, Fin.getElem_fin, Vector.getElem_map]

/-- A handler's count and net demand stay through its turn (R26). -/
theorem stepMode_counted (h : Fin 2) (s : State) : ((stepMode h s).handler h).counted = (s.handler h).counted ∧
    ((stepMode h s).handler h).net = (s.handler h).net := by
  have hleave (m : Mode) (r : DefrostEnd) : ((leaveTo h m r s).handler h).counted = (s.handler h).counted ∧
      ((leaveTo h m r s).handler h).net = (s.handler h).net := by
    rw [leaveTo_handler, Handler.stop_eq, Handler.leaveMode_eq]
    exact ⟨rfl, rfl⟩
  by_cases hzero : (s.handler h).counted = 0
  · rw [stepMode, if_pos hzero]
    split
    · exact ⟨rfl, rfl⟩
    · unfold abortRenewal
      split
      · obtain ⟨b, f, hend⟩ := endRenewal_handler (s := leaveTo h .idle .aborted s) h h .handlerIdle
        rw [hend]
        exact hleave _ _
      · exact hleave _ _
  · cases hm : (s.handler h).mode with
    | idle =>
      rw [stepMode_idle hzero hm, takeMode_handler]
      exact ⟨rfl, rfl⟩
    | vent =>
      rw [stepMode_vent hzero hm]
      split
      · rw [takeMode_handler]
        exact ⟨rfl, rfl⟩
      · split
        · rw [takeMode_handler]
          exact ⟨rfl, rfl⟩
        · exact ⟨rfl, rfl⟩
    | heat =>
      rw [stepMode_heat hzero hm]
      split
      · exact hleave _ _
      · exact ⟨rfl, rfl⟩
    | cool =>
      rw [stepMode_cool hzero hm]
      split
      · exact hleave _ _
      · exact ⟨rfl, rfl⟩
    | defrost =>
      rw [stepMode_defrost hzero hm]
      split
      · exact hleave _ _
      · split
        · rw [returnToHeat_handler]
          exact ⟨rfl, rfl⟩
        · split
          · rw [returnToHeat_handler]
            exact ⟨rfl, rfl⟩
          · exact ⟨rfl, rfl⟩

theorem stage2Turns_counted (s : State) (d : DemandSet) (h : Fin 2) : ((s.stage2Turns d).handler h).counted = (d.counted h).length ∧
    ((s.stage2Turns d).handler h).net = netDemand (d.counted h) := by
  obtain ⟨v, -, hhandler, -⟩ := stage2Turns_handler s d h
  obtain ⟨u, hu⟩ : ∃ u, u = v.putHandler h { v.handler h with counted := (d.counted h).length, net := netDemand (d.counted h) } := ⟨_, rfl⟩
  have hstep := stepMode_counted h u
  have hstart : u.handler h = { v.handler h with counted := (d.counted h).length, net := netDemand (d.counted h) } := by
    rw [hu, State.putHandler_handler_same]
  rw [hstart] at hstep
  rw [hhandler, stage2Handler_eq d h hu, State.putHandler_handler_same]
  exact hstep

/-! ### The command -/

theorem exec_demandSetReceived {d : Handed DemandSet} {rest : List (Handed DemandSet)} (hset : s.bus.demandSets = d :: rest) :
    exec .demandSetReceived s = .next (kick (if s.sc.opState = .run ∧ !d.dropped then stage2 d.set (s.setBus { s.bus with demandSets := rest })
      else s.setBus { s.bus with demandSets := rest })) := by
  show execDemandSetReceived s = _
  rw [execDemandSetReceived, hset]

theorem exec_demandSetReceived_taken {d : Handed DemandSet} {rest : List (Handed DemandSet)} (hset : s.bus.demandSets = d :: rest)
    (hrun : s.sc.opState = .run) (hd : d.dropped = false) :
    exec .demandSetReceived s = .next (kick (stage2 d.set (s.setBus { s.bus with demandSets := rest }))) := by
  rw [exec_demandSetReceived hset, if_pos ⟨hrun, by rw [hd]; rfl⟩]

/-- Settles O21. -/
theorem demandSetMakesARequestSet : Obligations.DemandSetMakesARequestSet := by
  intro s d rest hset
  refine ⟨fun hno hsettled => ?_, fun hrun hd => ?_⟩
  · have hnot : ¬ (s.sc.opState = .run ∧ (!d.dropped) = true) := by
      rintro ⟨hrun, hkept⟩
      rcases hno with hout | hdropped
      · exact hout hrun
      · rw [hdropped] at hkept
        exact Bool.false_ne_true hkept
    rw [exec_demandSetReceived hset, if_neg hnot]
    exact congrArg Host.Outcome.next (kick_settled (s := s.setBus { s.bus with demandSets := rest }) hsettled)
  · obtain ⟨s1, hs1⟩ : ∃ u, u = s.setBus { s.bus with demandSets := rest } := ⟨_, rfl⟩
    obtain ⟨u, hu⟩ : ∃ u, u = s1.stage2Turns d.set := ⟨_, rfl⟩
    have hframe := stage2Turns_eq s1 d.set
    have hcounted := stage2Turns_counted s1 d.set
    have hstage := stage2_eq hu
    have hkick := kick_eq (stage2 d.set s1)
    rw [← hu] at hframe hcounted
    have huwm : u.wm = s.wm := by
      rw [hframe, hs1]
      rfl
    have huusable : u.usable u.wm.outdoorPoint = s.usable s.wm.outdoorPoint := by
      rw [hframe, hs1]
      rfl
    refine ⟨_, u.requestSet d.set, exec_demandSetReceived_taken hset hrun hd, ?_⟩
    rw [← hs1]
    generalize kick (stage2 d.set s1) = t at *
    have hthandler (h : Fin 2) : t.handler h = u.handler h := by
      rw [hkick, hstage]
      rfl
    refine ⟨?_, rfl, rfl, fun h => ?_, fun z => ?_, fun h => ?_⟩
    · rw [hkick, hstage, hframe, hs1]
      rfl
    · rw [requestSet_handler, hthandler, huwm]
    · intro x m
      dsimp only
      rw [requestSet_zone, show m = (u.handler x.handler).mode from congrArg Handler.mode (hthandler _)]
      refine ⟨fun hasks => ?_, fun hno => ?_⟩
      · have hreheat : u.asksReheat d.set.zones[z] := by
          rw [State.asksReheat, huusable, huwm]
          exact hasks
        rw [reheatRequest_asks hreheat]
      · have hreheat : ¬ u.asksReheat d.set.zones[z] := by
          rw [State.asksReheat, huusable, huwm]
          exact hno
        rw [reheatRequest_none hreheat]
    · rw [hthandler]
      exact ⟨(hcounted h).1.trans (counted_length d.set h), (hcounted h).2.trans (netDemand_counted d.set h)⟩

end Sys2Proof.Machine

/-! ## The modes at stage 2 (R27 to R35), by row -/

namespace Sys2Proof.Machine

variable {s u : State} {h : Fin 2}

/-- What a handler is after its turn at stage 2. -/
def State.stageTwo (u : State) (h : Fin 2) : Handler := ((stepMode h u).handler h).requested u.wm ((stepMode h u).renewing h)

theorem exec_demandSetReceived_stageTwo {d : Handed DemandSet} {rest : List (Handed DemandSet)} (h : Fin 2)
    (hset : s.bus.demandSets = d :: rest) (hrun : s.sc.opState = .run) (hd : d.dropped = false) :
    ∃ t u, exec .demandSetReceived s = .next t ∧
      u.handler h = { s.handler h with counted := (d.set.counted h).length, net := netDemand (d.set.counted h) } ∧
      u.renewal h = s.renewal h ∧ u.wm = s.wm ∧ (∀ p, u.usable p = s.usable p) ∧ t.handler h = u.stageTwo h ∧
      t.renewal h = (stepMode h u).renewal h ∧ ∀ k, ((stepMode h u).lu.event k).latched = true → (t.lu.event k).latched = true := by
  obtain ⟨s1, hs1⟩ : ∃ u, u = s.setBus { s.bus with demandSets := rest } := ⟨_, rfl⟩
  have hstart : State.TurnStart h s s1 := by
    rw [hs1]
    exact ⟨rfl, rfl, rfl, fun _ => rfl⟩
  obtain ⟨v, hv, hhandler, hrenewal, hlatches⟩ := stage2Turns_handler s1 d.set h
  obtain ⟨u, hu⟩ : ∃ u, u = v.putHandler h { v.handler h with
    counted := (d.set.counted h).length, net := netDemand (d.set.counted h) } := ⟨_, rfl⟩
  have hturn := stage2Handler_eq d.set h hu
  obtain ⟨e, he⟩ : ∃ e, e = s1.stage2Turns d.set := ⟨_, rfl⟩
  have hstage := stage2_eq he
  rw [← he] at hhandler hrenewal hlatches
  have huwm : u.wm = v.wm := by
    rw [hu]
    rfl
  have hkick := kick_eq (stage2 d.set s1)
  have hevent := kick_event (stage2 d.set s1)
  refine ⟨_, u, exec_demandSetReceived_taken hset hrun hd, ?_, ?_, ?_, fun p => ?_, ?_, ?_, fun k hk => ?_⟩
  · rw [hu, State.putHandler_handler_same, hv.handler, hstart.handler]
  · rw [hu]
    exact hv.renewal.trans hstart.renewal
  · exact huwm.trans (hv.wm.trans hstart.wm)
  · rw [hu]
    exact (hv.usable p).trans (hstart.usable p)
  · rw [← hs1]
    generalize kick (stage2 d.set s1) = t at *
    have ht : t.handler h = e.handler h := by
      rw [hkick, hstage]
      rfl
    rw [ht, hhandler, hturn, State.putHandler_handler_same, (stepMode_turn h).wm]
    rfl
  · rw [← hs1]
    generalize kick (stage2 d.set s1) = t at *
    have ht : t.renewal h = e.renewal h := by
      rw [hkick, hstage]
      rfl
    rw [ht, hrenewal, hturn]
    rfl
  · rw [← hs1, hevent, hstage]
    refine hlatches.latched ?_
    rw [hturn]
    exact hk

/-! ### A handler that keeps or takes a mode -/

theorem stageTwo_stays (hstep : stepMode h u = u) : u.stageTwo h = (u.handler h).requested u.wm (u.renewing h) := by
  rw [State.stageTwo, hstep]

theorem stageTwo_takes {m : Mode} (hstep : stepMode h u = takeMode h m u) :
    ∃ b, u.stageTwo h = { u.handler h with mode := m }.requested u.wm b := ⟨_, by rw [State.stageTwo, hstep, takeMode_handler]⟩

/-- A handler that enters HEAT (R27, R30). -/
theorem stageTwo_heats (hstep : stepMode h u = takeMode h .heat u) (hm : (u.handler h).mode ≠ .heat) :
    (u.stageTwo h).mode = .heat ∧ (u.stageTwo h).qReq = (if (u.handler h).comp = .stopped ∧ (u.handler h).rest ≠ 0 then 0
      else max u.wm.qMin (min 1000 (u.handler h).net).toNat) ∧ (u.stageTwo h).q = (u.handler h).q ∧
      ((stepMode h u).lu.event .modeChange).latched = true := by
  obtain ⟨b, hy⟩ := stageTwo_takes hstep
  rw [hy, hstep]
  exact ⟨rfl, Handler.requested_heat rfl, rfl, takeMode_latched _ hm⟩

/-- A handler that enters COOL (R27, R30). -/
theorem stageTwo_cools (hstep : stepMode h u = takeMode h .cool u) (hm : (u.handler h).mode ≠ .cool) :
    (u.stageTwo h).mode = .cool ∧ (u.stageTwo h).qReq = (if (u.handler h).comp = .stopped ∧ (u.handler h).rest ≠ 0 then 0
      else max u.wm.qMin (min 1000 (-(u.handler h).net)).toNat) ∧ (u.stageTwo h).q = (u.handler h).q ∧
      ((stepMode h u).lu.event .modeChange).latched = true := by
  obtain ⟨b, hy⟩ := stageTwo_takes hstep
  rw [hy, hstep]
  exact ⟨rfl, (Handler.requested_cool rfl).1, rfl, takeMode_latched _ hm⟩

/-! ### A handler that leaves its mode for VENT (R28, R35) -/

theorem stageTwo_left (hstep : stepMode h u = leaveTo h .vent .drive u)
    (hm : (u.handler h).mode = .heat ∨ (u.handler h).mode = .cool ∨ (u.handler h).mode = .defrost) :
    (u.stageTwo h).mode = .vent ∧ (u.stageTwo h).qReq = 0 ∧ (u.stageTwo h).candidate = false ∧ (u.stageTwo h).q = 0 ∧
      (u.stageTwo h).comp = .stopped ∧ (u.stageTwo h).lastMode = (if (u.handler h).mode = .cool then .cool else .heat) ∧
      (u.stageTwo h).dwell = 100000 * u.wm.reversalDwell ∧
      (u.stageTwo h).rest = if (u.handler h).comp = .running then 100000 * u.wm.restTime else (u.handler h).rest := by
  obtain ⟨y, hy⟩ : ∃ y, y = (leaveTo h .vent .drive u).handler h := ⟨_, rfl⟩
  have hstage : u.stageTwo h = y.requested u.wm ((stepMode h u).renewing h) := by rw [State.stageTwo, hstep, hy]
  rw [leaveTo_handler, Handler.stop_eq, Handler.leaveMode_eq, sec_eq, sec_eq] at hy
  have hvent : y.mode = .vent := by rw [hy]
  obtain ⟨hq, hcandidate⟩ := Handler.requested_still (w := u.wm) (b := (stepMode h u).renewing h) (.inr hvent)
  rw [hstage]
  refine ⟨hvent, hq, hcandidate, congrArg Handler.q hy, congrArg Handler.comp hy, (congrArg Handler.lastMode hy).trans ?_,
    (congrArg Handler.dwell hy).trans (if_pos ?_), congrArg Handler.rest hy⟩
  · dsimp only
    rcases hm with hm | hm | hm <;> rw [hm] <;> rfl
  · rcases hm with hm | hm | hm <;> rw [hm] <;> decide

/-- A defrost that the drive's loss ends (R35). -/
theorem stageTwo_lost (hstep : stepMode h u = leaveTo h .vent .drive u) (hm : (u.handler h).mode = .defrost) :
    (u.stageTwo h).lastEnd = .drive ∧ (u.stageTwo h).icing = (u.handler h).icing ∧
      (u.stageTwo h).defrostDue = (u.handler h).defrostDue ∧ ((stepMode h u).lu.event .defrostEnd).latched = true := by
  have hy : u.stageTwo h = ((leaveTo h .vent .drive u).handler h).requested u.wm ((stepMode h u).renewing h) := by
    rw [State.stageTwo, hstep]
  rw [hy, hstep, leaveTo_handler, Handler.stop_eq, Handler.leaveMode_eq, if_pos hm]
  exact ⟨rfl, rfl, rfl, leaveTo_defrostEnd _ _ hm⟩

/-- A defrost that ends with the return to HEAT (R35). -/
theorem stageTwo_returns {r : DefrostEnd} {n : Nat} (hstep : stepMode h u = returnToHeat h r n u) :
    (u.stageTwo h).mode = .heat ∧ (u.stageTwo h).qReq = (if (u.handler h).comp = .stopped ∧ (u.handler h).rest ≠ 0 then 0
      else max u.wm.qMin (min 1000 (u.handler h).net).toNat) ∧ (u.stageTwo h).lastEnd = r ∧ (u.stageTwo h).icing = n ∧
      (u.stageTwo h).defrostDue = false ∧ (u.stageTwo h).candidate = false ∧ (u.stageTwo h).q = (u.handler h).q ∧
      (u.stageTwo h).comp = (u.handler h).comp ∧ (u.stageTwo h).dwell = (u.handler h).dwell ∧
      ((stepMode h u).lu.event .defrostEnd).latched = true := by
  have hy : u.stageTwo h = ((returnToHeat h r n u).handler h).requested u.wm ((stepMode h u).renewing h) := by
    rw [State.stageTwo, hstep]
  rw [hy, hstep, returnToHeat_handler]
  exact ⟨rfl, Handler.requested_heat rfl, rfl, rfl, rfl, rfl, rfl, rfl, rfl, returnToHeat_defrostEnd _ _⟩

/-! ### A handler without a counted zone (R27, R71) -/

theorem stageTwo_idles (hcounted : (u.handler h).counted = 0) (hm : (u.handler h).mode ≠ .idle) :
    ((u.stageTwo h).mode = .idle ∧ (u.stageTwo h).qReq = 0 ∧ (u.stageTwo h).candidate = false ∧ (u.stageTwo h).q = 0 ∧
      (u.stageTwo h).comp = .stopped ∧ ((stepMode h u).lu.event .modeChange).latched = true) ∧
    ((u.handler h).mode = .defrost → (u.stageTwo h).lastEnd = .aborted ∧ (u.stageTwo h).icing = (u.handler h).icing ∧
      (u.stageTwo h).defrostDue = (u.handler h).defrostDue ∧ ((stepMode h u).lu.event .defrostEnd).latched = true) ∧
    ((u.renewal h).state ≠ .idle →
      (stepMode h u).renewal h = { u.renewal h with state := .idle, timer := 0, lastEnd := .handlerIdle }) := by
  obtain ⟨v, hv⟩ : ∃ v, v = leaveTo h .idle .aborted u := ⟨_, rfl⟩
  have hstep : stepMode h u = abortRenewal h .handlerIdle v := by rw [stepMode, if_pos hcounted, if_neg hm, hv]
  have hvh : v.handler h = (leaveTo h .idle .aborted u).handler h := by rw [hv]
  rw [leaveTo_handler, Handler.stop_eq, Handler.leaveMode_eq] at hvh
  have hvrenewal : v.renewal h = u.renewal h := by rw [hv, leaveTo_renewal]
  have hlu : (stepMode h u).lu = v.lu := by
    rw [hstep]
    simp
  obtain ⟨b, f, hy⟩ : ∃ b f, (stepMode h u).handler h = { v.handler h with blower := b, fresh := f } := by
    rw [hstep, abortRenewal]
    split
    · exact endRenewal_handler h h _
    · exact ⟨_, _, rfl⟩
  obtain ⟨hq, hcandidate⟩ := Handler.requested_still (x := (stepMode h u).handler h) (w := u.wm) (b := (stepMode h u).renewing h)
    (.inl (by rw [hy, hvh]))
  have hstage : u.stageTwo h = ((stepMode h u).handler h).requested u.wm ((stepMode h u).renewing h) := rfl
  rw [hstage, hlu]
  refine ⟨⟨?_, hq, hcandidate, ?_, ?_, ?_⟩, fun hdefrost => ⟨?_, ?_, ?_, ?_⟩, fun hrenewing => ?_⟩
  · rw [hy, hvh] <;> rfl
  · rw [hy, hvh] <;> rfl
  · rw [hy, hvh] <;> rfl
  · rw [hv]
    exact leaveTo_modeChange _ _ hm
  · rw [hy, hvh]
    exact if_pos hdefrost
  · rw [hy, hvh] <;> rfl
  · rw [hy, hvh] <;> rfl
  · rw [hv]
    exact leaveTo_defrostEnd _ _ hdefrost
  · have hruns : v.renewing h = true := by
      rw [renewing_iff, hvrenewal]
      exact hrenewing
    rw [hstep, abortRenewal, if_pos hruns, endRenewal_renewal, if_pos rfl, hvrenewal]
    rfl

theorem Handler.restClear_iff {x : Handler} : x.restClear = true ↔ ¬ (x.comp = .stopped ∧ x.rest ≠ 0) := by
  rw [Handler.restClear_eq, ← Handler.resting_iff]
  simp

theorem Handler.dwellClear_heat {x : Handler} : x.dwellClear .heat = true ↔ x.dwell = 0 ∨ x.lastMode ≠ .cool := by
  rw [Handler.dwellClear]
  cases x.lastMode <;> simp

theorem Handler.dwellClear_cool {x : Handler} : x.dwellClear .cool = true ↔ x.dwell = 0 ∨ x.lastMode ≠ .heat := by
  rw [Handler.dwellClear]
  cases x.lastMode <;> simp

/-- The rows of VENT (R27), with the conditions as propositions. -/
theorem stepMode_vent_rows (hcounted : (u.handler h).counted ≠ 0) (hm : (u.handler h).mode = .vent) :
    (u.wm.heatOn ≤ (u.handler h).net → (u.handler h).driveAvailable = true →
      ¬ ((u.handler h).comp = .stopped ∧ (u.handler h).rest ≠ 0) → ((u.handler h).dwell = 0 ∨ (u.handler h).lastMode ≠ .cool) →
      stepMode h u = takeMode h .heat u) ∧
    ((u.handler h).net < u.wm.heatOn → (u.handler h).net ≤ -u.wm.coolOn → (u.handler h).driveAvailable = true →
      ¬ ((u.handler h).comp = .stopped ∧ (u.handler h).rest ≠ 0) → ((u.handler h).dwell = 0 ∨ (u.handler h).lastMode ≠ .heat) →
      stepMode h u = takeMode h .cool u) ∧
    (((u.handler h).driveAvailable = false ∨ ((u.handler h).comp = .stopped ∧ (u.handler h).rest ≠ 0) ∨
      (-u.wm.coolOn < (u.handler h).net ∧ (u.handler h).net < u.wm.heatOn) ∨
      ((u.handler h).dwell ≠ 0 ∧ (u.handler h).lastMode = .cool ∧ -u.wm.coolOn < (u.handler h).net) ∨
      ((u.handler h).dwell ≠ 0 ∧ (u.handler h).lastMode = .heat ∧ (u.handler h).net < u.wm.heatOn)) → stepMode h u = u) := by
  have hrows := stepMode_vent hcounted hm
  simp only [Handler.restClear_iff, Handler.dwellClear_heat, Handler.dwellClear_cool] at hrows
  refine ⟨fun hon hdrive hrest hdwell => ?_, fun hoff hon hdrive hrest hdwell => ?_, fun hno => ?_⟩
  · rw [hrows, if_pos ⟨hon, hdrive, hrest, hdwell⟩]
  · rw [hrows, if_neg (fun hheat => by omega), if_pos ⟨hon, hdrive, hrest, hdwell⟩]
  · rw [hrows, if_neg, if_neg]
    · rintro ⟨hon, hdrive, hrest, hdwell⟩
      rcases hno with hno | hno | hno | ⟨hno, hlast, hnet⟩ | ⟨hno, hlast, hnet⟩
      · rw [hno] at hdrive
        exact Bool.false_ne_true hdrive
      · exact hrest hno
      · omega
      · omega
      · exact hdwell.elim hno fun hne => hne hlast
    · rintro ⟨hon, hdrive, hrest, hdwell⟩
      rcases hno with hno | hno | hno | ⟨hno, hlast, hnet⟩ | ⟨hno, hlast, hnet⟩
      · rw [hno] at hdrive
        exact Bool.false_ne_true hdrive
      · exact hrest hno
      · omega
      · exact hdwell.elim hno fun hne => hne hlast
      · omega

/-- A handler that stays in HEAT: its request and whether its defrost is offered (R30, R33). -/
theorem stageTwo_candidate (hstep : stepMode h u = u) (hm : (u.handler h).mode = .heat) (hdrive : (u.handler h).driveAvailable = true) :
    (u.stageTwo h).candidate = ((u.handler h).defrostDue && decide (¬ ((u.handler h).comp = .stopped ∧ (u.handler h).rest ≠ 0)) &&
      decide ((u.renewal h).state = .idle)) := by
  have hrest : decide (¬ ((u.handler h).comp = .stopped ∧ (u.handler h).rest ≠ 0)) = (u.handler h).restClear :=
    Bool.eq_iff_iff.mpr (decide_eq_true_iff.trans Handler.restClear_iff.symm)
  have hidle : decide ((u.renewal h).state = .idle) = !u.renewing h := by
    rw [State.renewing]
    cases (u.renewal h).state <;> rfl
  rw [stageTwo_stays hstep, hrest, hidle, Handler.requested]
  rw [hm, hdrive, Bool.and_true]
  rfl

/-- Settles O22. -/
theorem handlerModesAtStageTwo : Obligations.HandlerModesAtStageTwo := by
  intro s d rest h hset hrun hd zs n x resting heating cooling warm
  obtain ⟨t, u, hexec, hu, hurenewal, huwm, husable, hy, htrenewal, hevents⟩ := exec_demandSetReceived_stageTwo h hset hrun hd
  have hlength : (d.set.counted h).length = zs.length := counted_length d.set h
  have hnet : netDemand (d.set.counted h) = n := netDemand_counted d.set h
  rw [hlength, hnet] at hu
  have hcounted : (u.handler h).counted = zs.length := congrArg Handler.counted hu
  have hnone : zs = [] → (u.handler h).counted = 0 := fun h0 => by rw [hcounted, h0]; rfl
  have hsome : zs ≠ [] → (u.handler h).counted ≠ 0 := fun hne => by
    rw [hcounted]
    exact fun h0 => hne (List.length_eq_zero_iff.mp h0)
  have hmode : (u.handler h).mode = x.mode := by rw [hu] <;> rfl
  have hq0 : (u.handler h).q = x.q := by rw [hu] <;> rfl
  have hcoil : u.coilWarm h = true ↔ warm := by
    rw [coilWarm_iff, husable, huwm]
  refine ⟨t, hexec, ?_⟩
  intro y stoppedIn event
  have hy : y = u.stageTwo h := hy
  clear_value y
  refine ⟨fun h0 hm => ?_, fun h0 hm => ?_, fun h0 hm => ?_, fun h0 hm => ?_, fun h0 hm => ?_, fun h0 hm => ?_, fun h0 hm => ?_,
    fun h0 hm => ?_, fun h0 hm => ?_, fun h0 hm => ?_, fun h0 hm => ?_, fun h0 hm => ?_, fun h0 hm => ?_, fun h0 hm => ?_⟩
  · have hstep : stepMode h u = u := by rw [stepMode, if_pos (hnone h0), if_pos (hmode.trans hm)]
    have hstill := Handler.requested_still (w := u.wm) (b := u.renewing h) (.inl (hmode.trans hm))
    rw [hy, stageTwo_stays hstep]
    exact ⟨hmode.trans hm, hstill⟩
  · obtain ⟨⟨hidle, hq, hcandidate, hzero, hcomp, hchange⟩, hdefrost, hrenewing⟩ := stageTwo_idles (hnone h0) (by rw [hmode]; exact hm)
    rw [hurenewal] at hrenewing
    rw [hy, htrenewal]
    rw [hu] at hdefrost
    refine ⟨hidle, hq, hcandidate, hzero, hcomp, hevents _ hchange, fun hd => ?_, hrenewing⟩
    obtain ⟨hend, hicing, hdue, hlatched⟩ := hdefrost hd
    exact ⟨hend, hicing, hdue, hevents _ hlatched⟩
  · have hstep := stepMode_idle (hsome h0) (hmode.trans hm)
    obtain ⟨b, hvent⟩ := stageTwo_takes hstep
    have hchange := takeMode_latched (s := u) (h := h) .vent (by rw [hmode, hm]; decide)
    rw [← hstep] at hchange
    rw [hy, hvent]
    exact ⟨rfl, rfl, hevents _ hchange⟩
  · intro hon hdrive hrest hdwell
    have hstep := (stepMode_vent_rows (hsome h0) (hmode.trans hm)).1
    have hheats := stageTwo_heats (h := h) (u := u)
    rw [hu, huwm] at hstep hheats
    obtain ⟨hheat, hq, hkept, hchange⟩ := hheats (hstep hon hdrive hrest hdwell) (by rw [hm]; decide)
    rw [hy]
    exact ⟨hheat, hq, hkept, hevents _ hchange⟩
  · intro hoff hon hdrive hrest hdwell
    have hstep := (stepMode_vent_rows (hsome h0) (hmode.trans hm)).2.1
    have hcools := stageTwo_cools (h := h) (u := u)
    rw [hu, huwm] at hstep hcools
    obtain ⟨hcool, hq, hkept, hchange⟩ := hcools (hstep hoff hon hdrive hrest hdwell) (by rw [hm]; decide)
    rw [hy]
    exact ⟨hcool, hq, hkept, hevents _ hchange⟩
  · intro hno
    have hrows := (stepMode_vent_rows (hsome h0) (hmode.trans hm)).2.2
    rw [hu, huwm] at hrows
    have hstill := Handler.requested_still (w := u.wm) (b := u.renewing h) (.inr (hmode.trans hm))
    rw [hy, stageTwo_stays (hrows hno)]
    exact ⟨hmode.trans hm, hstill⟩
  · intro hdrive hnet
    have hstep := stepMode_heat (hsome h0) (hmode.trans hm)
    rw [if_neg (by rw [hu, huwm, hdrive]; simp; exact hnet)] at hstep
    have hcandidate := stageTwo_candidate hstep (hmode.trans hm) (by rw [hu]; exact hdrive)
    have hq := Handler.requested_heat (w := u.wm) (b := u.renewing h) (hmode.trans hm)
    rw [hu, hurenewal] at hcandidate
    rw [← stageTwo_stays hstep, hu, huwm] at hq
    rw [hy]
    refine ⟨?_, hq, ?_, hcandidate⟩
    · rw [stageTwo_stays hstep]
      exact hmode.trans hm
    · rw [stageTwo_stays hstep]
      exact hq0
  · intro hleaves
    have hstep := stepMode_heat (hsome h0) (hmode.trans hm)
    rw [if_pos (by rw [hu, huwm]; exact hleaves)] at hstep
    have hchange := leaveTo_modeChange (s := u) (h := h) .vent .drive (by rw [hmode, hm]; decide)
    have hleft := stageTwo_left hstep (.inl (hmode.trans hm))
    rw [← hstep] at hchange
    rw [← hy, hu, huwm, hm] at hleft
    exact ⟨hleft, hevents _ hchange⟩
  · intro hdrive hnet
    have hstep := stepMode_cool (hsome h0) (hmode.trans hm)
    rw [if_neg (by rw [hu, huwm, hdrive]; simp; exact hnet)] at hstep
    obtain ⟨hq, hcandidate⟩ := Handler.requested_cool (w := u.wm) (b := u.renewing h) (hmode.trans hm)
    rw [← stageTwo_stays hstep, ← hy] at hq hcandidate
    rw [hu, huwm] at hq
    refine ⟨?_, hq, ?_, hcandidate⟩
    · rw [hy, stageTwo_stays hstep]
      exact hmode.trans hm
    · rw [hy, stageTwo_stays hstep]
      exact hq0
  · intro hleaves
    have hstep := stepMode_cool (hsome h0) (hmode.trans hm)
    rw [if_pos (by rw [hu, huwm]; exact hleaves)] at hstep
    have hchange := leaveTo_modeChange (s := u) (h := h) .vent .drive (by rw [hmode, hm]; decide)
    have hleft := stageTwo_left hstep (.inr (.inl (hmode.trans hm)))
    rw [← hstep] at hchange
    rw [← hy, hu, huwm, hm] at hleft
    exact ⟨hleft, hevents _ hchange⟩
  · intro hlost
    have hstep := stepMode_defrost (hsome h0) (hmode.trans hm)
    rw [if_pos (by rw [hu]; exact hlost)] at hstep
    have hleft := stageTwo_left hstep (.inr (.inr (hmode.trans hm)))
    obtain ⟨hend, hicing, hdue, hlatched⟩ := stageTwo_lost hstep (hmode.trans hm)
    rw [← hy, hu, huwm, hm] at hleft
    rw [← hy] at hend
    rw [← hy, hu] at hicing hdue
    exact ⟨hleft, hend, hicing, hdue, hevents _ hlatched⟩
  · intro hdrive hwarm
    have hstep := stepMode_defrost (hsome h0) (hmode.trans hm)
    rw [if_neg (by rw [hu, hdrive]; decide), if_pos (hcoil.mpr hwarm)] at hstep
    have hreturns := stageTwo_returns hstep
    rw [← hy, hu, huwm] at hreturns
    obtain ⟨hheat, hq, hend, hicing, hdue, hcandidate, hkept, hcomp, hdwell, hlatched⟩ := hreturns
    exact ⟨hheat, hq, hend, hicing, hdue, hcandidate, hkept, hcomp, hdwell, hevents _ hlatched⟩
  · intro hdrive hcold htime
    have hstep := stepMode_defrost (hsome h0) (hmode.trans hm)
    rw [if_neg (by rw [hu, hdrive]; decide), if_neg (fun hwarm => hcold (hcoil.mp hwarm)), if_pos (by rw [hu, huwm]; exact htime)] at hstep
    have hreturns := stageTwo_returns hstep
    rw [← hy, hu, huwm] at hreturns
    obtain ⟨hheat, hq, hend, hicing, hdue, hcandidate, hkept, hcomp, hdwell, hlatched⟩ := hreturns
    exact ⟨hheat, hq, hend, hicing, hdue, hcandidate, hkept, hcomp, hdwell, hevents _ hlatched⟩
  · intro hdrive hcold htime
    have hstep := stepMode_defrost (hsome h0) (hmode.trans hm)
    rw [if_neg (by rw [hu, hdrive]; decide), if_neg (fun hwarm => hcold (hcoil.mp hwarm)),
      if_neg (by rw [hu, huwm]; exact Nat.not_le.mpr htime)] at hstep
    obtain ⟨hq, hcandidate⟩ := Handler.requested_defrost (w := u.wm) (b := u.renewing h) (hmode.trans hm)
    rw [← stageTwo_stays hstep, ← hy] at hq hcandidate
    rw [huwm] at hq
    refine ⟨?_, hq, ?_, hcandidate⟩
    · rw [hy, stageTwo_stays hstep]
      exact hmode.trans hm
    · rw [hy, stageTwo_stays hstep]
      exact hq0

end Sys2Proof.Machine

/-! ## The end of an exchange (R117 to R127) -/

namespace Sys2Proof.Machine

variable {s u : State}

/-! ### What the line's next traffic leaves in a slot -/

/-- The slot but for its timers and what is due. -/
def Slot.SameRecord (x y : Slot) : Prop :=
  y = { x with probeTimer := y.probeTimer, probeDue := y.probeDue, readTimer := y.readTimer, readDue := y.readDue }

theorem Slot.SameRecord.refl (x : Slot) : x.SameRecord x := rfl

theorem Slot.SameRecord.trans {x y z : Slot} (hxy : x.SameRecord y) (hyz : y.SameRecord z) : x.SameRecord z := by
  unfold Slot.SameRecord at *
  rw [hyz, hxy]

theorem Slot.SameButDue.sameRecord {x y : Slot} (h : x.SameButDue y) : x.SameRecord y := by
  unfold Slot.SameButDue at h
  unfold Slot.SameRecord
  rw [h]

theorem Slot.SameRecord.fields {x y : Slot} (h : x.SameRecord y) : y.state = x.state ∧ y.failed = x.failed ∧ y.drive = x.drive ∧
    y.monitor = x.monitor ∧ y.moduleType = x.moduleType ∧ y.lastProbe = x.lastProbe := by
  rw [h]
  exact ⟨rfl, rfl, rfl, rfl, rfl, rfl⟩

theorem Slot.opened_sameRecord (kind : SlotKind) (x : Slot) : x.SameRecord (x.opened kind) := by
  unfold Slot.opened
  repeat' split
  all_goals rfl

theorem openLine_sameRecord (i : Fin 8) : (s.slot i).SameRecord ((openLine s).slot i) :=
  (Slot.opened_sameRecord _ _).trans (openLine_slot i).sameRecord

theorem endClosing_sameRecord (i : Fin 8) : (s.slot i).SameRecord ((endClosing s).slot i) := by
  unfold endClosing
  split
  · exact openLine_sameRecord i
  · exact .refl _

theorem nextTraffic_sameRecord (i : Fin 8) : (s.slot i).SameRecord ((nextTraffic s).slot i) := by
  unfold nextTraffic
  split
  · exact (arbitrate_slot i).sameRecord
  · split
    · exact .refl _
    · rcases nextClosingStop_cases (s := s) s.ml.closingLeft with h | ⟨g, j, rest, h⟩
      · rw [h]
        exact endClosing_sameRecord i
      · rw [h]
        exact .refl _
  · exact .refl _

/-! ### What it leaves of the pass-through, the handlers and the events -/

theorem endClosing_not_queued (h : s.ml.pass.state ≠ .queued) : (endClosing s).ml.pass = s.ml.pass ∧ (endClosing s).lu = s.lu := by
  unfold endClosing
  split
  · exact openLine_not_queued h
  · exact ⟨rfl, rfl⟩

theorem nextTraffic_not_queued (h : s.ml.pass.state ≠ .queued) : (nextTraffic s).ml.pass = s.ml.pass ∧ (nextTraffic s).lu = s.lu := by
  unfold nextTraffic
  split
  · exact arbitrate_not_queued h
  · split
    · exact ⟨rfl, rfl⟩
    · rcases nextClosingStop_cases (s := s) s.ml.closingLeft with hn | ⟨g, j, rest, hn⟩
      · rw [hn]
        exact endClosing_not_queued h
      · rw [hn]
        exact ⟨rfl, rfl⟩
  · exact ⟨rfl, rfl⟩

theorem nextTraffic_event {k : EventKind} (hk : k ≠ .passDone) : (nextTraffic s).lu.event k = s.lu.event k := by
  unfold nextTraffic
  split
  · exact arbitrate_event hk
  · split
    · rfl
    · rcases nextClosingStop_cases (s := s) s.ml.closingLeft with hn | ⟨g, j, rest, hn⟩
      · rw [hn, endClosing]
        split
        · rw [openLine_eq, arbitrate_event hk, lineOpened_lu]
        · rfl
      · rw [hn]
        rfl
  · rfl

theorem nextTraffic_on (h : s.ml.line = .on) : nextTraffic s = arbitrate s := by
  rw [nextTraffic, h]

/-! ### The host's side (R127) -/

/-- A pass-through's outcome touches its record, and latches its event. -/
theorem passOutcome_frame_with (x : Exchange) (a : Option ModuleAnswer) :
    passOutcome x a s = { s with ml := { s.ml with pass := (passOutcome x a s).ml.pass }, lu := (passOutcome x a s).lu } := by
  unfold passOutcome
  repeat' split
  all_goals rfl

theorem passOutcome_slot (x : Exchange) (a : Option ModuleAnswer) (i : Fin 8) : (passOutcome x a s).slot i = s.slot i := by
  refine slot_congr ?_ i
  rw [passOutcome_frame_with]

theorem passOutcome_event (x : Exchange) (a : Option ModuleAnswer) {k : EventKind} (hk : k ≠ .passDone) :
    (passOutcome x a s).lu.event k = s.lu.event k := by
  unfold passOutcome
  repeat' split
  · rfl
  · exact LU.event_occur_other (Ne.symm hk) _ _ _
  · exact LU.event_occur_other (Ne.symm hk) _ _ _

theorem passOutcome_none {x : Exchange} (hcls : x.cls = .passThrough) (hkept : x.discard = false) :
    passOutcome x none s = passDone x.slot .noAnswer none none s := by
  unfold passOutcome
  rw [if_neg (by rw [hcls, hkept]; decide)]

theorem passOutcome_item {x : Exchange} (hcls : x.cls = .passThrough) (hkept : x.discard = false) (st : ModuleStatus) (v : Word16) :
    passOutcome x (some (.item st v)) s = passDone x.slot .answered (some st) (some v) s := by
  rw [passOutcome, if_neg (by rw [hcls, hkept]; decide)]

theorem passDone_frame_with (i : Fin 8) (o : PassOutcome) (st : Option ModuleStatus) (v : Option Word16) :
    (passDone i o st v s).ml.pass = { s.ml.pass with state := .done, outcome := some o, status := st, returned := v } ∧
      (passDone i o st v s).lu.event .passDone = { s.lu.event .passDone with latched := true, subject := i + 1, value := o.code } := by
  refine ⟨rfl, ?_⟩
  rw [passDone, latch_event]
  cases o <;> rfl

/-! ### Items handed to the points (R97) -/

theorem takeInRange_event (p : Fin 32) (t : Int) {k : EventKind} (hk : k ≠ .sensorRestored) :
    (takeInRange p t s).lu.event k = s.lu.event k := by
  unfold takeInRange
  dsimp only
  repeat' split
  · rfl
  · rfl
  · rfl
  · rfl
  · rfl
  · exact LU.event_occur_other (Ne.symm hk) _ _ _

theorem takeItem_pointFrame (i : Fin 8) (j : Fin 4) (v : Int) (p : Fin 32) : PointFrame s (takeItem i j v p s) := by
  unfold takeItem
  split
  · exact takeInRange_pointFrame p _
  · exact .refl s

/-- A point after an item of its own. -/
def State.tookItem (s : State) (p : Fin 32) (v : Int) : Point :=
  (s.point p).took (s.wm.pointShift p) (moduleReading (s.wm.pointKind p) v)

theorem takeItem_point (i : Fin 8) (j : Fin 4) (v : Int) (p k : Fin 32) : (takeItem i j v p s).point k = if k = p then
    (if s.wm.pointEnabled p ∧ s.wm.pointSource p = .slot i j then s.tookItem p v else s.point p) else s.point k := by
  unfold takeItem
  split
  · exact takeInRange_point p k _
  · by_cases hk : k = p
    · rw [if_pos hk, hk]
    · rw [if_neg hk]

theorem handItem_pointFrame (i : Fin 8) (j : Fin 4) (v : Int) : PointFrame s (handItem i j v s) :=
  forPoints_pointFrame fun p _ => takeItem_pointFrame i j v p

theorem handItem_event (i : Fin 8) (j : Fin 4) (v : Int) {k : EventKind} (hk : k ≠ .sensorRestored) :
    (handItem i j v s).lu.event k = s.lu.event k := by
  refine forPoints_keeps (fun u => u.lu.event k) (fun p u => ?_) s
  unfold takeItem
  split
  · exact takeInRange_event p _ hk
  · rfl

theorem handItem_point (i : Fin 8) (j : Fin 4) (v : Int) (p : Fin 32) : (handItem i j v s).point p =
    if s.wm.pointEnabled p ∧ s.wm.pointSource p = .slot i j then s.tookItem p v else s.point p := by
  refine forPoints_point (takeItem i j v) (fun p x => if s.wm.pointEnabled p ∧ s.wm.pointSource p = .slot i j then
    x.took (s.wm.pointShift p) (moduleReading (s.wm.pointKind p) v) else x) (PointFrame s) (fun p u hu => ?_) (fun p u k hu => ?_) (.refl s) p
  · exact hu.trans (takeItem_pointFrame i j v p)
  · rw [takeItem_point, State.tookItem, hu.wm]

/-- Four items handed to the points of a slot. -/
def handItems (i : Fin 8) (v : Fin 4 → Int) (s : State) : State :=
  handItem i 3 (v 3) (handItem i 2 (v 2) (handItem i 1 (v 1) (handItem i 0 (v 0) s)))

theorem handItems_pointFrame (i : Fin 8) (v : Fin 4 → Int) : PointFrame s (handItems i v s) :=
  ((handItem_pointFrame i 0 _).trans (handItem_pointFrame i 1 _)).trans ((handItem_pointFrame i 2 _).trans (handItem_pointFrame i 3 _))

theorem handItems_event (i : Fin 8) (v : Fin 4 → Int) {k : EventKind} (hk : k ≠ .sensorRestored) :
    (handItems i v s).lu.event k = s.lu.event k := by
  rw [handItems, handItem_event i 3 _ hk, handItem_event i 2 _ hk, handItem_event i 1 _ hk, handItem_event i 0 _ hk]

/-- The points after items of a slot: each enabled point on the slot takes its item, if there is one (R97). -/
def State.itemTaken (s : State) (i : Fin 8) (items : Fin 4 → Option Int) (p : Fin 32) : Point :=
  match s.wm.pointSource p with
  | .tap _ => s.point p
  | .slot k j => if k = i ∧ s.wm.pointEnabled p = true then ((items j).map (s.tookItem p)).getD (s.point p) else s.point p

theorem itemTaken_none (i : Fin 8) (p : Fin 32) : s.itemTaken i (fun _ => none) p = s.point p := by
  unfold State.itemTaken
  cases s.wm.pointSource p with
  | tap t => rfl
  | slot k j => exact ite_self _

theorem handItem_itemTaken (i : Fin 8) (j : Fin 4) (v : Int) (p : Fin 32) :
    (handItem i j v s).point p = s.itemTaken i (fun k => if k = j then some v else none) p := by
  rw [handItem_point, State.itemTaken]
  cases hsource : s.wm.pointSource p with
  | tap t => exact if_neg fun h => by simp at h
  | slot k l =>
    dsimp only
    by_cases hk : k = i ∧ s.wm.pointEnabled p = true
    · rw [if_pos hk]
      by_cases hl : l = j
      · rw [if_pos hl, if_pos ⟨hk.2, by rw [hk.1, hl]⟩]
        rfl
      · rw [if_neg hl, if_neg fun h => hl (PointSource.slot.inj h.2).2]
        rfl
    · rw [if_neg hk, if_neg fun h => hk ⟨(PointSource.slot.inj h.2).1, h.1⟩]

theorem handItems_point (i : Fin 8) (v : Fin 4 → Int) (p : Fin 32) :
    (handItems i v s).point p = s.itemTaken i (fun j => some (v j)) p := by
  have hone (u : State) (hu : PointFrame s u) (j : Fin 4) : (handItem i j (v j) u).point p =
      if s.wm.pointEnabled p ∧ s.wm.pointSource p = .slot i j then
        (u.point p).took (s.wm.pointShift p) (moduleReading (s.wm.pointKind p) (v j)) else u.point p := by
    rw [handItem_point, State.tookItem, hu.wm]
  have hframe0 := handItem_pointFrame (s := s) i 0 (v 0)
  have hframe1 := hframe0.trans (handItem_pointFrame i 1 (v 1))
  have hframe2 := hframe1.trans (handItem_pointFrame i 2 (v 2))
  rw [handItems, hone _ hframe2, hone _ hframe1, hone _ hframe0, hone _ (.refl s), State.itemTaken]
  cases hsource : s.wm.pointSource p with
  | tap t => simp
  | slot k l =>
    dsimp only
    by_cases hk : k = i ∧ s.wm.pointEnabled p = true
    · obtain ⟨rfl, hon⟩ := hk
      have hcases : l = 0 ∨ l = 1 ∨ l = 2 ∨ l = 3 := by omega
      rcases hcases with rfl | rfl | rfl | rfl <;> simp [hon, State.tookItem]
    · rw [if_neg hk]
      have hno (j : Fin 4) : ¬ (s.wm.pointEnabled p = true ∧ PointSource.slot k l = .slot i j) :=
        fun h => hk ⟨(PointSource.slot.inj h.2).1, h.1⟩
      rw [if_neg (hno 3), if_neg (hno 2), if_neg (hno 1), if_neg (hno 0)]

/-! ### An exchange that counts (R119) -/

theorem countExchange_good (i : Fin 8) : countExchange i true s = s.setMl { s.ml with slots := (countExchange i true s).ml.slots } ∧
    ∀ k, (countExchange i true s).slot k =
      if k = i then { s.slot i with failed := if (s.slot i).state = .present then 0 else (s.slot i).failed } else s.slot k := by
  unfold countExchange
  dsimp only
  split
  · next habsent =>
    refine ⟨rfl, fun k => ?_⟩
    by_cases hk : k = i
    · rw [hk, if_pos rfl]
    · rw [if_neg hk]
  · next hpresent =>
    refine ⟨rfl, fun k => (putSlot_slot i k _).trans ?_⟩
    rw [if_pos (not_not.mp hpresent)]

theorem countExchange_absent {i : Fin 8} (b : Bool) (h : (s.slot i).state ≠ .present) : countExchange i b s = s := if_pos h

theorem countExchange_failed {i : Fin 8} (h : (s.slot i).state = .present) (hfew : (s.slot i).failed < 2) :
    countExchange i false s = s.putSlot i { s.slot i with failed := (s.slot i).failed + 1 } := by
  rw [countExchange]
  dsimp only
  rw [if_neg (not_not.mpr h), if_neg Bool.false_ne_true, if_neg (by omega)]

theorem countExchange_lost {i : Fin 8} (h : (s.slot i).state = .present) (hmany : 2 ≤ (s.slot i).failed) :
    countExchange i false s = loseSlot i (s.putSlot i { s.slot i with failed := (s.slot i).failed + 1 }) := by
  rw [countExchange]
  dsimp only
  rw [if_neg (not_not.mpr h), if_neg Bool.false_ne_true, if_pos (by omega)]

/-! ### The end of an exchange, with the line free -/

/-- The line is free of the exchange that ends (R117). -/
def State.lineFreed (s : State) : State := s.setMl { s.ml with exchange := none, response := none }

theorem endExchange_eq (x : Exchange) (a : Option ModuleAnswer) :
    endExchange x a s = nextTraffic (passOutcome x a (slotOutcome x a s.lineFreed)) := rfl

theorem endExchange_frame_with (x : Exchange) (a : Option ModuleAnswer) : endExchange x a s = { s with
    ml := (endExchange x a s).ml, su := (endExchange x a s).su, hs := (endExchange x a s).hs, lu := (endExchange x a s).lu } := by
  obtain ⟨hzr, hpa, hrs, hou, hsc, hpl, hbus, hpins, heeprom, htenth, hfree, hpending⟩ := endExchange_frame s x a
  generalize endExchange x a s = e at *
  exact State.eq_of_blocks hzr rfl hpa hrs rfl hou rfl hsc rfl hpl hbus hpins heeprom htenth hfree hpending

section
variable (x : Exchange) (a : Option ModuleAnswer)

/-- A slot's record after the end of an exchange is the one its outcome leaves. -/
theorem endExchange_sameRecord (i : Fin 8) : ((slotOutcome x a s.lineFreed).slot i).SameRecord ((endExchange x a s).slot i) := by
  rw [endExchange_eq, ← passOutcome_slot x a]
  exact nextTraffic_sameRecord i

theorem endExchange_su : (endExchange x a s).su = (slotOutcome x a s.lineFreed).su := by
  rw [endExchange_eq]
  simp

theorem endExchange_event {k : EventKind} (hk : k ≠ .passDone) :
    (endExchange x a s).lu.event k = (slotOutcome x a s.lineFreed).lu.event k := by
  rw [endExchange_eq, nextTraffic_event hk, passOutcome_event x a hk]

/-- With the line ON the arbiter grants it, and the handlers stay as the outcome left them. -/
theorem endExchange_hs (h : (slotOutcome x a s.lineFreed).ml.line = .on) :
    (endExchange x a s).hs = (slotOutcome x a s.lineFreed).hs := by
  have hline : (passOutcome x a (slotOutcome x a s.lineFreed)).ml.line = .on := by
    rw [passOutcome_frame_with]
    exact h
  rw [endExchange_eq, nextTraffic_on hline]
  simp

/-- A transaction that has ended is DONE with its outcome (R127). -/
theorem endExchange_done {o : PassOutcome} {st : Option ModuleStatus} {v : Option Word16}
    (hpass : passOutcome x a (slotOutcome x a s.lineFreed) = passDone x.slot o st v (slotOutcome x a s.lineFreed)) :
    (endExchange x a s).ml.pass = { (slotOutcome x a s.lineFreed).ml.pass with
      state := .done, outcome := some o, status := st, returned := v } ∧
    (endExchange x a s).lu.event .passDone = { (slotOutcome x a s.lineFreed).lu.event .passDone with
      latched := true, subject := x.slot + 1, value := o.code } := by
  obtain ⟨hrecord, hevent⟩ := passDone_frame_with (s := slotOutcome x a s.lineFreed) x.slot o st v
  rw [endExchange_eq, hpass]
  generalize passDone x.slot o st v (slotOutcome x a s.lineFreed) = e at hrecord hevent ⊢
  obtain ⟨hp, hl⟩ := nextTraffic_not_queued (s := e) (by rw [hrecord]; exact PassState.noConfusion)
  rw [hp, hl]
  exact ⟨hrecord, hevent⟩
end

end Sys2Proof.Machine

/-! ## What an exchange's outcome does to its slot (R119 to R124) -/

namespace Sys2Proof.Machine

variable {s u v : State}

/-- What the end of an exchange leaves, by the outcome of its slot. -/
structure ExchangeEnded (s : State) (x : Exchange) (a : Option ModuleAnswer) (t : State) : Prop where
  frame : t = { s with ml := t.ml, su := t.su, hs := t.hs, lu := t.lu }
  slot : ∀ i, ((slotOutcome x a s.lineFreed).slot i).SameRecord (t.slot i)
  su : t.su = (slotOutcome x a s.lineFreed).su
  hs : (slotOutcome x a s.lineFreed).ml.line = .on → t.hs = (slotOutcome x a s.lineFreed).hs
  event : ∀ k, k ≠ .passDone → t.lu.event k = (slotOutcome x a s.lineFreed).lu.event k
  done : ∀ o st v, passOutcome x a (slotOutcome x a s.lineFreed) = passDone x.slot o st v (slotOutcome x a s.lineFreed) →
    t.ml.pass = { (slotOutcome x a s.lineFreed).ml.pass with state := .done, outcome := some o, status := st, returned := v } ∧
    t.lu.event .passDone = { (slotOutcome x a s.lineFreed).lu.event .passDone with
      latched := true, subject := x.slot + 1, value := o.code }

theorem ExchangeEnded.point {x : Exchange} {a : Option ModuleAnswer} {t : State} (h : ExchangeEnded s x a t) (p : Fin 32) :
    t.point p = (slotOutcome x a s.lineFreed).point p := point_congr (congrArg SU.points h.su) p

theorem kick_endExchange (s : State) (x : Exchange) (a : Option ModuleAnswer) : ExchangeEnded s x a (kick (endExchange x a s)) := by
  have hkick := kick_eq (endExchange x a s)
  have hevent := kick_event (endExchange x a s)
  have hframe := endExchange_frame_with (s := s) x a
  have hslot := endExchange_sameRecord (s := s) x a
  have hsu := endExchange_su (s := s) x a
  have hhs := endExchange_hs (s := s) x a
  have hevents := fun {k} => endExchange_event (s := s) x a (k := k)
  have hdone := fun {o st v} => endExchange_done (s := s) x a (o := o) (st := st) (v := v)
  generalize endExchange x a s = e at *
  generalize kick e = t at *
  have hml : t.ml = e.ml := by
    rw [hkick]
    rfl
  refine ⟨?_, fun i => ?_, ?_, fun hline => ?_, fun k hk => ?_, fun o st v hpass => ?_⟩
  · rw [hkick, hframe]
    rfl
  · rw [slot_congr (congrArg ML.slots hml)]
    exact hslot i
  · rw [hkick]
    exact hsu
  · rw [hkick]
    exact hhs hline
  · rw [hevent, hevents hk]
  · rw [hml, hevent]
    exact hdone hpass

/-! ### The slot's side, by class and answer -/

section
variable {x : Exchange}

theorem slotOutcome_detached (h : x.detached = true) (a : Option ModuleAnswer) : slotOutcome x a s = s := if_pos h

variable (hon : x.detached = false)
include hon

theorem slotOutcome_probe (hcls : x.cls = .probe) (a : Option ModuleAnswer) :
    slotOutcome x a s = probeOutcome x.slot a (countExchange x.slot a.isSome s) := by
  rw [slotOutcome, if_neg (by rw [hon]; decide), hcls]

variable (hcls : x.cls ≠ .probe)
include hcls

theorem slotOutcome_none : slotOutcome x none s = countExchange x.slot false s := by
  unfold slotOutcome
  rw [if_neg (by rw [hon]; decide)]
  cases hc : x.cls with
  | probe => exact absurd hc hcls
  | _ => rfl

theorem slotOutcome_drive (d : DriveData) : slotOutcome x (some (.drive d)) s = driveAnswer x.slot d (countExchange x.slot true s) := by
  unfold slotOutcome
  rw [if_neg (by rw [hon]; decide)]
  cases hc : x.cls with
  | probe => exact absurd hc hcls
  | _ => rfl

theorem slotOutcome_items (w : Vector Word16 4) :
    slotOutcome x (some (.items w)) s = monitorAnswer x.slot w (countExchange x.slot true s) := by
  unfold slotOutcome
  rw [if_neg (by rw [hon]; decide)]
  cases hc : x.cls with
  | probe => exact absurd hc hcls
  | _ => rfl

theorem slotOutcome_item (st : ModuleStatus) (w : Word16) :
    slotOutcome x (some (.item st w)) s = itemAnswer x.slot x.request.item st w (countExchange x.slot true s) := by
  unfold slotOutcome
  rw [if_neg (by rw [hon]; decide)]
  cases hc : x.cls with
  | probe => exact absurd hc hcls
  | _ => rfl
end

/-! ### A drive's state is compared (R24, R123) -/

section
variable (i : Fin 8) (before : Option DriveData) (d : DriveData)

/-- A drive newly in FAULT (R123). -/
def newFault (before : Option DriveData) (d : DriveData) : Prop := d.state = .fault ∧ ∀ y, before = some y → y.state ≠ .fault

theorem reportDrive_new (h : newFault before d) :
    reportDrive i before d v = tellDrives (latch .driveFault (i + 1) d.fault.toNat v) := by
  unfold reportDrive
  cases before with
  | none => exact congrArg tellDrives (if_pos ⟨h.1, rfl⟩)
  | some y =>
    have hy : (!(y.state == DriveState.fault)) = true := by
      rw [beq_eq_false_iff_ne.mpr (h.2 y rfl)]
      rfl
    exact congrArg tellDrives (if_pos ⟨h.1, hy⟩)

theorem reportDrive_old (h : ¬ newFault before d) : reportDrive i before d v = tellDrives v := by
  unfold reportDrive
  refine congrArg tellDrives (if_neg ?_)
  rintro ⟨hfault, hwas⟩
  refine h ⟨hfault, fun y hy => ?_⟩
  rw [hy] at hwas
  simpa using hwas

theorem reportDrive_driveAvailable (h : Fin 2) : ((reportDrive i before d v).handler h).driveAvailable = v.driveReady h := by
  by_cases hnew : newFault before d
  · rw [reportDrive_new _ _ _ hnew, tellDrives_handler]
    rfl
  · rw [reportDrive_old _ _ _ hnew, tellDrives_handler]
    rfl

theorem reportDrive_event {k : EventKind} (hk : k ≠ .driveFault) : (reportDrive i before d v).lu.event k = v.lu.event k := by
  by_cases hnew : newFault before d
  · rw [reportDrive_new _ _ _ hnew, (tellDrives_frame _).2.2.2.2.2.2.2.1]
    exact LU.event_occur_other (Ne.symm hk) _ _ _
  · rw [reportDrive_old _ _ _ hnew, (tellDrives_frame _).2.2.2.2.2.2.2.1]

variable {i before d}

theorem reportDrive_fault (h : newFault before d) : (reportDrive i before d v).lu.event .driveFault =
    { v.lu.event .driveFault with latched := true, subject := i + 1, value := d.fault.toNat } := by
  have hvalue : clampInt (-32768) 32767 d.fault.toNat = d.fault.toNat := by
    unfold clampInt
    omega
  rw [reportDrive_new _ _ _ h, (tellDrives_frame _).2.2.2.2.2.2.2.1, latch_event, hvalue]

theorem reportDrive_quiet (h : ¬ newFault before d) : (reportDrive i before d v).lu = v.lu := by
  rw [reportDrive_old _ _ _ h, (tellDrives_frame _).2.2.2.2.2.2.2.1]
end

/-! ### A drive's good answer (R122, R123) -/

/-- The items a drive's answer hands on (R97). -/
def DriveData.items (d : DriveData) : Fin 4 → Int := ![d.speed.toInt, d.temperature.toInt, d.fault.toNat, d.state.code]

/-- The state in which a drive's answer is compared: its data written, its items handed on. -/
def driveWritten (i : Fin 8) (d : DriveData) (s : State) : State :=
  if (s.slot i).state = .present then handItems i d.items (s.putSlot i { s.slot i with drive := some d })
  else s.putSlot i { s.slot i with drive := some d }

theorem driveAnswer_eq (i : Fin 8) (d : DriveData) : driveAnswer i d s = reportDrive i (s.slot i).drive d (driveWritten i d s) := rfl

theorem driveWritten_ml (i : Fin 8) (d : DriveData) : (driveWritten i d s).ml = (s.putSlot i { s.slot i with drive := some d }).ml := by
  unfold driveWritten
  split
  · rw [(handItems_pointFrame i _).frame]
  · rfl

theorem driveWritten_wm (i : Fin 8) (d : DriveData) : (driveWritten i d s).wm = s.wm := by
  unfold driveWritten
  split
  · exact (handItems_pointFrame i _).wm
  · rfl

theorem driveWritten_event (i : Fin 8) (d : DriveData) {k : EventKind} (hk : k ≠ .sensorRestored) :
    (driveWritten i d s).lu.event k = s.lu.event k := by
  unfold driveWritten
  split
  · exact handItems_event i _ hk
  · rfl

theorem driveWritten_point (i : Fin 8) (d : DriveData) (p : Fin 32) : (driveWritten i d s).point p =
    s.itemTaken i (fun j => if (s.slot i).state = .present then some (d.items j) else none) p := by
  unfold driveWritten
  by_cases h : (s.slot i).state = .present
  · simp only [if_pos h]
    exact handItems_point i d.items p
  · simp only [if_neg h]
    exact (itemTaken_none i p).symm

/-- Whether a drive is available after its answer (R24). -/
theorem driveWritten_ready (i : Fin 8) (d : DriveData) {h : Fin 2} (hline : s.ml.line = .on) (hslot : s.wm.driveSlotOf h = some i) :
    (driveWritten i d s).driveReady h = true ↔ (s.slot i).state = .present ∧ d.state ≠ .fault := by
  have hw : (driveWritten i d s).slot i = { s.slot i with drive := some d } := by
    rw [State.slot, driveWritten_ml]
    exact State.putSlot_slot_same s i _
  have hon : (driveWritten i d s).ml.line = .on := by
    rw [driveWritten_ml]
    exact hline
  unfold State.driveReady
  rw [driveWritten_wm, hslot]
  dsimp only
  rw [hw, hon]
  simp

/-- The facts a drive's good answer leaves, before the next traffic. -/
theorem driveAnswered {x : Exchange} (d : DriveData) (hon : x.detached = false) (hcls : x.cls ≠ .probe)
    (hv : v = slotOutcome x (some (.drive d)) s.lineFreed) :
    v.slot x.slot = { s.slot x.slot with
      failed := if (s.slot x.slot).state = .present then 0 else (s.slot x.slot).failed, drive := some d } ∧
    (∀ p, v.point p = s.itemTaken x.slot (fun j => if (s.slot x.slot).state = .present then some (d.items j) else none) p) ∧
    v.ml.line = s.ml.line ∧
    (s.ml.line = .on → ∀ h, s.wm.driveSlotOf h = some x.slot →
      ((v.handler h).driveAvailable = true ↔ (s.slot x.slot).state = .present ∧ d.state ≠ .fault)) ∧
    (newFault (s.slot x.slot).drive d → v.lu.event .driveFault =
      { s.lu.event .driveFault with latched := true, subject := x.slot + 1, value := d.fault.toNat }) ∧
    (¬ newFault (s.slot x.slot).drive d → v.lu.event .driveFault = s.lu.event .driveFault) := by
  obtain ⟨hcount, hcounted⟩ := countExchange_good (s := s.lineFreed) x.slot
  rw [slotOutcome_drive hon hcls, driveAnswer_eq] at hv
  generalize countExchange x.slot true s.lineFreed = u at hcount hcounted hv
  have hslot : u.slot x.slot = { s.slot x.slot with
      failed := if (s.slot x.slot).state = .present then 0 else (s.slot x.slot).failed } := (hcounted _).trans (if_pos rfl)
  have hstate : (u.slot x.slot).state = (s.slot x.slot).state := by rw [hslot]
  have hdrive : (u.slot x.slot).drive = (s.slot x.slot).drive := by rw [hslot]
  have hline : u.ml.line = s.ml.line := by
    rw [hcount]
    rfl
  have hwm : u.wm = s.wm := by
    rw [hcount]
    rfl
  have hlu : u.lu = s.lu := by
    rw [hcount]
    rfl
  have hml : v.ml = (driveWritten x.slot d u).ml := by
    rw [hv]
    exact (reportDrive_frame _ _ _ _).2.2.2.2.2.1
  refine ⟨?_, fun p => ?_, ?_, fun hon h hh => ?_, fun hnew => ?_, fun hno => ?_⟩
  · rw [State.slot, hml, driveWritten_ml]
    exact (State.putSlot_slot_same u x.slot _).trans (by rw [hslot])
  · have hsu : v.su = (driveWritten x.slot d u).su := by
      rw [hv]
      exact (reportDrive_frame _ _ _ _).2.2.2.1
    rw [point_congr (congrArg SU.points hsu), driveWritten_point, hstate, hcount]
    rfl
  · rw [hml, driveWritten_ml]
    exact hline
  · rw [hv, reportDrive_driveAvailable, driveWritten_ready _ _ (hline.trans hon) (by rw [hwm]; exact hh), hstate]
  · rw [hv, reportDrive_fault (by rw [hdrive]; exact hnew), driveWritten_event _ _ (by decide), hlu]
  · rw [hv, reportDrive_quiet (by rw [hdrive]; exact hno), driveWritten_event _ _ (by decide), hlu]

/-! ### A monitor's good answer (R124) -/

/-- The items a monitor's answer hands on (R97). -/
def monitorItems (w : Vector Word16 4) : Fin 4 → Int := ![w[0].toInt, w[1].toInt, w[2].toInt, w[3].toInt]

theorem monitorAnswer_eq (i : Fin 8) (w : Vector Word16 4) : monitorAnswer i w s =
    if (s.slot i).state = .present then handItems i (monitorItems w) (s.putSlot i { s.slot i with monitor := some w })
    else s.putSlot i { s.slot i with monitor := some w } := rfl

theorem monitorAnswered {x : Exchange} (w : Vector Word16 4) (hon : x.detached = false) (hcls : x.cls ≠ .probe)
    (hv : v = slotOutcome x (some (.items w)) s.lineFreed) :
    v.slot x.slot = { s.slot x.slot with
      failed := if (s.slot x.slot).state = .present then 0 else (s.slot x.slot).failed, monitor := some w } ∧
    ∀ p, v.point p = s.itemTaken x.slot (fun j => if (s.slot x.slot).state = .present then some (monitorItems w j) else none) p := by
  obtain ⟨hcount, hcounted⟩ := countExchange_good (s := s.lineFreed) x.slot
  rw [slotOutcome_items hon hcls, monitorAnswer_eq] at hv
  generalize countExchange x.slot true s.lineFreed = u at hcount hcounted hv
  have hslot : u.slot x.slot = { s.slot x.slot with
      failed := if (s.slot x.slot).state = .present then 0 else (s.slot x.slot).failed } := (hcounted _).trans (if_pos rfl)
  have hstate : (u.slot x.slot).state = (s.slot x.slot).state := by rw [hslot]
  have hput : (u.putSlot x.slot { u.slot x.slot with monitor := some w }).slot x.slot = { s.slot x.slot with
      failed := if (s.slot x.slot).state = .present then 0 else (s.slot x.slot).failed, monitor := some w } := by
    rw [State.putSlot_slot_same, hslot]
  by_cases hpresent : (s.slot x.slot).state = .present
  · rw [if_pos (hstate.trans hpresent)] at hv
    have hframe := (handItems_pointFrame (s := u.putSlot x.slot { u.slot x.slot with monitor := some w }) x.slot (monitorItems w)).frame
    refine ⟨?_, fun p => ?_⟩
    · have hml : v.ml = (u.putSlot x.slot { u.slot x.slot with monitor := some w }).ml := by rw [hv, hframe]
      rw [slot_congr (congrArg ML.slots hml), hput]
    · rw [hv, handItems_point]
      simp only [if_pos hpresent]
      rw [hcount]
      rfl
  · rw [if_neg (by rw [hstate]; exact hpresent)] at hv
    refine ⟨by rw [hv, hput], fun p => ?_⟩
    simp only [if_neg hpresent, itemTaken_none]
    rw [hv, hcount]
    rfl

/-! ### A probe's good answer (R120) -/

/-- Whether a slot's kind is a compressor drive. -/
def SlotKind.isDrive : SlotKind → Bool
  | .compressorDrive _ => true
  | _ => false

theorem typeMatches_iff (kind : SlotKind) (ty : ModuleType) : typeMatches kind ty = true ↔
    kind = .generic ∨ (kind = .airMonitor ∧ ty = .monitor) ∨ ((∃ h, kind = .compressorDrive h) ∧ ty = .drive) := by
  cases kind <;> cases ty <;> simp [typeMatches]

/-- The drive data a probe gives (R120). -/
def Slot.probedDrive (x : Slot) (st : DriveState) (f : Byte) : DriveData := { x.drive.getD ⟨st, f, 0, 0⟩ with state := st, fault := f }

/-- The slot a probe has found (R120). -/
def State.foundSlot (s : State) (i : Fin 8) (ty : ModuleType) (st : DriveState) (f : Byte) : Slot :=
  { s.slot i with
    state := .present, failed := 0, lastProbe := .found, moduleType := some ty, probeTimer := none, probeDue := false
    drive := if (s.wm.slotKind i).isDrive then some ((s.slot i).probedDrive st f) else (s.slot i).drive
    readTimer := if s.wm.slotKind i = .airMonitor ∧ s.ml.line = .on then some (sec 2) else (s.slot i).readTimer }

theorem findSlot_eq (i : Fin 8) (ty : ModuleType) (st : DriveState) (f : Byte) : findSlot i ty st f s =
    if (s.wm.slotKind i).isDrive then
      reportDrive i (s.slot i).drive ((s.slot i).probedDrive st f) (latch .moduleFound (i + 1) ty.code (s.putSlot i (s.foundSlot i ty st f)))
    else latch .moduleFound (i + 1) ty.code (s.putSlot i (s.foundSlot i ty st f)) := by
  unfold findSlot State.foundSlot Slot.probedDrive
  dsimp only
  cases s.wm.slotKind i <;> cases (s.slot i).drive <;> rfl

theorem findSlot_facts (i : Fin 8) (ty : ModuleType) (st : DriveState) (f : Byte) :
    (findSlot i ty st f s).ml = (s.putSlot i (s.foundSlot i ty st f)).ml ∧ (findSlot i ty st f s).su = s.su ∧
    (findSlot i ty st f s).lu.event .moduleFound = { s.lu.event .moduleFound with latched := true, subject := i + 1, value := ty.code } := by
  have hfound : (latch .moduleFound (i + 1) ty.code (s.putSlot i (s.foundSlot i ty st f))).lu.event .moduleFound =
      { s.lu.event .moduleFound with latched := true, subject := i + 1, value := ty.code } := by
    rw [latch_event]
    cases ty <;> rfl
  rw [findSlot_eq]
  split
  · have hframe := reportDrive_frame (latch .moduleFound (i + 1) ty.code (s.putSlot i (s.foundSlot i ty st f))) i (s.slot i).drive
      ((s.slot i).probedDrive st f)
    exact ⟨hframe.2.2.2.2.2.1, hframe.2.2.2.1, (reportDrive_event _ _ _ (by decide)).trans hfound⟩
  · exact ⟨rfl, rfl, hfound⟩

end Sys2Proof.Machine

/-! ## MODULE_ANSWER_RECEIVED (R117 to R124) -/

namespace Sys2Proof.Machine

variable {s v : State} {x : Exchange}

/-! ### Good answers (R118, R173, R174) -/

theorem goodAnswer_frame (i : Fin 8) (r : ModuleRequest) (data : List Byte) :
    goodAnswer i r (moduleFrame i r.function data) = if data.length ≤ 255 then answerData r data else none := by
  have hdata (c : List Byte) (hc : c.length = 2) (b0 b1 b2 : Byte) : (((b0 :: b1 :: b2 :: data) ++ c).drop 3).take
      (((b0 :: b1 :: b2 :: data) ++ c).length - 5) = data := by
    have hlength : ((b0 :: b1 :: b2 :: data) ++ c).length - 5 = data.length := by
      simp [hc]
    rw [hlength]
    simp
  have hframe : moduleFrame i r.function data = 0x5A :: ((BitVec.ofNat 8 (i + 1) :: r.function :: BitVec.ofNat 8 data.length :: data) ++
      wordBytes (crc16 (BitVec.ofNat 8 (i + 1) :: r.function :: BitVec.ofNat 8 data.length :: data))) := rfl
  unfold goodAnswer
  rw [hframe]
  dsimp only
  rw [hdata _ (wordBytes_length _)]
  by_cases hlength : data.length ≤ 255
  · rw [if_pos ⟨rfl, rfl, hlength⟩, if_pos hlength]
  · rw [if_neg fun h => hlength h.2.2, if_neg hlength]

theorem goodAnswer_other {i : Fin 8} {r : ModuleRequest} {f : List Byte} (h : ∀ data, f ≠ moduleFrame i r.function data) :
    goodAnswer i r f = none := by
  cases f with
  | nil => rfl
  | cons b body => exact if_neg fun hgood => h _ hgood.2.1

theorem answerData_length {r : ModuleRequest} {data : List Byte} (h : data.length ≠ (match r with
    | .driveCommand .. => 6
    | .readItems => 8
    | .probe | .itemRead _ | .itemWrite .. => 3)) : answerData r data = none := by
  unfold answerData
  split
  · exact absurd rfl h
  · exact absurd rfl h
  · exact absurd rfl h
  · exact absurd rfl h
  · exact absurd rfl h
  · rfl

theorem moduleTypeOf_none {b : Byte} (h : 3 ≤ b.toNat) : moduleTypeOf b = none := by
  have h0 : b ≠ 0 := by bv_omega
  have h1 : b ≠ 1 := by bv_omega
  have h2 : b ≠ 2 := by bv_omega
  rw [moduleTypeOf, if_neg h0, if_neg h1, if_neg h2]

theorem driveStateOf_none {b : Byte} (h : 3 ≤ b.toNat) : driveStateOf b = none := by
  have h0 : b ≠ 0 := by bv_omega
  have h1 : b ≠ 1 := by bv_omega
  have h2 : b ≠ 2 := by bv_omega
  rw [driveStateOf, if_neg h0, if_neg h1, if_neg h2]

theorem moduleStatusOf_none {b : Byte} (h : 2 ≤ b.toNat) : moduleStatusOf b = none := by
  have h0 : b ≠ 0 := by bv_omega
  have h1 : b ≠ 1 := by bv_omega
  rw [moduleStatusOf, if_neg h0, if_neg h1]

theorem moduleTypeOf_code (ty : ModuleType) : moduleTypeOf (BitVec.ofNat 8 ty.code) = some ty := by
  cases ty <;> rfl

theorem driveStateOf_code (st : DriveState) : driveStateOf (BitVec.ofNat 8 st.code) = some st := by
  cases st <;> rfl

theorem moduleStatusOf_code (st : ModuleStatus) : moduleStatusOf (BitVec.ofNat 8 st.code) = some st := by
  cases st <;> rfl

theorem answerData_probe_none {b c d : Byte} (h : 3 ≤ b.toNat ∨ 3 ≤ c.toNat) : answerData .probe [b, c, d] = none := by
  rw [answerData]
  rcases h with h | h
  · rw [moduleTypeOf_none h]
    rfl
  · rw [driveStateOf_none h]
    cases moduleTypeOf b <;> rfl

theorem answerData_drive_none {run : Bool} {dir : Direction} {cmd : Nat} {b : Byte} (bs : List Byte) (h : 3 ≤ b.toNat) :
    answerData (.driveCommand run dir cmd) (b :: bs) = none := by
  by_cases hlength : (b :: bs).length = 6
  · match bs, hlength with
    | [_, _, _, _, _], _ =>
      rw [answerData, driveStateOf_none h]
      rfl
  · exact answerData_length hlength

theorem answerData_item_none {r : ModuleRequest} {item : Byte} (hr : r = .itemRead item ∨ ∃ v, r = .itemWrite item v) {b : Byte}
    (bs : List Byte) (h : 2 ≤ b.toNat) : answerData r (b :: bs) = none := by
  by_cases hlength : (b :: bs).length = 3
  · match bs, hlength with
    | [_, _], _ =>
      rcases hr with rfl | ⟨v, rfl⟩
      · rw [answerData, moduleStatusOf_none h]
        rfl
      · rw [answerData, moduleStatusOf_none h]
        rfl
  · refine answerData_length ?_
    rcases hr with rfl | ⟨v, rfl⟩ <;> exact hlength

theorem answerData_item {r : ModuleRequest} {item : Byte} (hr : r = .itemRead item ∨ ∃ v, r = .itemWrite item v) (st : ModuleStatus)
    (hi lo : Byte) : answerData r (num8 st.code ++ [hi, lo]) = some (.item st (bytesWord hi lo)) := by
  rcases hr with rfl | ⟨v, rfl⟩
  · show (do return ModuleAnswer.item (← moduleStatusOf (BitVec.ofNat 8 st.code)) (bytesWord hi lo)) = _
    rw [moduleStatusOf_code]
    rfl
  · show (do return ModuleAnswer.item (← moduleStatusOf (BitVec.ofNat 8 st.code)) (bytesWord hi lo)) = _
    rw [moduleStatusOf_code]
    rfl

/-! ### The command -/

section
variable (hx : s.ml.exchange = some x) (hphase : x.phase = .awaiting)
include hx hphase

theorem exec_moduleAnswer_none {f : List Byte} (h : goodAnswer x.slot x.request f = none) :
    exec (.moduleAnswerReceived f) s = .next s := by
  show execModuleAnswerReceived f s = _
  rw [execModuleAnswerReceived, hx]
  dsimp only
  rw [if_pos hphase, h]

theorem exec_moduleAnswer_data_none {data : List Byte} (h : answerData x.request data = none) :
    exec (.moduleAnswerReceived (moduleFrame x.slot x.request.function data)) s = .next s := by
  refine exec_moduleAnswer_none hx hphase ?_
  rw [goodAnswer_frame, h]
  exact ite_self _

theorem exec_moduleAnswer_good {data : List Byte} {a : ModuleAnswer} (hdata : answerData x.request data = some a)
    (hlength : data.length ≤ 255) : ∃ t,
      exec (.moduleAnswerReceived (moduleFrame x.slot x.request.function data)) s = .next t ∧ ExchangeEnded s x (some a) t := by
  refine ⟨_, ?_, kick_endExchange s x (some a)⟩
  show execModuleAnswerReceived _ s = _
  rw [execModuleAnswerReceived, hx]
  dsimp only
  rw [if_pos hphase, goodAnswer_frame, if_pos hlength, hdata]
end

/-! ### The outcomes of a probe and of an item (R118, R120) -/

theorem probeAnswered {ty : ModuleType} {st : DriveState} {f : Byte} (hon : x.detached = false) (hcls : x.cls = .probe)
    (hv : v = slotOutcome x (some (.probe ty st f)) s.lineFreed) :
    v.su = s.su ∧ (v.slot x.slot).moduleType = some ty ∧
    (typeMatches (s.wm.slotKind x.slot) ty = true → (v.slot x.slot).state = .present ∧ (v.slot x.slot).failed = 0 ∧
      (v.slot x.slot).lastProbe = .found ∧
      v.lu.event .moduleFound = { s.lu.event .moduleFound with latched := true, subject := x.slot + 1, value := ty.code } ∧
      ((s.wm.slotKind x.slot).isDrive = true → (v.slot x.slot).drive = some ((s.slot x.slot).probedDrive st f))) ∧
    (typeMatches (s.wm.slotKind x.slot) ty = false → (v.slot x.slot).state = (s.slot x.slot).state ∧
      (v.slot x.slot).lastProbe = .wrongType) := by
  obtain ⟨hcount, hcounted⟩ := countExchange_good (s := s.lineFreed) x.slot
  rw [slotOutcome_probe hon hcls] at hv
  simp only [Option.isSome_some] at hv
  generalize countExchange x.slot true s.lineFreed = u at hcount hcounted hv
  have hslot : u.slot x.slot = { s.slot x.slot with
      failed := if (s.slot x.slot).state = .present then 0 else (s.slot x.slot).failed } := (hcounted _).trans (if_pos rfl)
  have hwm : u.wm = s.wm := by
    rw [hcount]
    rfl
  have hsu : u.su = s.su := by
    rw [hcount]
    rfl
  have hlu : u.lu = s.lu := by
    rw [hcount]
    rfl
  unfold probeOutcome at hv
  dsimp only at hv
  rw [hwm] at hv
  cases hty : typeMatches (s.wm.slotKind x.slot) ty with
  | true =>
    rw [hty, if_pos rfl] at hv
    obtain ⟨hml, hkept, hfound⟩ := findSlot_facts (s := u) x.slot ty st f
    rw [← hv] at hml hkept hfound
    have hvslot : v.slot x.slot = u.foundSlot x.slot ty st f :=
      (slot_congr (congrArg ML.slots hml) x.slot).trans (State.putSlot_slot_same u x.slot _)
    rw [hvslot]
    refine ⟨hkept.trans hsu, rfl, fun _ => ⟨rfl, rfl, rfl, by rw [hfound, hlu], fun hdrive => ?_⟩, fun h => Bool.noConfusion h⟩
    unfold State.foundSlot Slot.probedDrive
    dsimp only
    rw [hwm, if_pos hdrive, hslot]
  | false =>
    rw [hty, if_neg Bool.false_ne_true] at hv
    have hvslot : v.slot x.slot = { u.slot x.slot with lastProbe := .wrongType, moduleType := some ty } := by
      rw [hv, State.putSlot_slot_same]
    rw [hvslot, hslot]
    refine ⟨?_, rfl, fun h => Bool.noConfusion h, fun _ => ⟨rfl, rfl⟩⟩
    rw [hv]
    exact hsu

/-- An item that reaches the points: ACCEPTED, from a PRESENT GENERIC slot (R118). -/
theorem itemAnswered {st : ModuleStatus} {w : Word16} (hcls : x.cls ≠ .probe) (hv : v = slotOutcome x (some (.item st w)) s.lineFreed) :
    v.ml.pass = s.ml.pass ∧ (v.lu.event .passDone = s.lu.event .passDone) ∧
    ∀ p, v.point p = s.itemTaken x.slot (fun j => if x.detached = false ∧ st = .accepted ∧ s.wm.slotKind x.slot = .generic ∧
      (s.slot x.slot).state = .present ∧ x.request.item.toNat = j.val then some w.toInt else none) p := by
  by_cases hon : x.detached = false
  · obtain ⟨hcount, hcounted⟩ := countExchange_good (s := s.lineFreed) x.slot
    rw [slotOutcome_item hon hcls] at hv
    generalize countExchange x.slot true s.lineFreed = u at hcount hcounted hv
    have hslot : u.slot x.slot = { s.slot x.slot with
        failed := if (s.slot x.slot).state = .present then 0 else (s.slot x.slot).failed } := (hcounted _).trans (if_pos rfl)
    have hstate : (u.slot x.slot).state = (s.slot x.slot).state := by rw [hslot]
    have hwm : u.wm = s.wm := by
      rw [hcount]
      rfl
    have hlu : u.lu = s.lu := by
      rw [hcount]
      rfl
    have hpass : u.ml.pass = s.ml.pass := by
      rw [hcount]
      rfl
    have htaken (items : Fin 4 → Option Int) (p : Fin 32) : u.itemTaken x.slot items p = s.itemTaken x.slot items p := by
      rw [hcount]
      rfl
    unfold itemAnswer at hv
    rw [hwm, hstate] at hv
    by_cases hreaches : st = .accepted ∧ s.wm.slotKind x.slot = .generic ∧ (s.slot x.slot).state = .present ∧ x.request.item.toNat < 4
    · rw [if_pos hreaches] at hv
      obtain ⟨hst, hkind, hpresent, hitem⟩ := hreaches
      have hml : v.ml = u.ml := by
        rw [hv]
        simp
      refine ⟨by rw [hml, hpass], by rw [hv, handItem_event _ _ _ (by decide), hlu], fun p => ?_⟩
      rw [hv, handItem_itemTaken, htaken]
      congr 1
      funext j
      have hj : j = Fin.ofNat 4 x.request.item.toNat ↔ x.request.item.toNat = j.val := by
        rw [Fin.ext_iff, Fin.val_ofNat]
        omega
      exact if_congr ⟨fun h => ⟨hon, hst, hkind, hpresent, hj.mp h⟩, fun h => hj.mpr h.2.2.2.2⟩ rfl rfl
    · rw [if_neg hreaches] at hv
      have hnone : (fun j : Fin 4 => if x.detached = false ∧ st = .accepted ∧ s.wm.slotKind x.slot = .generic ∧
          (s.slot x.slot).state = .present ∧ x.request.item.toNat = j.val then some w.toInt else none) = fun _ => none := by
        funext j
        refine if_neg fun h => hreaches ⟨h.2.1, h.2.2.1, h.2.2.2.1, ?_⟩
        have hitem := h.2.2.2.2
        omega
      rw [hnone, hv]
      refine ⟨hpass, by rw [hlu], fun p => ?_⟩
      rw [itemTaken_none, hcount]
      rfl
  · rw [slotOutcome_detached (by simpa using hon)] at hv
    have hnone : (fun j : Fin 4 => if x.detached = false ∧ st = .accepted ∧ s.wm.slotKind x.slot = .generic ∧
        (s.slot x.slot).state = .present ∧ x.request.item.toNat = j.val then some w.toInt else none) = fun _ => none := by
      funext j
      exact if_neg fun h => hon h.1
    rw [hnone, hv]
    refine ⟨rfl, rfl, fun p => ?_⟩
    rw [itemTaken_none]
    rfl

/-- Settles O43. -/
theorem goodModuleAnswersTakeEffect : Obligations.GoodModuleAnswersTakeEffect := by
  intro s x hx hphase reply answer frame slot kind taken points fromPresent
  have htaken (p : Fin 32) : s.tookItem p = taken p := by
    funext w
    show (s.point p).took (s.wm.pointShift p) (moduleReading (s.wm.pointKind p) w) = _
    unfold Point.took moduleReading
    cases hk : s.wm.pointKind p <;> cases hst : (s.point p).state <;> simp only [taken, hk, hst] <;> rfl
  have hpoints {items : Fin 4 → Option Int} {t : State} (h : ∀ p, t.point p = s.itemTaken x.slot items p) : points items t := by
    intro p
    refine (h p).trans ?_
    unfold State.itemTaken
    cases s.wm.pointSource p with
    | tap i => rfl
    | slot i j =>
      dsimp only
      rw [htaken]
  have hitems (d : Fin 4 → Int) : (fun j => if slot.state = .present then some (d j) else none) = fromPresent [d 0, d 1, d 2, d 3] := by
    funext j
    have hj : ([d 0, d 1, d 2, d 3][j.val]? : Option Int) = some (d j) := by
      have hcases : j = 0 ∨ j = 1 ∨ j = 2 ∨ j = 3 := by omega
      rcases hcases with rfl | rfl | rfl | rfl <;> rfl
    show _ = if slot.state = .present then [d 0, d 1, d 2, d 3][j.val]? else none
    rw [hj]
  refine ⟨fun f hf => exec_moduleAnswer_none hx hphase (goodAnswer_other hf), fun data hdata => ?_, fun b c d hr hcodes => ?_,
    fun b bs hcodes => ?_, fun hon hcls run dir cmd hr st f a b c d => ?_, fun hon hcls hr a b c d e f g h => ?_,
    fun hon hcls hr ty st f => ?_, fun hcls hkept item hr st hi lo => ?_⟩
  · refine exec_moduleAnswer_data_none hx hphase (answerData_length ?_)
    cases hr : x.request <;> rw [hr] at hdata <;> exact hdata
  · exact exec_moduleAnswer_data_none hx hphase (by rw [hr]; exact answerData_probe_none hcodes)
  · rcases hcodes with ⟨⟨run, dir, cmd, hr⟩, hcode⟩ | ⟨⟨item, hr⟩, hcode⟩
    · exact exec_moduleAnswer_data_none hx hphase (by rw [hr]; exact answerData_drive_none bs hcode)
    · exact exec_moduleAnswer_data_none hx hphase (answerData_item_none hr bs hcode)
  · obtain ⟨z, hz⟩ : ∃ z : DriveData, z = ⟨st, f, bytesWord a b, bytesWord c d⟩ := ⟨_, rfl⟩
    have hdata : answerData x.request (num8 st.code ++ [f, a, b, c, d]) = some (.drive z) := by
      rw [hr, hz]
      show (do return ModuleAnswer.drive ⟨← driveStateOf (BitVec.ofNat 8 st.code), f, bytesWord a b, bytesWord c d⟩) = _
      rw [driveStateOf_code]
      rfl
    obtain ⟨t, hexec, ht⟩ := exec_moduleAnswer_good hx hphase hdata (by simp [num8])
    obtain ⟨hslot, hpoint, hline, hready, hfault, hquiet⟩ := driveAnswered (s := s) z hon hcls rfl
    obtain ⟨hstate, hfailed, hdrive, -⟩ := (ht.slot x.slot).fields
    have hhs := ht.hs
    have hevent := ht.event .driveFault (by decide)
    rw [hline] at hhs
    rw [hslot] at hfailed hdrive
    have hnew : newFault slot.drive z ↔ st = .fault ∧ ∀ y, slot.drive = some y → y.state ≠ .fault := by rw [hz, newFault]
    refine ⟨t, hexec, ht.frame, ?_, fun hpresent => hfailed.trans (if_pos hpresent), hpoints fun p => ?_, fun hon h hh => ?_,
      fun hst hold => ?_, fun hno => ?_⟩
    · rw [hdrive, hz]
    · rw [ht.point, hpoint]
      have hz4 := hitems z.items
      rw [hz] at hz4 ⊢
      exact congrArg (fun items => s.itemTaken x.slot items p) hz4
    · have hr := hready hon h hh
      rw [handler_congr (hhs hon), hr, hz]
    · have hf := hfault (hnew.mpr ⟨hst, hold⟩)
      rw [hevent, hf, hz]
    · refine hevent.trans (hquiet fun h => ?_)
      obtain ⟨hst, hold⟩ := hnew.mp h
      rcases hno with hno | ⟨y, hy, hfy⟩
      · exact hno hst
      · exact hold y hy hfy
  · have hdata : answerData x.request [a, b, c, d, e, f, g, h] =
        some (.items #v[bytesWord a b, bytesWord c d, bytesWord e f, bytesWord g h]) := by
      rw [hr]
      rfl
    obtain ⟨t, hexec, ht⟩ := exec_moduleAnswer_good hx hphase hdata (by simp [num8])
    obtain ⟨hslot, hpoint⟩ := monitorAnswered (s := s) #v[bytesWord a b, bytesWord c d, bytesWord e f, bytesWord g h] hon
      (by rw [hcls]; decide) rfl
    obtain ⟨hstate, hfailed, -, hmonitor, -⟩ := (ht.slot x.slot).fields
    rw [hslot] at hfailed hmonitor
    refine ⟨t, hexec, ht.frame, hmonitor, fun hpresent => hfailed.trans (if_pos hpresent), hpoints fun p => ?_⟩
    rw [ht.point, hpoint]
    exact congrArg (fun items => s.itemTaken x.slot items p) (hitems _)
  · intro fits
    have hdata : answerData x.request (num8 ty.code ++ num8 st.code ++ [f]) = some (.probe ty st f) := by
      rw [hr]
      show (do return ModuleAnswer.probe (← moduleTypeOf (BitVec.ofNat 8 ty.code)) (← driveStateOf (BitVec.ofNat 8 st.code)) f) = _
      rw [moduleTypeOf_code, driveStateOf_code]
      rfl
    obtain ⟨t, hexec, ht⟩ := exec_moduleAnswer_good hx hphase hdata (by simp [num8])
    obtain ⟨hsu, htype, hfits, hmisfits⟩ := probeAnswered (s := s) (ty := ty) (st := st) (f := f) hon hcls rfl
    obtain ⟨hstate, hfailed, hdrive, -, hmodule, hprobe⟩ := (ht.slot x.slot).fields
    have hevent := ht.event .moduleFound (by decide)
    have hmatch : typeMatches (s.wm.slotKind x.slot) ty = true ↔ fits := typeMatches_iff _ ty
    refine ⟨t, hexec, ht.frame, hpoints fun p => ?_, hmodule.trans htype, fun hf => ?_, fun hf => ?_⟩
    · rw [itemTaken_none, ht.point, point_congr (congrArg SU.points hsu)]
    · obtain ⟨hpresent, hzero, hfound, hlatched, hdata⟩ := hfits (hmatch.mpr hf)
      refine ⟨hstate.trans hpresent, hfailed.trans hzero, hprobe.trans hfound, hevent.trans hlatched, fun ⟨h, hkind⟩ y hy => ?_⟩
      have hisDrive : (s.wm.slotKind x.slot).isDrive = true := by
        have hkind : s.wm.slotKind x.slot = .compressorDrive h := hkind
        rw [hkind]
        rfl
      rw [hdrive, hdata hisDrive, hy]
      rfl
    · obtain ⟨hkept, hwrong⟩ := hmisfits (by simpa using fun h => hf (hmatch.mp h))
      exact ⟨hstate.trans hkept, hprobe.trans hwrong⟩
  · obtain ⟨t, hexec, ht⟩ := exec_moduleAnswer_good hx hphase (answerData_item hr st hi lo) (by simp [num8])
    obtain ⟨hpass, hevent, hpoint⟩ := itemAnswered (s := s) (st := st) (w := bytesWord hi lo) (x := x) (by rw [hcls]; decide) rfl
    obtain ⟨hdone, hlatched⟩ := ht.done _ _ _ (passOutcome_item hcls hkept st (bytesWord hi lo))
    rw [hpass] at hdone
    rw [hevent] at hlatched
    have hitem : x.request.item = item := by
      rcases hr with hr | ⟨w, hr⟩ <;> rw [hr] <;> rfl
    rw [hitem] at hpoint
    exact ⟨t, hexec, ht.frame, hdone, hlatched, hpoints fun p => (ht.point p).trans (hpoint p)⟩

end Sys2Proof.Machine

/-! ## The arbiter's grants, in their order (R122, R124, R125, R127) -/

namespace Sys2Proof.Machine

variable {s t u : State}

/-- A drive exchange is due for a handler, and its slot is PRESENT (R122). -/
def State.drives (s : State) (h : Fin 2) (i : Fin 8) : Prop :=
  s.ml.drivePending[h] = true ∧ (s.handler h).driveSlot = some i ∧ (s.slot i).state = .present

/-- The queued transaction is a write that is locked (R126). -/
def State.passLocked (s : State) (i : Fin 8) : Prop := s.ml.pass.op = some .write ∧ ∃ h, s.wm.slotKind i = .compressorDrive h ∧
  ((s.handler h).mode = .heat ∨ (s.handler h).mode = .cool ∨ (s.handler h).mode = .defrost)

/-- The queued transaction is flushed at its grant (R127). -/
def State.passFlushes (s : State) : Prop := s.ml.pass.state = .queued ∧ ∃ i, s.ml.pass.slot = some i ∧ s.passLocked i

theorem passLocked_iff (i : Fin 8) : s.passLocked i ↔ s.writeLocked i (s.ml.pass.op.getD .read) = true := by
  rw [writeLocked_iff, State.passLocked]
  refine and_congr_left fun _ => ?_
  cases s.ml.pass.op with
  | none => exact ⟨fun h => by simp at h, fun h => by simp at h⟩
  | some op => exact ⟨fun h => Option.some.inj h, fun h => congrArg some h⟩

/-- A handler's drive exchange is no longer due. -/
def State.notDue (s : State) (h : Fin 2) : State := s.setMl { s.ml with drivePending := s.ml.drivePending.set h false }

theorem notDue_pending (h k : Fin 2) : (s.notDue h).ml.drivePending[k] = if k = h then false else s.ml.drivePending[k] :=
  getElem_set_fin _ h k false

section
variable (hx : s.ml.exchange = none)
include hx

theorem grantDrive_goes {h : Fin 2} {i : Fin 8} (hd : s.drives h i) :
    grantDrive h s = beginExchange (.drive h) i (s.handler h).driveCommand (s.notDue h) := by
  obtain ⟨hdue, hslot, hpresent⟩ := hd
  rw [grantDrive, if_neg (by rw [hx, hdue]; decide)]
  dsimp only
  rw [hslot]
  exact if_pos hpresent

theorem grantDrive_stays {h : Fin 2} (hno : ∀ i, ¬ s.drives h i) : grantDrive h s = s.notDue h := by
  by_cases hdue : s.ml.drivePending[h] = true
  · rw [grantDrive, if_neg (by rw [hx, hdue]; decide)]
    dsimp only
    cases hslot : (s.handler h).driveSlot with
    | none => rfl
    | some i => exact if_neg fun hpresent => hno i ⟨hdue, hslot, hpresent⟩
  · have hoff : s.ml.drivePending[h] = false := by simpa using hdue
    have hself : s.ml.drivePending.set h false = s.ml.drivePending := by
      refine Vector.ext fun k hk => ?_
      have hget := getElem_set_fin s.ml.drivePending h ⟨k, hk⟩ false
      simp only [Fin.getElem_fin] at hget hoff
      rw [hget]
      split
      · next hkh => rw [← hoff, ← hkh]
      · rfl
    rw [grantDrive_idle (.inr hoff), State.notDue, hself]
    rfl

theorem grantPass_flushed {i : Fin 8} (hstate : s.ml.pass.state = .queued) (hslot : s.ml.pass.slot = some i) (hlock : s.passLocked i) :
    grantPass s = passDone i .flushed none none s := by
  rw [grantPass, if_neg (by rw [hx, hstate]; simp), hslot]
  exact if_pos ((passLocked_iff i).mp hlock)

theorem grantRead_goes {i : Fin 8} (hi : (s.slot i).readDue = true) (hlow : ∀ k, k < i → (s.slot k).readDue = false) :
    grantRead s = beginExchange .monitorRead i .readItems (s.putSlot i { s.slot i with readDue := false }) := by
  rw [grantRead, if_neg (by rw [hx]; decide), find?_finRange_eq_some hi hlow]

theorem grantRead_stays (hno : ∀ k, (s.slot k).readDue = false) : grantRead s = s := by
  rw [grantRead, if_neg (by rw [hx]; decide), find?_finRange_eq_none hno]

theorem grantProbe_goes {i : Fin 8} (hi : (s.slot i).probeDue = true) (hlow : ∀ k, k < i → (s.slot k).probeDue = false) :
    grantProbe s = beginExchange .probe i .probe (s.putSlot i { s.slot i with probeDue := false }) := by
  rw [grantProbe, if_neg (by rw [hx]; decide), find?_finRange_eq_some hi hlow]
end

/-! ### The grant as a whole -/

section
variable (hline : s.ml.line = .on) (hx : s.ml.exchange = none)
include hline hx

theorem arbitrate_drives {i : Fin 8} (hd : s.drives 0 i) :
    arbitrate s = beginExchange (.drive 0) i (s.handler 0).driveCommand (s.notDue 0) := by
  have hbusy := beginExchange_isSome (s := s.notDue 0) (.drive 0) i (s.handler 0).driveCommand
  rw [arbitrate_on hline, grantDrive_goes hx hd]
  generalize beginExchange (.drive 0) i (s.handler 0).driveCommand (s.notDue 0) = e at hbusy ⊢
  rw [grantDrive_idle (.inl hbusy), grantPass, if_pos (.inl hbusy), grantRead_busy hbusy, grantProbe_busy hbusy]

variable (hfirst : ∀ i, ¬ s.drives 0 i)
include hfirst

theorem arbitrate_second : arbitrate s = grantProbe (grantRead (grantPass (grantDrive 1 (s.notDue 0)))) := by
  rw [arbitrate_on hline, grantDrive_stays hx hfirst]

theorem drives_notDue (i : Fin 8) : (s.notDue 0).drives 1 i ↔ s.drives 1 i := by
  unfold State.drives
  rw [notDue_pending]
  exact Iff.rfl

theorem arbitrate_drives_second {i : Fin 8} (hd : s.drives 1 i) :
    arbitrate s = beginExchange (.drive 1) i (s.handler 1).driveCommand ((s.notDue 0).notDue 1) := by
  have hgrant := grantDrive_goes (s := s.notDue 0) hx ((drives_notDue hline hx hfirst i).mpr hd)
  have hbusy := beginExchange_isSome (s := (s.notDue 0).notDue 1) (.drive 1) i (s.handler 1).driveCommand
  have hcommand : ((s.notDue 0).handler 1).driveCommand = (s.handler 1).driveCommand := rfl
  rw [arbitrate_second hline hx hfirst, hgrant, hcommand]
  generalize beginExchange (.drive 1) i (s.handler 1).driveCommand ((s.notDue 0).notDue 1) = e at hbusy ⊢
  rw [grantPass, if_pos (.inl hbusy), grantRead_busy hbusy, grantProbe_busy hbusy]

variable (hsecond : ∀ i, ¬ s.drives 1 i)
include hsecond

/-- No drive exchange is granted: the pass-through comes next. -/
theorem arbitrate_third : arbitrate s = grantProbe (grantRead (grantPass ((s.notDue 0).notDue 1))) := by
  rw [arbitrate_second hline hx hfirst, grantDrive_stays (s := s.notDue 0) hx
    fun i hd => hsecond i ((drives_notDue hline hx hfirst i).mp hd)]

theorem arbitrate_transaction {i : Fin 8} (hstate : s.ml.pass.state = .queued) (hslot : s.ml.pass.slot = some i)
    (hlock : ¬ s.passLocked i) : arbitrate s = beginExchange .passThrough i s.ml.pass.request
      (((s.notDue 0).notDue 1).setMl { ((s.notDue 0).notDue 1).ml with pass := { s.ml.pass with state := .inFlight } }) := by
  have hfree : s.writeLocked i (s.ml.pass.op.getD .read) = false := by simpa using fun h => hlock ((passLocked_iff i).mpr h)
  have hgrant := grantPass_granted (s := (s.notDue 0).notDue 1) hx hstate hslot hfree
  have hbusy := beginExchange_isSome (s := ((s.notDue 0).notDue 1).setMl { ((s.notDue 0).notDue 1).ml with
    pass := { s.ml.pass with state := .inFlight } }) .passThrough i s.ml.pass.request
  have hpass : ((s.notDue 0).notDue 1).ml.pass = s.ml.pass := rfl
  rw [hpass] at hgrant
  rw [arbitrate_third hline hx hfirst hsecond, hgrant]
  generalize beginExchange _ _ _ _ = e at hbusy ⊢
  rw [grantRead_busy hbusy, grantProbe_busy hbusy]

/-- No exchange of the host's is granted: a monitor read or a probe comes next, with the slots as they were. -/
theorem arbitrate_slots (hpass : s.ml.pass.state ≠ .queued ∨ s.passFlushes) : ∃ u, arbitrate s = grantProbe (grantRead u) ∧
    u.ml.exchange = none ∧ (∀ i, u.slot i = s.slot i) ∧
    (s.passFlushes → u.ml.pass.state = .done ∧ u.ml.pass.outcome = some .flushed ∧ (u.lu.event .passDone).latched = true) := by
  refine ⟨grantPass ((s.notDue 0).notDue 1), arbitrate_third hline hx hfirst hsecond, ?_, fun i => ?_, fun hflush => ?_⟩
  · rcases hpass with hno | ⟨hstate, i, hslot, hlock⟩
    · rw [grantPass_not_queued (s := (s.notDue 0).notDue 1) hno]
      exact hx
    · rw [grantPass_flushed (s := (s.notDue 0).notDue 1) hx hstate hslot hlock]
      exact hx
  · exact slot_congr (s := s) ((grantPass_slots (s := (s.notDue 0).notDue 1)).trans rfl) i
  · obtain ⟨hstate, i, hslot, hlock⟩ := hflush
    rw [grantPass_flushed (s := (s.notDue 0).notDue 1) hx hstate hslot hlock]
    obtain ⟨hrecord, hevent⟩ := passDone_frame_with (s := (s.notDue 0).notDue 1) i .flushed none none
    rw [hrecord, hevent]
    exact ⟨rfl, rfl, rfl⟩
end

/-- What the arbiter's grant of a free ON line leaves, by the order of R125. -/
structure Granted (s t : State) : Prop where
  frame : t = { s with ml := t.ml, lu := t.lu }
  pending : t.ml.drivePending[(0 : Fin 2)] = false
  first : ∀ i, s.drives 0 i → t.ml.exchange = some ⟨.drive 0, i, (s.handler 0).driveCommand, false, .sending, false, false⟩ ∧
    t.ml.drivePending[(1 : Fin 2)] = s.ml.drivePending[(1 : Fin 2)] ∧ t.ml.pass = s.ml.pass
  pending_second : (∀ i, ¬ s.drives 0 i) → t.ml.drivePending[(1 : Fin 2)] = false
  second : (∀ i, ¬ s.drives 0 i) → ∀ i, s.drives 1 i →
    t.ml.exchange = some ⟨.drive 1, i, (s.handler 1).driveCommand, false, .sending, false, false⟩ ∧ t.ml.pass = s.ml.pass
  transaction : (∀ i, ¬ s.drives 0 i) → (∀ i, ¬ s.drives 1 i) → ∀ i, s.ml.pass.state = .queued → s.ml.pass.slot = some i →
    ¬ s.passLocked i → t.ml.exchange = some ⟨.passThrough, i, s.ml.pass.request, false, .sending, false, false⟩ ∧
      t.ml.pass = { s.ml.pass with state := .inFlight }
  flushed : (∀ i, ¬ s.drives 0 i) → (∀ i, ¬ s.drives 1 i) → s.passFlushes →
    t.ml.pass.state = .done ∧ t.ml.pass.outcome = some .flushed ∧ (t.lu.event .passDone).latched = true
  read : (∀ i, ¬ s.drives 0 i) → (∀ i, ¬ s.drives 1 i) → s.ml.pass.state ≠ .queued ∨ s.passFlushes → ∀ i, (s.slot i).readDue = true →
    (∀ k, k < i → (s.slot k).readDue = false) →
    t.ml.exchange = some ⟨.monitorRead, i, .readItems, false, .sending, false, false⟩ ∧ (t.slot i).readDue = false
  probe : (∀ i, ¬ s.drives 0 i) → (∀ i, ¬ s.drives 1 i) → s.ml.pass.state ≠ .queued ∨ s.passFlushes →
    (∀ k, (s.slot k).readDue = false) → ∀ i, (s.slot i).probeDue = true → (∀ k, k < i → (s.slot k).probeDue = false) →
    t.ml.exchange = some ⟨.probe, i, .probe, false, .sending, false, false⟩ ∧ (t.slot i).probeDue = false
  slot : ∀ i, (s.slot i).SameButDue (t.slot i)

theorem arbitrate_frame_with (s : State) : arbitrate s = { s with ml := (arbitrate s).ml, lu := (arbitrate s).lu } := by
  obtain ⟨hzr, hhs, hpa, hrs, hsu, hou, hsc, hpl, hbus, hpins, heeprom, htenth, hfree, hpending⟩ := arbitrate_frame s
  generalize arbitrate s = e at *
  exact State.eq_of_blocks hzr hhs hpa hrs hsu hou rfl hsc rfl hpl hbus hpins heeprom htenth hfree hpending

/-- A grant leaves what is due of the drives as `grantDrive` left it. -/
theorem grants_pending (u : State) : (grantProbe (grantRead (grantPass u))).ml.drivePending = u.ml.drivePending := by
  have hpass : (grantPass u).ml.drivePending = u.ml.drivePending := by
    unfold grantPass
    repeat' split
    all_goals rfl
  have hread (v : State) : (grantRead v).ml.drivePending = v.ml.drivePending := by
    unfold grantRead
    repeat' split
    all_goals rfl
  have hprobe (v : State) : (grantProbe v).ml.drivePending = v.ml.drivePending := by
    unfold grantProbe
    repeat' split
    all_goals rfl
  rw [hprobe, hread, hpass]

theorem arbitrate_granted (hline : s.ml.line = .on) (hx : s.ml.exchange = none) : Granted s (arbitrate s) := by
  have hsecondDue (hfirst : ∀ i, ¬ s.drives 0 i) : (arbitrate s).ml.drivePending[(1 : Fin 2)] = false ∧
      (arbitrate s).ml.drivePending[(0 : Fin 2)] = false := by
    by_cases hsecond : ∃ i, s.drives 1 i
    · obtain ⟨i, hd⟩ := hsecond
      rw [arbitrate_drives_second hline hx hfirst hd]
      exact ⟨(notDue_pending 1 1).trans (if_pos rfl), (notDue_pending 1 0).trans ((if_neg (by decide)).trans
        ((notDue_pending 0 0).trans (if_pos rfl)))⟩
    · rw [arbitrate_third hline hx hfirst (not_exists.mp hsecond), grants_pending]
      exact ⟨(notDue_pending 1 1).trans (if_pos rfl), (notDue_pending 1 0).trans ((if_neg (by decide)).trans
        ((notDue_pending 0 0).trans (if_pos rfl)))⟩
  refine ⟨arbitrate_frame_with s, ?_, fun i hd => ?_, fun hfirst => (hsecondDue hfirst).1, fun hfirst i hd => ?_,
    fun hfirst hsecond i hstate hslot hlock => ?_, fun hfirst hsecond hflush => ?_, fun hfirst hsecond hpass i hi hlow => ?_,
    fun hfirst hsecond hpass hnone i hi hlow => ?_, fun i => arbitrate_slot i⟩
  · by_cases hfirst : ∃ i, s.drives 0 i
    · obtain ⟨i, hd⟩ := hfirst
      rw [arbitrate_drives hline hx hd]
      exact (notDue_pending 0 0).trans (if_pos rfl)
    · exact (hsecondDue (not_exists.mp hfirst)).2
  · rw [arbitrate_drives hline hx hd]
    exact ⟨rfl, (notDue_pending 0 1).trans (if_neg (by decide)), rfl⟩
  · rw [arbitrate_drives_second hline hx hfirst hd]
    exact ⟨rfl, rfl⟩
  · rw [arbitrate_transaction hline hx hfirst hsecond hstate hslot hlock]
    exact ⟨rfl, rfl⟩
  · obtain ⟨u, hu, -, -, hdone⟩ := arbitrate_slots hline hx hfirst hsecond (.inr hflush)
    have hkept : (grantProbe (grantRead u)).ml.pass = u.ml.pass := grantProbe_keeps.1.trans grantRead_keeps.1
    have hlu : (grantProbe (grantRead u)).lu = u.lu := by simp
    rw [hu, hkept, hlu]
    exact hdone hflush
  · obtain ⟨u, hu, hxu, hslots, -⟩ := arbitrate_slots hline hx hfirst hsecond hpass
    have hgrant := grantRead_goes hxu (i := i) (by rw [hslots]; exact hi) (fun k hk => by rw [hslots]; exact hlow k hk)
    have hbusy := beginExchange_isSome (s := u.putSlot i { u.slot i with readDue := false }) .monitorRead i .readItems
    rw [hu, hgrant, grantProbe_busy hbusy]
    refine ⟨rfl, ?_⟩
    exact congrArg Slot.readDue (State.putSlot_slot_same u i _)
  · obtain ⟨u, hu, hxu, hslots, -⟩ := arbitrate_slots hline hx hfirst hsecond hpass
    have hstays := grantRead_stays hxu (fun k => by rw [hslots]; exact hnone k)
    have hgrant := grantProbe_goes hxu (i := i) (by rw [hslots]; exact hi) (fun k hk => by rw [hslots]; exact hlow k hk)
    rw [hu, hstays, hgrant]
    refine ⟨rfl, ?_⟩
    exact congrArg Slot.probeDue (State.putSlot_slot_same u i _)

end Sys2Proof.Machine

/-! ## Exchanges that fail, and the slot timers (R117, R119, R120, R124, R129) -/

namespace Sys2Proof.Machine

variable {s t u v w : State} {x : Exchange}

/-! ### A slot lost (R119) -/

theorem onSlot_of {w : WorkingMemory} {i : Fin 8} {j : Fin 4} {p : Fin 32} (hon : w.pointEnabled p = true)
    (hsource : w.pointSource p = .slot i j) : w.onSlot i p = true := by
  rw [WorkingMemory.onSlot, hon, hsource]
  simp

theorem loseSlot_facts (i : Fin 8) : ((loseSlot i s).slot i).state = .lost ∧
    (loseSlot i s).lu.event .moduleLost = { s.lu.event .moduleLost with
      latched := true, subject := i + 1, value := (s.wm.slotKind i).code } ∧
    ∀ p, s.wm.onSlot i p = true → ((loseSlot i s).point p).state = .failed ∧ ((loseSlot i s).point p).run = 0 := by
  obtain ⟨y, hy⟩ : ∃ y : Slot, y = { s.slot i with
    state := .lost, readDue := false, readTimer := none
    probeTimer := if s.ml.line = .on then some (sec 5) else (s.slot i).probeTimer } := ⟨_, rfl⟩
  obtain ⟨e, he⟩ : ∃ e, e = latch .moduleLost (i + 1) (s.wm.slotKind i).code (s.putSlot i y) := ⟨_, rfl⟩
  have hlose : loseSlot i s = tellDrives (failPoints (fun w => w.onSlot i) causeSlot e) := by
    rw [he, hy]
    rfl
  have hframe := failPoints_pointFrame (s := e) (fun w => w.onSlot i) causeSlot
  have hpoint := failPoints_point (s := e) (fun w => w.onSlot i) causeSlot
  have hevent := failPoints_event (s := e) (fun w => w.onSlot i) causeSlot (k := .moduleLost) (by decide)
  generalize failPoints (fun w => w.onSlot i) causeSlot e = f at hlose hframe hpoint hevent
  have htold := tellDrives_frame f
  rw [hlose]
  refine ⟨?_, ?_, fun p hp => ?_⟩
  · have hml : (tellDrives f).ml = e.ml := by rw [htold.2.2.2.2.2.1, hframe.frame]
    rw [slot_congr (congrArg ML.slots hml), he]
    exact congrArg Slot.state ((State.putSlot_slot_same s i y).trans hy)
  · have hvalue : clampInt (-32768) 32767 (s.wm.slotKind i).code = (s.wm.slotKind i).code := by
      have hcode : (s.wm.slotKind i).code ≤ 4 := by
        cases s.wm.slotKind i with
        | compressorDrive h => simp only [SlotKind.code]; omega
        | _ => decide
      unfold clampInt
      omega
    rw [htold.2.2.2.2.2.2.2.1, hevent, he, latch_event, hvalue]
    rfl
  · have hon : e.wm.onSlot i p = true := by
      rw [he]
      exact hp
    rw [point_congr (congrArg SU.points htold.2.2.2.1), hpoint, if_pos hon]
    exact ⟨rfl, rfl⟩

/-! ### The outcome of a failed exchange -/

section
variable (hon : x.detached = false) (hcls : x.cls ≠ .probe) (hpresent : (s.slot x.slot).state = .present)
include hon hcls hpresent

theorem failed_counts (hfew : (s.slot x.slot).failed < 2) (hv : v = slotOutcome x none s.lineFreed) :
    v.slot x.slot = { s.slot x.slot with failed := (s.slot x.slot).failed + 1 } ∧ v.su = s.su := by
  rw [slotOutcome_none hon hcls, countExchange_failed (s := s.lineFreed) hpresent hfew] at hv
  rw [hv]
  exact ⟨State.putSlot_slot_same _ _ _, rfl⟩

theorem failed_loses (hmany : 2 ≤ (s.slot x.slot).failed) (hv : v = slotOutcome x none s.lineFreed) :
    (v.slot x.slot).state = .lost ∧ v.lu.event .moduleLost = { s.lu.event .moduleLost with
      latched := true, subject := x.slot + 1, value := (s.wm.slotKind x.slot).code } ∧
    ∀ p, s.wm.onSlot x.slot p = true → (v.point p).state = .failed ∧ (v.point p).run = 0 := by
  rw [slotOutcome_none hon hcls, countExchange_lost (s := s.lineFreed) hpresent hmany] at hv
  rw [hv]
  exact loseSlot_facts x.slot
end

theorem failed_probe (hon : x.detached = false) (hcls : x.cls = .probe) (habsent : (s.slot x.slot).state ≠ .present)
    (hv : v = slotOutcome x none s.lineFreed) : v.slot x.slot = { s.slot x.slot with lastProbe := .noAnswer } := by
  rw [slotOutcome_probe hon hcls, countExchange_absent (s := s.lineFreed) _ habsent] at hv
  rw [hv]
  exact State.putSlot_slot_same s.lineFreed x.slot _

/-- A failure that does not lose the slot touches the slot's record alone, and not its state. -/
theorem failed_quiet (hfew : (s.slot x.slot).failed < 2) (hv : v = slotOutcome x none s) :
    v = s.setMl { s.ml with slots := v.ml.slots } ∧ ∀ i, (v.slot i).state = (s.slot i).state := by
  have hput {y : Slot} (hy : y.state = (s.slot x.slot).state) : s.putSlot x.slot y = s.setMl { s.ml with slots := (s.putSlot x.slot y).ml.slots } ∧
      ∀ i, ((s.putSlot x.slot y).slot i).state = (s.slot i).state := by
    refine ⟨rfl, fun i => ?_⟩
    rw [putSlot_slot]
    split
    · next hi => rw [hi, hy]
    · rfl
  have hcount : countExchange x.slot false s = s.setMl { s.ml with slots := (countExchange x.slot false s).ml.slots } ∧
      ∀ i, ((countExchange x.slot false s).slot i).state = (s.slot i).state := by
    by_cases hpresent : (s.slot x.slot).state = .present
    · rw [countExchange_failed hpresent hfew]
      exact hput rfl
    · rw [countExchange_absent false hpresent]
      exact ⟨rfl, fun _ => rfl⟩
  by_cases hon : x.detached = false
  · by_cases hcls : x.cls = .probe
    · rw [slotOutcome_probe hon hcls] at hv
      simp only [Option.isSome_none] at hv
      obtain ⟨hframe, hstate⟩ := hcount
      generalize countExchange x.slot false s = c at hv hframe hstate
      have hprobe : v = c.putSlot x.slot { c.slot x.slot with lastProbe := .noAnswer } := hv
      refine ⟨?_, fun i => ?_⟩
      · rw [hprobe, hframe]
        rfl
      · rw [hprobe, putSlot_slot]
        split
        · next hi =>
          rw [hi]
          exact hstate _
        · exact hstate i
    · rw [slotOutcome_none hon hcls] at hv
      rw [hv]
      exact hcount
  · rw [slotOutcome_detached (by simpa using hon)] at hv
    rw [hv]
    exact ⟨rfl, fun _ => rfl⟩

/-! ### A CLOSING line goes on (R129) -/

theorem silentDrive_congr (hhs : w.hs = s.hs) (hstate : ∀ i, (w.slot i).state = (s.slot i).state) : w.silentDrive = s.silentDrive := by
  funext h
  unfold State.silentDrive
  rw [handler_congr hhs]
  cases (s.handler h).driveSlot with
  | none => rfl
  | some i =>
    dsimp only
    rw [hstate]

theorem endClosing_line : (endClosing s).ml.closingLeft = [] ∧
    (endClosing s).ml.line = if s.ml.hostEnable = .on ∧ s.sc.opState = .run then .on else .off := by
  unfold endClosing
  split
  · rw [openLine_line]
    refine ⟨?_, rfl⟩
    rw [openLine_eq, arbitrate_line.2.2, lineOpened_ml]
  · exact ⟨rfl, rfl⟩

theorem nextTraffic_closing (hline : w.ml.line = .closing) (hx : w.ml.exchange = none) :
    (w.ml.closingLeft.dropWhile w.silentDrive = [] → (nextTraffic w).ml.closingLeft = [] ∧
      (nextTraffic w).ml.line = if w.ml.hostEnable = .on ∧ w.sc.opState = .run then .on else .off) ∧
    ∀ h rest, w.ml.closingLeft.dropWhile w.silentDrive = h :: rest → ∀ i, (w.handler h).driveSlot = some i →
      (nextTraffic w).ml.line = .closing ∧ (nextTraffic w).ml.closingLeft = rest ∧ (nextTraffic w).ml.exchange =
        some ⟨.closingStop h, i, .driveCommand false (if (w.handler h).lastMode = .cool then .cool else .heat) 0, false, .sending, false, false⟩ := by
  rw [nextTraffic_closing_free hline hx]
  refine ⟨fun hlast => ?_, fun h rest hnext i hi => ?_⟩
  · rw [nextClosingStop_last hlast]
    exact endClosing_line
  · rw [nextClosingStop_next hnext hi, closingStop_eq]
    exact ⟨hline, rfl, rfl⟩

theorem failed_closing (hline : s.ml.line = .closing) (hfew : (s.slot x.slot).failed < 2) (hu : u = endExchange x none s) :
    (s.ml.closingLeft.dropWhile s.silentDrive = [] → u.ml.closingLeft = [] ∧
      u.ml.line = if s.ml.hostEnable = .on ∧ s.sc.opState = .run then .on else .off) ∧
    ∀ h rest, s.ml.closingLeft.dropWhile s.silentDrive = h :: rest → ∀ i, (s.handler h).driveSlot = some i →
      u.ml.line = .closing ∧ u.ml.closingLeft = rest ∧ u.ml.exchange =
        some ⟨.closingStop h, i, .driveCommand false (if (s.handler h).lastMode = .cool then .cool else .heat) 0, false, .sending, false, false⟩ := by
  obtain ⟨v, hv⟩ : ∃ v, v = slotOutcome x none s.lineFreed := ⟨_, rfl⟩
  obtain ⟨w, hw⟩ : ∃ w, w = passOutcome x none v := ⟨_, rfl⟩
  obtain ⟨hframe, hstate⟩ := failed_quiet (s := s.lineFreed) hfew hv
  have hpass := passOutcome_frame_with (s := v) x none
  have hslots (i : Fin 8) : (w.slot i).state = (s.slot i).state := by
    rw [hw, passOutcome_slot]
    exact hstate i
  rw [← hw] at hpass
  have hml : w.ml.line = s.ml.line ∧ w.ml.exchange = none ∧ w.ml.closingLeft = s.ml.closingLeft ∧ w.ml.hostEnable = s.ml.hostEnable ∧
      w.hs = s.hs ∧ w.sc = s.sc := by
    rw [hpass, hframe]
    exact ⟨rfl, rfl, rfl, rfl, rfl, rfl⟩
  obtain ⟨hwline, hwx, hwleft, hwhost, hwhs, hwsc⟩ := hml
  have hnext := nextTraffic_closing (hwline.trans hline) hwx
  rw [endExchange_eq, ← hv, ← hw] at hu
  rw [← hu, silentDrive_congr hwhs hslots, hwleft, hwhost, hwsc] at hnext
  refine ⟨hnext.1, fun h rest hdrop i hi => ?_⟩
  have hthis := hnext.2 h rest hdrop i (by rw [handler_congr hwhs]; exact hi)
  rw [handler_congr hwhs] at hthis
  exact hthis

/-! ### The commands of the line -/

section
variable (hx : s.ml.exchange = some x)
include hx

theorem exec_responseTimeout_failed (hphase : x.phase ≠ .sending) (hsecond : x.secondTry = true) :
    exec .moduleResponseTimeout s = .next (kick (endExchange x none s)) := by
  show execModuleResponseTimeout s = _
  rw [execModuleResponseTimeout, hx]
  dsimp only
  rw [if_neg hphase, if_pos hsecond]

theorem exec_responseTimeout_again (hphase : x.phase ≠ .sending) (hfirst : x.secondTry = false) :
    exec .moduleResponseTimeout s = .next (s.setMl { s.ml with
      exchange := some { x with secondTry := true, phase := .sending }, response := none }) := by
  show execModuleResponseTimeout s = _
  rw [execModuleResponseTimeout, hx]
  dsimp only
  rw [if_neg hphase, if_neg (by rw [hfirst]; decide)]

theorem exec_requestSent (hphase : x.phase = .sending) : exec .moduleRequestSent s =
    .next (s.setMl { s.ml with exchange := some { x with phase := .awaiting }, response := some 1000 }) := by
  show execModuleRequestSent s = _
  rw [execModuleRequestSent, hx]
  dsimp only
  rw [if_pos hphase]
  rfl

theorem exec_answerGap (hphase : x.phase = .awaiting) : exec .moduleAnswerGap s =
    .next (s.setMl { s.ml with exchange := some { x with phase := .abandoned } }) := by
  show execModuleAnswerGap s = _
  rw [execModuleAnswerGap, hx]
  dsimp only
  rw [if_pos hphase]
end

/-! ### The slot timers (R120, R124) -/

/-- A slot timer's expiry with the line taken, or not ON. -/
theorem arbitrate_still (h : s.ml.line ≠ .on ∨ s.ml.exchange.isSome) : arbitrate s = s := by
  rcases h with h | h
  · exact arbitrate_off h
  · exact arbitrate_busy h

/-- A slot whose timer has expired is granted as the arbiter's order has it. -/
theorem timer_granted {i : Fin 8} {y : Slot} (hy : y.state = (s.slot i).state) (hline : s.ml.line = .on) (hx : s.ml.exchange = none) :
    Granted (s.putSlot i y) (kick (arbitrate (s.putSlot i y))) ∧ ∀ h k, (s.putSlot i y).drives h k ↔ s.drives h k := by
  have hgranted := arbitrate_granted (s := s.putSlot i y) hline hx
  have hkick := kick_eq (arbitrate (s.putSlot i y))
  have hevent := kick_event (arbitrate (s.putSlot i y))
  refine ⟨?_, fun h k => ?_⟩
  · generalize s.putSlot i y = u at *
    generalize arbitrate u = e at *
    generalize kick e = t at *
    have hml : t.ml = e.ml := by
      rw [hkick]
      rfl
    have hslot (k : Fin 8) : t.slot k = e.slot k := slot_congr (congrArg ML.slots hml) k
    constructor
    · rw [hkick, hgranted.frame]
      rfl
    · rw [hml]
      exact hgranted.pending
    · rw [hml]
      exact hgranted.first
    · rw [hml]
      exact hgranted.pending_second
    · rw [hml]
      exact hgranted.second
    · rw [hml]
      exact hgranted.transaction
    · rw [hml, hevent]
      exact hgranted.flushed
    · intro hfirst hsecond hpass k
      rw [hml, hslot]
      exact hgranted.read hfirst hsecond hpass k
    · intro hfirst hsecond hpass hnone k
      rw [hml, hslot]
      exact hgranted.probe hfirst hsecond hpass hnone k
    · intro k
      rw [hslot]
      exact hgranted.slot k
  · unfold State.drives
    rw [putSlot_slot]
    by_cases hk : k = i
    · rw [if_pos hk, hy, hk]
      exact Iff.rfl
    · rw [if_neg hk]
      exact Iff.rfl

end Sys2Proof.Machine

namespace Sys2Proof.Machine

theorem passDone_latched {l : LU} {e : EventRecord} {n : Nat} {z : Int} (h : l.event .passDone = { e with latched := true, subject := n, value := z }) :
    (l.event .passDone).latched = true := by
  rw [h]

/-- Settles O42. -/
theorem exchangesAreTriedTwice : Obligations.ExchangesAreTriedTwice := by
  intro s start silent drives locked flushed granted
  have hgrants {c : Instr} {reads probes : Fin 8 → Bool} {timers : State → Prop} {i : Fin 8} {y : Slot}
      (hexec : exec c s = .next (kick (arbitrate (s.putSlot i y)))) (hline : s.ml.line = .on) (hx : s.ml.exchange = none)
      (hstate : y.state = (s.slot i).state) (hreads : ∀ k, ((s.putSlot i y).slot k).readDue = reads k)
      (hprobes : ∀ k, ((s.putSlot i y).slot k).probeDue = probes k) (htimers : ∀ t : State, y.SameButDue (t.slot i) → timers t) :
      granted c reads probes timers := by
    obtain ⟨hgranted, hdrives⟩ := timer_granted hstate hline hx
    generalize kick (arbitrate (s.putSlot i y)) = t at hexec hgranted
    have hnone (h : Fin 2) (hno : ∀ k, ¬ drives h k) (k : Fin 8) : ¬ (s.putSlot i y).drives h k := fun hd => hno k ((hdrives h k).mp hd)
    have hframe : t = { s with ml := t.ml, lu := t.lu } := by
      have h := hgranted.frame
      generalize t.ml = m at h ⊢
      generalize t.lu = l at h ⊢
      rw [h]
      rfl
    have hslot := hgranted.slot i
    rw [State.putSlot_slot_same] at hslot
    refine ⟨t, hexec, hframe, htimers t hslot, hgranted.pending, fun k hd => hgranted.first k ((hdrives 0 k).mpr hd), fun hfirst => ?_⟩
    refine ⟨hgranted.pending_second (hnone 0 hfirst), fun k hd => hgranted.second (hnone 0 hfirst) k ((hdrives 1 k).mpr hd), fun hsecond => ?_⟩
    refine ⟨fun k => hgranted.transaction (hnone 0 hfirst) (hnone 1 hsecond) k, fun hflush =>
      hgranted.flushed (hnone 0 hfirst) (hnone 1 hsecond) hflush, fun hpass => ⟨fun k hk hlow => ?_, fun hno k hk hlow => ?_⟩⟩
    · exact hgranted.read (hnone 0 hfirst) (hnone 1 hsecond) hpass k ((hreads k).trans hk) fun l hl => (hreads l).trans (hlow l hl)
    · exact hgranted.probe (hnone 0 hfirst) (hnone 1 hsecond) hpass (fun l => (hreads l).trans (hno l)) k ((hprobes k).trans hk)
        fun l hl => (hprobes l).trans (hlow l hl)
  have hdue (i k : Fin 8) (y : Slot) : ((s.putSlot i y).slot k).readDue = (if k = i then y.readDue else (s.slot k).readDue) ∧
      ((s.putSlot i y).slot k).probeDue = (if k = i then y.probeDue else (s.slot k).probeDue) := by
    rw [putSlot_slot]
    by_cases hk : k = i
    · simp only [if_pos hk, and_self]
    · simp only [if_neg hk, and_self]
  refine ⟨fun hx => ⟨?_, ?_, ?_⟩, fun x hx => ⟨exec_requestSent hx, exec_answerGap hx, exec_responseTimeout_again hx,
    fun hphase hsecond => ?_⟩, fun i htimer => ?_, fun i htimer => ?_, fun i htimer hbusy hsettled => ?_,
    fun i htimer hbusy hsettled => ?_, fun i htimer hline hx => ?_, fun i htimer hline hx => ?_⟩
  · show execModuleRequestSent s = _
    rw [execModuleRequestSent, hx]
  · show execModuleAnswerGap s = _
    rw [execModuleAnswerGap, hx]
  · show execModuleResponseTimeout s = _
    rw [execModuleResponseTimeout, hx]
  · have hends := kick_endExchange s x none
    have hml : (kick (endExchange x none s)).ml = (endExchange x none s).ml := (kick_frame _).2.2.2.2.2.2.1
    obtain ⟨e, he⟩ : ∃ e, e = endExchange x none s := ⟨_, rfl⟩
    have hexec := exec_responseTimeout_failed hx hphase hsecond
    rw [← he] at hends hml hexec
    generalize kick e = t at hends hml hexec
    obtain ⟨hstate, hfailed, -, -, -, hprobe⟩ := (hends.slot x.slot).fields
    refine ⟨t, hexec, hends.frame, fun hon hpresent hfew hcls => ?_, fun hon hpresent hmany hcls => ?_, fun hon habsent hcls => ?_,
      fun hcls hkept => ?_, fun hline hfew => ?_⟩
    · obtain ⟨hslot, hsu⟩ := failed_counts hon hcls hpresent hfew rfl
      rw [hslot] at hstate hfailed
      exact ⟨hstate.trans hpresent, hfailed, hends.su.trans hsu⟩
    · obtain ⟨hlost, hevent, hpoints⟩ := failed_loses hon hcls hpresent hmany rfl
      refine ⟨hstate.trans hlost, (hends.event _ (by decide)).trans hevent, fun p j henabled hsource => ?_⟩
      rw [hends.point]
      exact hpoints p (onSlot_of henabled hsource)
    · have hslot := failed_probe hon hcls habsent rfl
      rw [hslot] at hstate hprobe
      exact ⟨hstate, hprobe⟩
    · obtain ⟨hdone, hevent⟩ := hends.done _ _ _ (passOutcome_none hcls hkept)
      exact ⟨congrArg PassRecord.state hdone, congrArg PassRecord.outcome hdone, passDone_latched hevent⟩
    · have hsilent : silent = s.silentDrive := by
        funext h
        unfold State.silentDrive
        cases hslot : (s.handler h).driveSlot <;> simp only [silent, hslot]
      have hcloses := failed_closing hline hfew he
      rw [hsilent, hml]
      exact hcloses
  · exact if_neg (by rw [htimer]; decide)
  · exact if_neg (by rw [htimer]; decide)
  · refine (if_pos htimer).trans ?_
    rw [arbitrate_still (s := s.putSlot i _) hbusy]
    exact congrArg Host.Outcome.next (kick_settled (s := s.putSlot i _) hsettled)
  · refine (if_pos htimer).trans ?_
    rw [arbitrate_still (s := s.putSlot i _) hbusy]
    exact congrArg Host.Outcome.next (kick_settled (s := s.putSlot i _) hsettled)
  · refine hgrants (i := i) (y := { s.slot i with probeTimer := some (sec 5), probeDue := true }) (if_pos htimer) hline hx rfl
      (fun k => (hdue i k _).1.trans ?_) (fun k => (hdue i k _).2.trans ?_) fun t ht => ht.fields.2.2.2.2.2.2.1
    · split
      · next hk => rw [hk]
      · rfl
    · by_cases hk : k = i <;> simp [hk]
  · refine hgrants (i := i) (y := { s.slot i with readTimer := some (sec 2), readDue := true }) (if_pos htimer) hline hx rfl
      (fun k => (hdue i k _).1.trans ?_) (fun k => (hdue i k _).2.trans ?_) fun t ht => ht.fields.2.2.2.2.2.2.2
    · by_cases hk : k = i <;> simp [hk]
    · split
      · next hk => rw [hk]
      · rfl

end Sys2Proof.Machine

/-! ## The profile load (R161, R162, R164) -/

namespace Sys2Proof.Machine

variable {s : State}

/-! ### Report defaults (R153, R154) -/

/-- A kind's enable taken from a mask. -/
def LU.takeEnable (mask : Word16) (l : LU) (k : EventKind) : LU := l.setEvent k { l.event k with enable := mask.getLsbD k.index }

/-- A kind's notice queued where it is enabled and latched. -/
def LU.queueDue (l : LU) (k : EventKind) : LU := if (l.event k).enable && (l.event k).latched then l.queueNotice k else l

section
variable (mask : Word16) (l : LU)

theorem LU.takeReportDefaults_eq : l.takeReportDefaults mask = EventKind.all.foldl LU.queueDue (EventKind.all.foldl (LU.takeEnable mask) l) := rfl

theorem LU.event_takeEnable (j k : EventKind) : (l.takeEnable mask j).event k =
    if k = j then { l.event k with enable := mask.getLsbD k.index } else l.event k := by
  by_cases hkj : k = j
  · rw [if_pos hkj, hkj, LU.takeEnable, LU.event_setEvent_same]
  · rw [if_neg hkj, LU.takeEnable, LU.event_setEvent_other (Ne.symm hkj)]

theorem LU.event_foldl_takeEnable (ks : List EventKind) (k : EventKind) : (ks.foldl (LU.takeEnable mask) l).event k =
    if k ∈ ks then { l.event k with enable := mask.getLsbD k.index } else l.event k := by
  induction ks generalizing l with
  | nil => simp
  | cons j ks ih =>
    rw [List.foldl_cons, ih, LU.event_takeEnable]
    by_cases hkj : k = j
    · subst hkj
      simp
    · simp [hkj]

theorem LU.foldl_takeEnable_frame (ks : List EventKind) : ks.foldl (LU.takeEnable mask) l =
    { l with events := (ks.foldl (LU.takeEnable mask) l).events, queue := (ks.foldl (LU.takeEnable mask) l).queue } ∧
    (ks.foldl (LU.takeEnable mask) l).queue = l.queue := by
  induction ks generalizing l with
  | nil => exact ⟨rfl, rfl⟩
  | cons j ks ih =>
    obtain ⟨hframe, hqueue⟩ := ih (l.takeEnable mask j)
    rw [List.foldl_cons]
    exact ⟨LU.frame_trans rfl hframe, hqueue⟩

theorem LU.event_queueDue (j k : EventKind) : (l.queueDue j).event k = l.event k := by
  unfold LU.queueDue
  split
  · exact LU.event_queueNotice l j k
  · rfl

theorem LU.event_foldl_queueDue (ks : List EventKind) (k : EventKind) : (ks.foldl LU.queueDue l).event k = l.event k := by
  induction ks generalizing l with
  | nil => rfl
  | cons j ks ih => rw [List.foldl_cons, ih, LU.event_queueDue]

/-- A notice is due: the kind is enabled and latched. -/
def LU.noticeDue (l : LU) (k : EventKind) : Bool := (l.event k).enable && (l.event k).latched

theorem LU.queueDue_queue (j : EventKind) : (l.queueDue j).queue = queueNotices l.queue (if l.noticeDue j then [j] else []) := by
  unfold LU.queueDue LU.noticeDue
  split
  · exact LU.queueNotice_queue_eq l j
  · rfl

theorem LU.foldl_queueDue_queue (ks : List EventKind) : (ks.foldl LU.queueDue l).queue = queueNotices l.queue (ks.filter l.noticeDue) := by
  induction ks generalizing l with
  | nil => rfl
  | cons j ks ih =>
    have hsame : (l.queueDue j).noticeDue = l.noticeDue := by
      funext k
      rw [LU.noticeDue, LU.event_queueDue, LU.noticeDue]
    rw [List.foldl_cons, ih, hsame, LU.queueDue_queue, List.filter_cons]
    split <;> rfl

theorem LU.foldl_queueDue_frame (ks : List EventKind) : ks.foldl LU.queueDue l =
    { l with events := (ks.foldl LU.queueDue l).events, queue := (ks.foldl LU.queueDue l).queue } := by
  induction ks generalizing l with
  | nil => rfl
  | cons j ks ih =>
    have hone : l.queueDue j = { l with events := (l.queueDue j).events, queue := (l.queueDue j).queue } := by
      unfold LU.queueDue LU.queueNotice
      repeat' split
      all_goals rfl
    rw [List.foldl_cons]
    exact LU.frame_trans hone (ih _)

theorem LU.takeReportDefaults_event (k : EventKind) :
    (l.takeReportDefaults mask).event k = { l.event k with enable := mask.getLsbD k.index } := by
  rw [LU.takeReportDefaults_eq, LU.event_foldl_queueDue, LU.event_foldl_takeEnable, if_pos (EventKind.mem_all k)]

theorem LU.takeReportDefaults_frame : l.takeReportDefaults mask =
    { l with events := (l.takeReportDefaults mask).events, queue := (l.takeReportDefaults mask).queue } := by
  have hfirst := (LU.foldl_takeEnable_frame mask l EventKind.all).1
  have hsecond := LU.foldl_queueDue_frame (EventKind.all.foldl (LU.takeEnable mask) l) EventKind.all
  rw [LU.takeReportDefaults_eq]
  generalize EventKind.all.foldl (LU.takeEnable mask) l = m at *
  generalize EventKind.all.foldl LU.queueDue m = n at *
  exact LU.frame_trans hfirst hsecond

/-- With an empty queue the notices due are queued in kind order, eight at most. -/
theorem LU.takeReportDefaults_queue (hq : l.queue = []) : (l.takeReportDefaults mask).queue =
    (EventKind.all.filter fun k => (l.event k).latched && mask.getLsbD k.index).take 8 := by
  have hdue : (EventKind.all.foldl (LU.takeEnable mask) l).noticeDue = fun k => (l.event k).latched && mask.getLsbD k.index := by
    funext k
    rw [LU.noticeDue, LU.event_foldl_takeEnable, if_pos (EventKind.mem_all k)]
    exact Bool.and_comm _ _
  rw [LU.takeReportDefaults_eq, LU.foldl_queueDue_queue, (LU.foldl_takeEnable_frame mask l EventKind.all).2, hq, hdue,
    queueNotices_eq_take (Nat.zero_le _) (EventKind.all_nodup.filter _)]
  simp
end

/-! ### The profile installed (R161, R162) -/

theorem loadProfile_good {ack : Bool} {w : WorkingMemory} (h : s.eeprom.loadFault ack = none) (hw : w = s.eeprom.profile) :
    loadProfile ack s = s.setPl { s.pl with wm := w, defaultFlag := false, loadState := .loaded } := by
  rw [loadProfile, h, hw]

theorem loadProfile_fault {ack : Bool} {cause : Nat} {w : WorkingMemory} (h : s.eeprom.loadFault ack = some cause)
    (hw : w = builtinProfile) : loadProfile ack s =
      latch .profileFault 0 cause (s.setPl { s.pl with wm := w, defaultFlag := true, loadState := .loaded }) := by
  rw [loadProfile, h, hw]

/-- The load puts a profile into working memory, and reports an image that failed (R162). -/
theorem loadProfile_cases (ack : Bool) (s : State) : ∃ w d, loadProfile ack s = s.setPl { s.pl with
      wm := w, defaultFlag := d, loadState := .loaded } ∨
    ∃ cause : Nat, loadProfile ack s = latch .profileFault 0 cause (s.setPl { s.pl with wm := w, defaultFlag := d, loadState := .loaded }) := by
  cases h : s.eeprom.loadFault ack with
  | none => exact ⟨_, _, .inl (loadProfile_good h rfl)⟩
  | some cause => exact ⟨_, _, .inr ⟨cause, loadProfile_fault h rfl⟩⟩

theorem loadFault_cause {m : Memory} {ack : Bool} {cause : Nat} (h : m.loadFault ack = some cause) : cause ≤ 6 := by
  unfold Memory.loadFault at h
  dsimp only at h
  repeat' split at h
  all_goals simp at h
  all_goals omega

theorem loadProfile_frame_with (ack : Bool) (s : State) : loadProfile ack s = { s with
    lu := (loadProfile ack s).lu
    pl := { s.pl with wm := (loadProfile ack s).wm, defaultFlag := (loadProfile ack s).pl.defaultFlag, loadState := .loaded } } := by
  obtain ⟨w, d, h | ⟨cause, h⟩⟩ := loadProfile_cases ack s
  · generalize loadProfile ack s = e at h
    rw [h]
    rfl
  · generalize loadProfile ack s = e at h
    rw [h]
    rfl

theorem loadProfile_event {ack : Bool} {k : EventKind} (hk : k ≠ .profileFault) : (loadProfile ack s).lu.event k = s.lu.event k := by
  obtain ⟨w, d, h | ⟨cause, h⟩⟩ := loadProfile_cases ack s
  · rw [h, State.setPl_lu]
  · rw [h]
    exact LU.event_occur_other (Ne.symm hk) _ _ _

theorem LU.occur_queue_disabled {l : LU} {k : EventKind} (h : (l.event k).enable = false) (n : Nat) (v : Int) :
    (l.occur k n v).queue = l.queue := by
  rw [LU.occur]
  dsimp only
  rw [if_neg (by rw [h]; exact Bool.false_ne_true)]
  rfl

theorem loadProfile_queue {ack : Bool} (hoff : ∀ k, (s.lu.event k).enable = false) : (loadProfile ack s).lu.queue = s.lu.queue := by
  obtain ⟨w, d, h | ⟨cause, h⟩⟩ := loadProfile_cases ack s
  · rw [h, State.setPl_lu]
  · rw [h]
    exact LU.occur_queue_disabled (l := s.lu) (hoff .profileFault) _ _

/-! ### The blocks take the profile -/

theorem zonesLoaded_zone (z : Fin 12) : (zonesLoaded s).zone z = {
    enabled := s.wm.zoneDefaultEnabled z, setpoint := s.wm.zoneDefaultSetpoint z
    state := if s.wm.zoneDefaultEnabled z then .held else .off, substitute := none, tempUsed := none, integral := 0, demand := 0
    limited := .none, grantedReheat := 0 } := by
  simp only [zonesLoaded, State.zone, State.setZr_zr, Fin.getElem_fin, Vector.getElem_ofFn]
  rfl

/-- Every handler's rest timer starts (R23). -/
def restStarted (s : State) : State := forHandlers (fun h s => s.putHandler h { s.handler h with rest := sec s.wm.restTime }) s

theorem restStarted_handler (h : Fin 2) : (restStarted s).handler h = { s.handler h with rest := sec s.wm.restTime } := by
  have hother : ((s.putHandler 0 { s.handler 0 with rest := sec s.wm.restTime }).handler 1) = s.handler 1 :=
    State.putHandler_handler_other s (by decide) _
  have hcases : h = 0 ∨ h = 1 := by omega
  rw [restStarted, forHandlers]
  rcases hcases with rfl | rfl
  · rw [State.putHandler_handler_other _ (by decide), State.putHandler_handler_same]
  · rw [State.putHandler_handler_same, hother]
    rfl

theorem handlersLoaded_handler (h : Fin 2) : ((handlersLoaded s).handler h).rest = 100000 * s.wm.restTime ∧
    ((handlersLoaded s).handler h).driveSlot = s.wm.driveSlotOf h := by
  have hloaded : (handlersLoaded s).handler h = ({ s.handler h with rest := sec s.wm.restTime } : Handler).told s.wm.restTime
      (s.wm.driveSlotOf h) ((readAir (restStarted s)).driveReady h) := by
    have htold := tellDrives_handler (readAir (restStarted s)) h
    rw [readAir_handler, restStarted_handler] at htold
    exact htold
  rw [hloaded, ← sec_eq, Handler.told]
  refine ⟨?_, rfl⟩
  dsimp only
  split
  · rw [Handler.stop_rest]
    exact ite_self _
  · rfl

theorem handlersLoaded_hs : (handlersLoaded s).hs = { s.hs with handlers := (handlersLoaded s).hs.handlers, air := s.wm.airSettings } := by
  have htold : HandlersTold (readAir (restStarted s)) (handlersLoaded s) := tellDrives_told
  have hair : (handlersLoaded s).hs.air = s.wm.airSettings := by
    rcases htold.air_eq with h | h <;> rw [h] <;> rfl
  have hhs := htold.hs_eq
  rw [hair] at hhs
  exact hhs

theorem renewalsLoaded_renewal (h : Fin 2) : (renewalsLoaded s).renewal h = { s.renewal h with interval := sec s.wm.renewalInterval } := by
  have hother : ((s.putRenewal 0 { s.renewal 0 with interval := sec s.wm.renewalInterval }).renewal 1) = s.renewal 1 :=
    State.putRenewal_renewal_other s (by decide) _
  have hcases : h = 0 ∨ h = 1 := by omega
  rw [renewalsLoaded, forHandlers]
  rcases hcases with rfl | rfl
  · rw [State.putRenewal_renewal_other _ (by decide), State.putRenewal_renewal_same]
  · rw [State.putRenewal_renewal_same, hother]
    rfl

theorem firstPointState_eq (p : Fin 32) : s.firstPointState p = if s.wm.pointEnabled p = false then .absent
    else if s.sourceFailed p ≠ none then .failed else .pending := by
  unfold State.firstPointState
  cases s.wm.pointEnabled p <;> cases s.sourceFailed p <;> rfl

theorem sourceFailed_iff (p : Fin 32) : s.sourceFailed p ≠ none ↔
    (∃ i : Fin 24, s.wm.pointSource p = .tap i ∧ (s.bank ⟨i.val / 8, by omega⟩).failed = true) ∨
      (∃ i j, s.wm.pointSource p = .slot i j ∧ (s.slot i).state ≠ .present) := by
  unfold State.sourceFailed
  cases s.wm.pointSource p with
  | tap t =>
    have hbank : s.bank (bankOfTap t) = s.bank ⟨t.val / 8, by omega⟩ := rfl
    dsimp only
    rw [hbank]
    cases hf : (s.bank ⟨t.val / 8, by omega⟩).failed
    · simp [hf]
    · simp [hf]
  | slot i j =>
    dsimp only
    by_cases h : (s.slot i).state = .present
    · simp [h]
    · simp [h]

theorem PointFrame.firstPointState {t : State} (h : PointFrame s t) (p : Fin 32) : t.firstPointState p = s.firstPointState p := by
  rw [h.frame]
  rfl

theorem pointsLoaded_pointFrame : PointFrame s (pointsLoaded s) := forPoints_pointFrame fun p _ => putPoint_pointFrame p _

theorem pointsLoaded_point (p : Fin 32) : (pointsLoaded s).point p = { s.point p with state := s.firstPointState p } := by
  refine forPoints_point _ (fun p x => { x with state := s.firstPointState p }) (PointFrame s) (fun p u hu => ?_) (fun p u k hu => ?_)
    (.refl s) p
  · exact hu.trans (putPoint_pointFrame p _)
  · rw [putPoint_point, hu.firstPointState]

theorem channelsLoaded_channel (c : Fin 16) : (channelsLoaded s).channel c = { s.channel c with
    role := s.wm.channelRole c, modulus := s.wm.channelModulus c, step := s.wm.channelStep c, polarity := s.wm.channelPolarity c
    bound := s.wm.binds c (s.wm.channelRole c) } := by
  simp only [channelsLoaded, State.channel, State.setOu_ou, Fin.getElem_fin, Vector.getElem_ofFn]

theorem channelsLoaded_ou : (channelsLoaded s).ou = { s.ou with channels := (channelsLoaded s).ou.channels } := rfl

theorem hurryPass_su : (hurryPass s).su.points = s.su.points ∧ (s.su.pass = .none → (hurryPass s).su.pass = .supply s.wm.scanList ∧
    (hurryPass s).su.gapTimer = none ∧ (hurryPass s).su.scanGap = s.wm.scanGap) := by
  unfold hurryPass
  by_cases h : s.su.pass = .none
  · rw [if_pos h]
    exact ⟨rfl, fun _ => ⟨rfl, rfl, rfl⟩⟩
  · rw [if_neg h]
    exact ⟨rfl, fun hp => absurd hp h⟩

end Sys2Proof.Machine

/-! ## PROFILE_LOAD_COMPLETE (R162) -/

namespace Sys2Proof.Machine

variable {s u b : State}

/-- What the blocks are once they have taken the profile. -/
structure BlocksLoaded (u b : State) : Prop where
  frame : b = { u with
    zr := { u.zr with zones := b.zr.zones }, hs := { u.hs with handlers := b.hs.handlers, air := u.wm.airSettings }
    rs := { u.rs with renewals := b.rs.renewals }, su := b.su, ou := { u.ou with channels := b.ou.channels }, lu := b.lu }
  lu : b.lu = u.lu.takeReportDefaults u.wm.reportDefaults
  zone : ∀ z, b.zone z = {
    enabled := u.wm.zoneDefaultEnabled z, setpoint := u.wm.zoneDefaultSetpoint z
    state := if u.wm.zoneDefaultEnabled z then .held else .off, substitute := none, tempUsed := none, integral := 0, demand := 0
    limited := .none, grantedReheat := 0 }
  handler : ∀ h, (b.handler h).rest = 100000 * u.wm.restTime ∧ (b.handler h).driveSlot = u.wm.driveSlotOf h
  renewal : ∀ h, (b.renewal h).interval = 100000 * u.wm.renewalInterval
  pass : u.su.pass = .none → b.su.pass = .supply u.wm.scanList ∧ b.su.gapTimer = none ∧ b.su.scanGap = u.wm.scanGap
  point : ∀ p, b.point p = { u.point p with state := u.firstPointState p }
  channel : ∀ c, b.channel c = { u.channel c with
    role := u.wm.channelRole c, modulus := u.wm.channelModulus c, step := u.wm.channelStep c, polarity := u.wm.channelPolarity c
    bound := u.wm.binds c (u.wm.channelRole c) }

section
variable {z h r p : State}

/-- The profile reaches block after block, each from what the one before left. -/
theorem blocksLoaded_blocks (hz : z = zonesLoaded u) (hh : h = handlersLoaded z) (hr : r = renewalsLoaded h) (hp : p = pointsLoaded r) :
    (blocksLoaded u).zr = z.zr ∧ (blocksLoaded u).hs = h.hs ∧ (blocksLoaded u).rs = r.rs ∧ (blocksLoaded u).ou = (channelsLoaded p).ou ∧
      (blocksLoaded u).lu = u.lu.takeReportDefaults u.wm.reportDefaults ∧ (blocksLoaded u).su.points = p.su.points ∧
      (p.su.pass = .none → (blocksLoaded u).su.pass = .supply p.wm.scanList ∧ (blocksLoaded u).su.gapTimer = none ∧
        (blocksLoaded u).su.scanGap = p.wm.scanGap) := by
  have hzr : (blocksLoaded u).zr = (zonesLoaded u).zr := by simp [blocksLoaded]
  have hhs : (blocksLoaded u).hs = (handlersLoaded (zonesLoaded u)).hs := by simp [blocksLoaded]
  have hrs : (blocksLoaded u).rs = (renewalsLoaded (handlersLoaded (zonesLoaded u))).rs := by simp [blocksLoaded]
  have hou : (blocksLoaded u).ou = (channelsLoaded (pointsLoaded (renewalsLoaded (handlersLoaded (zonesLoaded u))))).ou := by
    simp [blocksLoaded]
  have hlu : (blocksLoaded u).lu = u.lu.takeReportDefaults u.wm.reportDefaults := by simp [blocksLoaded, State.wm]
  obtain ⟨c, hc⟩ : ∃ c, c = channelsLoaded (pointsLoaded (renewalsLoaded (handlersLoaded (zonesLoaded u)))) := ⟨_, rfl⟩
  obtain ⟨e, he⟩ : ∃ e, e = c.setLu (c.lu.takeReportDefaults c.wm.reportDefaults) := ⟨_, rfl⟩
  have hblocks : blocksLoaded u = hurryPass e := by rw [blocksLoaded, ← hc, ← he]
  obtain ⟨hpoints, hpass⟩ := hurryPass_su (s := e)
  rw [← hblocks] at hpoints hpass
  rw [← hz, ← hh, ← hr, ← hp] at hc hou
  rw [← hz, ← hh, ← hr] at hrs
  rw [← hz, ← hh] at hhs
  rw [← hz] at hzr
  have hesu : e.su = p.su := by
    rw [he, State.setLu_su, hc]
    simp
  have hepl : e.pl = p.pl := by
    rw [he, State.setLu_pl, hc]
    simp
  rw [hesu] at hpoints
  rw [hesu, State.wm, hepl] at hpass
  exact ⟨hzr, hhs, hrs, hou, hlu, hpoints, hpass⟩
end

theorem blocksLoaded_loaded (u : State) : BlocksLoaded u (blocksLoaded u) := by
  obtain ⟨z, hz⟩ : ∃ z, z = zonesLoaded u := ⟨_, rfl⟩
  obtain ⟨h, hh⟩ : ∃ h, h = handlersLoaded z := ⟨_, rfl⟩
  obtain ⟨r, hr⟩ : ∃ r, r = renewalsLoaded h := ⟨_, rfl⟩
  obtain ⟨p, hp⟩ : ∃ p, p = pointsLoaded r := ⟨_, rfl⟩
  obtain ⟨hbzr, hbhs, hbrs, hbou, hblu, hbpoints, hbpass⟩ := blocksLoaded_blocks hz hh hr hp
  obtain ⟨hbpa, hbml, hbsc, hbpl, hbbus, hbpins, hbeeprom, hbtenth, hbfree, hbpending⟩ := blocksLoaded_frame u
  generalize blocksLoaded u = b at *
  have hzframe : z = { u with zr := { u.zr with zones := z.zr.zones } } := by
    rw [hz]
    rfl
  have hzhs : z.hs = u.hs := by rw [hzframe]
  have hzwm : z.wm = u.wm := by
    rw [hzframe]
    rfl
  have hhhs := handlersLoaded_hs (s := z)
  obtain ⟨-, -, hhrs, hhsu, hhou, hhml, -, -, hhpl, -⟩ := handlersLoaded_frame z
  have hhandler := handlersLoaded_handler (s := z)
  rw [← hh] at hhhs hhrs hhsu hhou hhml hhpl hhandler
  have hhwm : h.wm = u.wm := (congrArg PL.wm hhpl).trans hzwm
  have hrframe : r = { h with rs := { h.rs with renewals := r.rs.renewals } } := by
    rw [hr]
    rfl
  have hrwm : r.wm = u.wm := by
    rw [hrframe]
    exact hhwm
  have hrsu : r.su = u.su := by
    rw [hrframe]
    exact hhsu.trans (by rw [hzframe])
  have hrml : r.ml = u.ml := by
    rw [hrframe]
    exact hhml.trans (by rw [hzframe])
  have hrou : r.ou = u.ou := by
    rw [hrframe]
    exact hhou.trans (by rw [hzframe])
  obtain ⟨-, -, -, -, hpou, -, -, -, hppl, -⟩ := pointsLoaded_frame r
  have hpframe := (pointsLoaded_pointFrame (s := r)).frame
  have hppoint := pointsLoaded_point (s := r)
  rw [← hp] at hpou hppl hpframe hppoint
  have hpwm : p.wm = u.wm := (congrArg PL.wm hppl).trans hrwm
  have hppass : p.su.pass = u.su.pass := by
    have hkept : p.su.pass = r.su.pass := by rw [hpframe]
    rw [hkept, hrsu]
  have hfirst (k : Fin 32) : r.firstPointState k = u.firstPointState k := by
    unfold State.firstPointState State.sourceFailed State.bank State.slot
    rw [hrwm, hrsu, hrml]
  refine ⟨State.eq_of_blocks ?_ ?_ hbpa ?_ rfl ?_ hbml hbsc rfl hbpl hbbus hbpins hbeeprom hbtenth hbfree hbpending, hblu, fun k => ?_, fun k => ?_,
    fun k => ?_, fun hnone => ?_, fun k => ?_, fun k => ?_⟩
  · rw [hbzr, hz]
    rfl
  · rw [hbhs, hhhs, hzhs, hzwm]
  · have hzrs : z.rs = u.rs := by rw [hzframe]
    rw [hbrs, hrframe, hhrs, hzrs]
  · rw [hbou, channelsLoaded_ou, hpou, hrou]
  · rw [State.zone, hbzr, hz]
    exact zonesLoaded_zone k
  · rw [handler_congr hbhs, ← hzwm]
    exact hhandler k
  · have hk := renewalsLoaded_renewal (s := h) k
    rw [← hr] at hk
    rw [State.renewal, hbrs]
    exact (congrArg Renewal.interval hk).trans (by rw [hhwm, sec_eq])
  · rw [← hpwm]
    exact hbpass (hppass.trans hnone)
  · have hpoint : r.point k = u.point k := point_congr (congrArg SU.points hrsu) k
    rw [point_congr hbpoints, hppoint, hfirst, hpoint]
  · have hk := channelsLoaded_channel (s := p) k
    have hchannel : p.channel k = u.channel k := by rw [State.channel, hpou, hrou, State.channel]
    rw [hpwm, hchannel] at hk
    rw [State.channel, hbou]
    exact hk

end Sys2Proof.Machine

namespace Sys2Proof.Machine

variable {s : State}

theorem exec_profileLoadComplete (ack : Bool) (h : s.pl.loadState = .loading) :
    exec (.profileLoadComplete ack) s = .next (kick (blocksLoaded (loadProfile ack s))) := if_pos h

/-- What the loaded Link Unit sends and keeps: the notices due, the oldest at once where the transmitter is idle (R150, R154). -/
theorem LU.takeNext_loaded {l : LU} {due : List EventKind} (hafter : l.after = .none) (hanswer : l.answer = none)
    (hreject : l.overrunReject = none) (hqueue : l.queue = due.take 8) :
    (l.transmitter ≠ .idle → l.takeNext.transmitter = l.transmitter ∧ l.takeNext.queue = due.take 8) ∧
    (l.transmitter = .idle → due = [] → l.takeNext.transmitter = .idle ∧ l.takeNext.queue = []) ∧
    (l.transmitter = .idle → ∀ k rest, due = k :: rest → l.takeNext.queue = rest.take 7 ∧
      l.takeNext.transmitter = .sending .notice (noticeFrame l k) []) := by
  refine ⟨fun hbusy => ?_, fun hidle hnone => ?_, fun hidle k rest hsome => ?_⟩
  · cases ht : l.transmitter with
    | idle => exact absurd ht hbusy
    | sending w f fs =>
      rw [LU.takeNext_busy ht]
      exact ⟨ht, hqueue⟩
  · rw [hnone] at hqueue
    rw [LU.takeNext_nothing hidle hanswer hafter hreject hqueue]
    exact ⟨hidle, hqueue⟩
  · rw [hsome] at hqueue
    rw [LU.takeNext_notice hidle hanswer hafter hreject hqueue]
    exact ⟨rfl, rfl⟩

/-- Settles O49. -/
theorem loadInstallsAProfile : Obligations.LoadInstallsAProfile := by
  intro ack s
  refine ⟨fun hno => if_neg hno, fun hloading => ?_⟩
  have hexec := exec_profileLoadComplete ack hloading
  have hgood := fun h => loadProfile_good (s := s) (ack := ack) (w := s.eeprom.profile) h rfl
  have hfault := fun cause h => loadProfile_fault (s := s) (ack := ack) (cause := cause) (w := builtinProfile) h rfl
  have huframe := loadProfile_frame_with ack s
  have huevent := fun {k} => loadProfile_event (s := s) (ack := ack) (k := k)
  have huqueue := loadProfile_queue (s := s) (ack := ack)
  have hulatches := loadProfile_latches (l := s.lu) (s := s) ack .refl
  obtain ⟨p, hp⟩ : ∃ p, p = s.eeprom.profile := ⟨_, rfl⟩
  obtain ⟨d, hd⟩ : ∃ d, d = builtinProfile := ⟨_, rfl⟩
  rw [← hp] at hgood ⊢
  rw [← hd] at hfault ⊢
  generalize loadProfile ack s = u at *
  have hblocks := blocksLoaded_loaded u
  generalize blocksLoaded u = b at *
  have hkick := kick_eq b
  have hevent := kick_event b
  have hawake := fun h => kick_awake (s := b) h
  generalize kick b = t at *
  have hbpl : b.pl = u.pl := by rw [hblocks.frame]
  have hpl : t.pl = u.pl := by
    rw [hkick]
    exact hbpl
  have hwm : t.wm = u.wm := congrArg PL.wm hpl
  have hzone (z : Fin 12) : t.zone z = b.zone z := by
    rw [hkick]
    rfl
  have hhandler (h : Fin 2) : t.handler h = b.handler h := by
    rw [hkick]
    rfl
  have hrenewal (h : Fin 2) : t.renewal h = b.renewal h := by
    rw [hkick]
    rfl
  have hsu : t.su = b.su := by
    rw [hkick]
    rfl
  have hchannel (c : Fin 16) : t.channel c = b.channel c := by
    rw [hkick]
    rfl
  have hrecord (k : EventKind) : t.lu.event k = { u.lu.event k with enable := (u.wm.word 29).getLsbD k.index } := by
    rw [hevent, hblocks.lu]
    exact LU.takeReportDefaults_event _ _ k
  have husu : u.su = s.su := by rw [huframe]
  refine ⟨t, hexec, ?_, fun hnone => ?_, fun cause hcause => ?_, fun hack => ?_, fun k => ?_, fun z => ?_, fun h => ?_, fun k hk => ?_,
    fun hop hoff hqueue hafter hanswer hreject => ?_, fun hpass => ?_, fun q => ?_, fun c => ?_⟩
  · rw [hpl, hwm]
    have hzr := congrArg State.zr hkick
    have hhs := congrArg State.hs hkick
    have hrs := congrArg State.rs hkick
    have hou := congrArg State.ou hkick
    dsimp only [State.setLu] at hzr hhs hrs hou
    rw [hzr, hhs, hrs, hsu, hou]
    have hbframe := hblocks.frame
    generalize b.lu = l at hbframe
    generalize b.zr.zones = a0 at hbframe ⊢
    generalize b.hs.handlers = a1 at hbframe ⊢
    generalize b.rs.renewals = a2 at hbframe ⊢
    generalize b.su = a3 at hbframe ⊢
    generalize b.ou.channels = a4 at hbframe ⊢
    rw [hkick, hbframe]
    generalize u.wm = w at huframe ⊢
    generalize u.pl.defaultFlag = f at huframe ⊢
    generalize u.lu = l' at huframe
    rw [huframe]
    rfl
  · have hu := hgood hnone
    rw [hwm, hpl, hu]
    exact ⟨rfl, rfl⟩
  · have hu := hfault cause hcause
    have hvalue : clampInt (-32768) 32767 (cause : Int) = cause := by
      have hle := loadFault_cause hcause
      unfold clampInt
      omega
    have hlatched : u.lu.event .profileFault = { s.lu.event .profileFault with latched := true, subject := 0, value := (cause : Int) } := by
      rw [hu, latch_event, hvalue]
      rfl
    rw [hrecord, hlatched, hwm, hpl, hu]
    exact ⟨rfl, rfl, rfl, rfl, rfl⟩
  · rw [hack]
    rfl
  · rw [hrecord, hwm]
  · rw [hzone, hwm]
    exact hblocks.zone z
  · rw [hhandler, hrenewal, hwm]
    exact ⟨(hblocks.handler h).1, (hblocks.handler h).2, hblocks.renewal h⟩
  · rw [hrecord, huevent hk, hwm]
  · have hbsc : b.sc.opState ≠ .parked := by
      rw [hblocks.frame, huframe]
      rw [hop]
      decide
    have hlu : t.lu = b.lu.takeNext := by rw [hawake hbsc, State.setLu_lu]
    obtain ⟨-, -, -, -, -, hanswer', hreject', htransmitter', hafter'⟩ := hulatches.frame
    have hdefaults := LU.takeReportDefaults_frame u.wm.reportDefaults u.lu
    have hbqueue := LU.takeReportDefaults_queue u.wm.reportDefaults u.lu ((huqueue hoff).trans hqueue)
    rw [← hblocks.lu] at hdefaults hbqueue
    have hbtransmitter : b.lu.transmitter = s.lu.transmitter := by
      rw [hdefaults]
      exact htransmitter'
    have hdue : (EventKind.all.filter fun k => (t.lu.event k).latched && (t.wm.word 29).getLsbD k.index) =
        EventKind.all.filter fun k => (u.lu.event k).latched && u.wm.reportDefaults.getLsbD k.index := by
      refine List.filter_congr fun k _ => ?_
      rw [hrecord, hwm]
      rfl
    have hsends := LU.takeNext_loaded (by rw [hdefaults]; exact hafter'.trans hafter) (by rw [hdefaults]; exact hanswer'.trans hanswer)
      (by rw [hdefaults]; exact hreject'.trans hreject) hbqueue
    rw [← hdue, ← hlu, hbtransmitter] at hsends
    obtain ⟨hbusy, hnothing, hnotice⟩ := hsends
    refine ⟨hbusy, hnothing, fun hidle k rest hsome => ?_⟩
    obtain ⟨hleft, hsent⟩ := hnotice hidle k rest hsome
    refine ⟨hleft, hsent.trans ?_⟩
    rw [noticeFrame, ← hevent]
    rfl
  · rw [hsu, hwm]
    exact hblocks.pass (by rw [husu]; exact hpass)
  · have hpoint : u.point q = s.point q := point_congr (congrArg SU.points husu) q
    have hbank (i : Fin 3) : u.bank i = s.bank i := by rw [State.bank, husu, State.bank]
    have hslot (i : Fin 8) : u.slot i = s.slot i := by
      rw [huframe]
      rfl
    have hsource := sourceFailed_iff (s := u) q
    simp only [hbank, hslot] at hsource
    rw [point_congr (congrArg SU.points hsu), hblocks.point, firstPointState_eq, hpoint, hwm]
    simp only [hsource]
  · have hbound := binds_eq u.wm c (u.wm.channelRole c)
    have huchannel : u.channel c = s.channel c := by
      rw [huframe]
      rfl
    rw [hchannel, hblocks.channel, huchannel, hbound, hwm]
    cases u.wm.channelRole c <;> rfl

end Sys2Proof.Machine

/-! ## A step with no command waiting (logs 2, 4 to 7, 9) -/

namespace Sys2Proof.Machine

variable {s s' : State}

/-! ### Expiries -/

theorem mem_expiry {b : Bool} {c i : Instr} : c ∈ expiry b i ↔ b = true ∧ c = i := by
  unfold expiry
  cases b <;> simp

theorem mem_flatMap_expiry {n : Nat} {b : Fin n → Bool} {f : Fin n → Instr} {c : Instr} :
    c ∈ (List.finRange n).flatMap (fun i => expiry (b i) (f i)) ↔ ∃ i, b i = true ∧ c = f i := by
  simp only [List.mem_flatMap, List.mem_finRange, true_and, mem_expiry]

theorem runsOut_iff (t : Timer) : runsOut t = true ↔ ∃ n, t = some n ∧ n ≤ 1 := by
  unfold runsOut
  cases t with
  | none => simp
  | some n => simp

/-- The commands a tick brings, each with its condition. -/
theorem mem_expiries {c : Instr} : c ∈ expiries s s' ↔
    (runsOut s.lu.gap = true ∧ c = .gapTimeout) ∨ (runsOut s.ml.response = true ∧ c = .moduleResponseTimeout) ∨
    (runsOut s.sc.wakeDebounce = true ∧ c = .wakeDebounceExpiry) ∨
    (∃ d, runsOut (s.door d).debounce = true ∧ c = .doorDebounceExpiry d) ∨ (∃ d, runsOut (s.door d).timer = true ∧ c = .doorTimerExpiry d) ∨
    (∃ h, ((s.handler h).rest == 1) = true ∧ c = .restTimerExpiry h) ∨ (∃ h, ((s.handler h).dwell == 1) = true ∧ c = .dwellTimerExpiry h) ∨
    (runsOut s.pa.timer = true ∧ c = .lifetimeExpiry) ∨
    (∃ h, (s.renewing h && decide ((s.renewal h).timer ≤ 1)) = true ∧ c = .renewalComplete h) ∨
    (∃ h, (!s.intervalPaused h && decide ((s.renewal h).interval ≤ 1)) = true ∧ c = .intervalExpiry h) ∨
    (runsOut s.hs.accountTimer = true ∧ c = .accountTimerExpiry) ∨ (runsOut s.su.gapTimer = true ∧ c = .scanGapExpiry) ∨
    (runsOut s.su.trimTimer = true ∧ c = .trimIntervalExpiry) ∨ (∃ p, (s.tenthEnds && s'.stale p) = true ∧ c = .pointStale p) ∨
    (∃ i, runsOut (s.slot i).probeTimer = true ∧ c = .probeTimerExpiry i) ∨ (∃ i, runsOut (s.slot i).readTimer = true ∧ c = .readTimerExpiry i) ∨
    (∃ k, (s.pl.loadState == .loaded && (s.channel k).wraps) = true ∧ c = .periodEnd k) ∨
    (runsOut s.zr.cycleTimer = true ∧ c = .regulationTimerExpiry) := by
  simp only [expiries, List.mem_append, mem_expiry, mem_flatMap_expiry, or_assoc]

section
variable (s s')

theorem mem_expiries_regulation : .regulationTimerExpiry ∈ expiries s s' ↔ runsOut s.zr.cycleTimer = true := by
  rw [mem_expiries]
  simp

theorem mem_expiries_account : .accountTimerExpiry ∈ expiries s s' ↔ runsOut s.hs.accountTimer = true := by
  rw [mem_expiries]
  simp

theorem mem_expiries_lifetime : .lifetimeExpiry ∈ expiries s s' ↔ runsOut s.pa.timer = true := by
  rw [mem_expiries]
  simp

theorem mem_expiries_trim : .trimIntervalExpiry ∈ expiries s s' ↔ runsOut s.su.trimTimer = true := by
  rw [mem_expiries]
  simp

theorem mem_expiries_scanGap : .scanGapExpiry ∈ expiries s s' ↔ runsOut s.su.gapTimer = true := by
  rw [mem_expiries]
  simp

theorem mem_expiries_response : .moduleResponseTimeout ∈ expiries s s' ↔ runsOut s.ml.response = true := by
  rw [mem_expiries]
  simp

theorem mem_expiries_wake : .wakeDebounceExpiry ∈ expiries s s' ↔ runsOut s.sc.wakeDebounce = true := by
  rw [mem_expiries]
  simp

theorem mem_expiries_gap : .gapTimeout ∈ expiries s s' ↔ runsOut s.lu.gap = true := by
  rw [mem_expiries]
  simp

theorem mem_expiries_rest (h : Fin 2) : .restTimerExpiry h ∈ expiries s s' ↔ (s.handler h).rest = 1 := by
  rw [mem_expiries]
  simp

theorem mem_expiries_dwell (h : Fin 2) : .dwellTimerExpiry h ∈ expiries s s' ↔ (s.handler h).dwell = 1 := by
  rw [mem_expiries]
  simp

theorem mem_expiries_renewal (h : Fin 2) : .renewalComplete h ∈ expiries s s' ↔ (s.renewal h).state ≠ .idle ∧ (s.renewal h).timer ≤ 1 := by
  rw [mem_expiries, ← renewing_iff]
  simp

theorem intervalPaused_iff (h : Fin 2) : s.intervalPaused h = true ↔ s.sc.opState ≠ .run ∨ (s.handler h).mode = .idle := by
  simp [State.intervalPaused]

theorem mem_expiries_interval (h : Fin 2) : .intervalExpiry h ∈ expiries s s' ↔
    s.sc.opState = .run ∧ (s.handler h).mode ≠ .idle ∧ (s.renewal h).interval ≤ 1 := by
  rw [mem_expiries]
  simp [State.intervalPaused, and_assoc]

theorem mem_expiries_doorDebounce (d : Fin 4) : .doorDebounceExpiry d ∈ expiries s s' ↔ runsOut (s.door d).debounce = true := by
  rw [mem_expiries]
  simp

theorem mem_expiries_doorTimer (d : Fin 4) : .doorTimerExpiry d ∈ expiries s s' ↔ runsOut (s.door d).timer = true := by
  rw [mem_expiries]
  simp

theorem mem_expiries_probe (i : Fin 8) : .probeTimerExpiry i ∈ expiries s s' ↔ runsOut (s.slot i).probeTimer = true := by
  rw [mem_expiries]
  simp

theorem mem_expiries_read (i : Fin 8) : .readTimerExpiry i ∈ expiries s s' ↔ runsOut (s.slot i).readTimer = true := by
  rw [mem_expiries]
  simp

theorem mem_expiries_stale (p : Fin 32) : .pointStale p ∈ expiries s s' ↔ 10000 ≤ s.tenth + 1 ∧ s'.stale p = true := by
  rw [mem_expiries]
  simp [State.tenthEnds]

theorem mem_expiries_period (c : Fin 16) : .periodEnd c ∈ expiries s s' ↔ s.pl.loadState = .loaded ∧ (s.channel c).wraps = true := by
  rw [mem_expiries]
  simp
end

/-! ### The timers one tick on -/

/-- The state with every timer and counter one tick on, the point ages not yet. -/
def State.timersTicked (s : State) : State := { s with
    zr := { s.zr with cycleTimer := s.zr.cycleTimer.map (· - 1) }
    hs := { s.hs with
      accountTimer := s.hs.accountTimer.map (· - 1)
      handlers := s.hs.handlers.map fun x => { x with rest := x.rest - 1, dwell := x.dwell - 1 } }
    pa := { s.pa with timer := s.pa.timer.map (· - 1) }
    rs := { s.rs with renewals := Vector.ofFn fun h =>
      { s.renewal h with
        interval := if s.intervalPaused h then (s.renewal h).interval else (s.renewal h).interval - 1
        timer := (s.renewal h).timer - 1 } }
    su := { s.su with
      trimTimer := s.su.trimTimer.map (· - 1)
      gapTimer := s.su.gapTimer.map (· - 1)
      doors := s.su.doors.map fun x => { x with debounce := x.debounce.map (· - 1), timer := x.timer.map (· - 1) } }
    ou := if s.pl.loadState = .loaded then { s.ou with channels := s.ou.channels.map Channel.tick } else s.ou
    ml := { s.ml with
      response := s.ml.response.map (· - 1)
      slots := s.ml.slots.map fun x => { x with probeTimer := x.probeTimer.map (· - 1), readTimer := x.readTimer.map (· - 1) } }
    sc := { s.sc with wakeDebounce := s.sc.wakeDebounce.map (· - 1) }
    lu := { s.lu with gap := s.lu.gap.map (· - 1) } }

theorem tickTimers_eq (s : State) : tickTimers s = tickPoints s.timersTicked := by
  unfold tickTimers State.timersTicked
  dsimp only
  congr 1
  split <;> rfl

/-- The points after a tick. -/
def State.pointsTicked (s : State) : Vector Point 32 :=
  if s.tenth + 1 < 10000 then s.su.points else s.su.points.map Point.older

theorem tickPoints_eq (s : State) : tickPoints s = { s with
    su := { s.su with points := s.pointsTicked }, tenth := if s.tenth + 1 < 10000 then s.tenth + 1 else 0 } := by
  unfold tickPoints State.pointsTicked State.tenthEnds
  by_cases h : s.tenth + 1 < 10000
  · rw [if_pos h, if_pos h, if_neg (by simp only [decide_eq_true_eq]; omega)]
    rfl
  · rw [if_neg h, if_neg h, if_pos (by simp only [decide_eq_true_eq]; omega)]
    rfl

/-- A tick changes the timers, the point ages and the channel counters, with the prescaler of the ages. -/
theorem tickTimers_frame (s : State) : tickTimers s = { s with
    zr := { s.zr with cycleTimer := s.zr.cycleTimer.map (· - 1) }
    hs := { s.hs with accountTimer := s.hs.accountTimer.map (· - 1), handlers := s.timersTicked.hs.handlers }
    pa := { s.pa with timer := s.pa.timer.map (· - 1) }
    rs := { s.rs with renewals := s.timersTicked.rs.renewals }
    su := { s.su with
      trimTimer := s.su.trimTimer.map (· - 1), gapTimer := s.su.gapTimer.map (· - 1), doors := s.timersTicked.su.doors
      points := s.timersTicked.pointsTicked }
    ou := { s.ou with channels := s.timersTicked.ou.channels }
    ml := { s.ml with response := s.ml.response.map (· - 1), slots := s.timersTicked.ml.slots }
    sc := { s.sc with wakeDebounce := s.sc.wakeDebounce.map (· - 1) }
    lu := { s.lu with gap := s.lu.gap.map (· - 1) }
    tenth := if s.tenth + 1 < 10000 then s.tenth + 1 else 0 } := by
  exact (tickTimers_eq s).trans ((tickPoints_eq _).trans
    (State.eq_of_blocks rfl rfl rfl rfl rfl rfl rfl rfl rfl rfl rfl rfl rfl rfl rfl rfl))

theorem timersTicked_handler (s : State) (h : Fin 2) : s.timersTicked.hs.handlers[h] =
    { s.handler h with rest := (s.handler h).rest - 1, dwell := (s.handler h).dwell - 1 } := by
  simp [State.timersTicked, State.handler]

theorem timersTicked_renewal (s : State) (h : Fin 2) : s.timersTicked.rs.renewals[h] = { s.renewal h with
    timer := (s.renewal h).timer - 1
    interval := if s.sc.opState ≠ .run ∨ (s.handler h).mode = .idle then (s.renewal h).interval else (s.renewal h).interval - 1 } := by
  simp [State.timersTicked, intervalPaused_iff]

theorem timersTicked_door (s : State) (d : Fin 4) : s.timersTicked.su.doors[d] =
    { s.door d with debounce := (s.door d).debounce.map (· - 1), timer := (s.door d).timer.map (· - 1) } := by
  simp [State.timersTicked, State.door]

theorem timersTicked_slot (s : State) (i : Fin 8) : s.timersTicked.ml.slots[i] =
    { s.slot i with probeTimer := (s.slot i).probeTimer.map (· - 1), readTimer := (s.slot i).readTimer.map (· - 1) } := by
  simp [State.timersTicked, State.slot]

theorem pointsTicked_point (s : State) (p : Fin 32) : s.timersTicked.pointsTicked[p] =
    { s.point p with age := if s.tenth + 1 < 10000 then (s.point p).age else min 6000 ((s.point p).age + 1) } := by
  have hpoints : s.timersTicked.su.points = s.su.points := rfl
  have htenth : s.timersTicked.tenth = s.tenth := rfl
  unfold State.pointsTicked
  rw [hpoints, htenth]
  by_cases h : s.tenth + 1 < 10000
  · rw [if_pos h, if_pos h]
    rfl
  · rw [if_neg h, if_neg h]
    simp [State.point, Point.older]

theorem timersTicked_channel (s : State) (c : Fin 16) : s.timersTicked.ou.channels[c] =
    if s.pl.loadState = .loaded then (s.channel c).tick else s.channel c := by
  by_cases h : s.pl.loadState = .loaded
  · simp [State.timersTicked, State.channel, h]
  · simp [State.timersTicked, State.channel, h]

theorem Channel.advances_iff (x : Channel) : x.advances = true ↔ x.step.ticks ≤ x.prescale + 1 := by
  unfold Channel.advances
  rw [decide_eq_true_eq]

theorem Channel.wraps_iff (x : Channel) : x.wraps = true ↔ x.step.ticks ≤ x.prescale + 1 ∧ x.modulus ≤ x.counter + 1 := by
  unfold Channel.wraps
  rw [Bool.and_eq_true, Channel.advances_iff, decide_eq_true_eq]

theorem Channel.tick_eq (x : Channel) : x.tick = if x.step.ticks ≤ x.prescale + 1 ∧ x.modulus ≤ x.counter + 1 then x
    else if x.step.ticks ≤ x.prescale + 1 then { x with counter := x.counter + 1, prescale := 0 }
    else { x with prescale := x.prescale + 1 } := by
  simp only [Channel.tick, Channel.wraps_iff, Channel.advances_iff]

/-! ### The hand-offs -/

theorem step_idle (hp : s.pending = []) : step s = .next (idle s) := by
  unfold step
  rw [hp]

theorem step_handOff {c : Instr} (hp : s.pending = []) (h : s.handOff = some c) : step s = .next { s with pending := [c] } := by
  rw [step_idle hp]
  unfold idle
  rw [h]
  rfl

theorem step_tick (hp : s.pending = []) (h : s.handOff = none) :
    step s = .next { tickTimers s with pending := expiries s (tickTimers s) } := by
  rw [step_idle hp]
  unfold idle
  rw [h]
  rfl

theorem handOff_quiet (h : s.lu.after = .none ∨ ¬ (s.lu.transmitter = .idle ∧ s.lu.answer = none)) : s.handOff =
    if s.bus.demandSets ≠ [] then some .demandSetReceived
    else if s.bus.requestSets ≠ [] then some .requestSetReceived
    else if s.bus.allotHS ≠ [] then some .allotmentAtHs
    else if s.bus.allotZR ≠ [] then some .allotmentAtZr
    else if s.bus.ouValues ≠ [] then some .ouValueReceived
    else none := by
  unfold State.handOff
  rw [if_neg, if_neg]
  · rintro ⟨h1, h2, h3⟩
    rw [h3] at h
    simp [h1, h2] at h
  · rintro ⟨h1, h2, h3⟩
    rw [h3] at h
    simp [h1, h2] at h

/-- Every command of a tick is an expiry. -/
theorem expiry_of_mem_expiries {c : Instr} (hc : c ∈ expiries s s') :
    (∃ i, c = .periodEnd i) ∨ (∃ h, c = .restTimerExpiry h ∨ c = .dwellTimerExpiry h ∨ c = .renewalComplete h ∨ c = .intervalExpiry h) ∨
    (∃ d, c = .doorDebounceExpiry d ∨ c = .doorTimerExpiry d) ∨ (∃ i, c = .probeTimerExpiry i ∨ c = .readTimerExpiry i) ∨
    (∃ p, c = .pointStale p) ∨ c ∈ [Instr.regulationTimerExpiry, .accountTimerExpiry, .lifetimeExpiry, .trimIntervalExpiry,
      .scanGapExpiry, .moduleResponseTimeout, .wakeDebounceExpiry, .gapTimeout] := by
  rw [mem_expiries] at hc
  rcases hc with ⟨-, rfl⟩ | ⟨-, rfl⟩ | ⟨-, rfl⟩ | ⟨d, -, rfl⟩ | ⟨d, -, rfl⟩ | ⟨h, -, rfl⟩ | ⟨h, -, rfl⟩ | ⟨-, rfl⟩ | ⟨h, -, rfl⟩ |
    ⟨h, -, rfl⟩ | ⟨-, rfl⟩ | ⟨-, rfl⟩ | ⟨-, rfl⟩ | ⟨p, -, rfl⟩ | ⟨i, -, rfl⟩ | ⟨i, -, rfl⟩ | ⟨k, -, rfl⟩ | ⟨-, rfl⟩ <;> simp

theorem stale_iff (s : State) (p : Fin 32) : s.stale p = true ↔ (s.point p).state = .valid ∧ s.wm.staleLimit p < (s.point p).age := by
  unfold State.stale
  rw [Bool.and_eq_true, beq_iff_eq, decide_eq_true_eq]

/-- Settles O2: a hand-off in the order of the blocks, else a tick with its expiries. -/
theorem idleStepHandsOnOrTicks : Obligations.IdleStepHandsOnOrTicks := by
  intro s hp
  intro sent quiet next ending
  refine ⟨?_, ?_, ?_, ?_, ?_, ?_, ?_, ?_⟩
  · intro h1 h2
    refine step_handOff hp ?_
    unfold State.handOff
    rw [if_pos ⟨h1.1, h1.2, h2⟩]
  · intro h1 h2
    refine step_handOff hp ?_
    unfold State.handOff
    rw [if_neg (by simp [h2]), if_pos ⟨h1.1, h1.2, h2⟩]
  · intro hq h1
    exact step_handOff hp (by rw [handOff_quiet hq, if_pos h1])
  · intro hq h1 h2
    exact step_handOff hp (by simp [handOff_quiet hq, h1, h2])
  · intro hq h1 h2 h3
    exact step_handOff hp (by simp [handOff_quiet hq, h1, h2, h3])
  · intro hq h1 h2 h3 h4
    exact step_handOff hp (by simp [handOff_quiet hq, h1, h2, h3, h4])
  · intro hq h1 h2 h3 h4 h5
    exact step_handOff hp (by simp [handOff_quiet hq, h1, h2, h3, h4, h5])
  intro hq hbus
  have hframe := tickTimers_frame s
  obtain ⟨u, hu⟩ : ∃ u, u = s.timersTicked := ⟨_, rfl⟩
  have hH (h : Fin 2) := timersTicked_handler s h
  have hR (h : Fin 2) := timersTicked_renewal s h
  have hD (d : Fin 4) := timersTicked_door s d
  have hP (p : Fin 32) := pointsTicked_point s p
  have hS (i : Fin 8) := timersTicked_slot s i
  have hC (c : Fin 16) := timersTicked_channel s c
  rw [← hu] at hframe hH hR hD hP hS hC
  clear hu
  obtain ⟨v, hv⟩ : ∃ v, v = tickTimers s := ⟨_, rfl⟩
  have hpoint (p : Fin 32) : v.point p = u.pointsTicked[p] := by rw [hv, hframe]; rfl
  have hwm : v.wm = s.wm := by rw [hv, hframe]; rfl
  obtain ⟨e, he⟩ : ∃ e, e = expiries s v := ⟨_, rfl⟩
  refine ⟨{ v with pending := e }, ?_, ?_, ?_, ?_, ?_, ?_, ?_, ?_, ?_, ?_, ?_, ?_, ?_, ?_, ?_, ?_, ?_, ?_, ?_, ?_, ?_⟩
  · rw [he, hv]
    exact step_tick hp (by simp [handOff_quiet hq, hbus])
  · rw [hv, hframe]
  · intro h
    rw [← hH h, hv, hframe]
    rfl
  · intro h
    rw [← hR h, hv, hframe]
    rfl
  · intro d
    rw [← hD d, hv, hframe]
    rfl
  · intro p
    rw [← hP p, ← hpoint p]
    rfl
  · intro i
    rw [← hS i, hv, hframe]
    rfl
  · intro c x whole
    have hwhole : whole ↔ x.step.ticks ≤ x.prescale + 1 := by
      dsimp only [whole]
      cases x.step <;> rfl
    have hchannel : State.channel { v with pending := e } c = u.ou.channels[c] := by
      rw [hv, hframe]
      rfl
    refine ⟨?_, ?_⟩
    · have htick := Channel.tick_eq x
      simp only [← hwhole] at htick
      rw [hchannel, hC c]
      by_cases hl : s.pl.loadState = .loaded
      · rw [if_pos hl]
        simp only [hl, ne_eq, not_true_eq_false, false_or]
        exact htick
      · rw [if_neg hl, if_pos (Or.inl hl)]
    · show _ ∈ e ↔ _
      rw [he, mem_expiries_period, Channel.wraps_iff, hwhole]
  · show _ ∈ e ↔ _
    rw [he, mem_expiries_regulation, runsOut_iff]
  · show _ ∈ e ↔ _
    rw [he, mem_expiries_account, runsOut_iff]
  · show _ ∈ e ↔ _
    rw [he, mem_expiries_lifetime, runsOut_iff]
  · show _ ∈ e ↔ _
    rw [he, mem_expiries_trim, runsOut_iff]
  · show _ ∈ e ↔ _
    rw [he, mem_expiries_scanGap, runsOut_iff]
  · show _ ∈ e ↔ _
    rw [he, mem_expiries_response, runsOut_iff]
  · show _ ∈ e ↔ _
    rw [he, mem_expiries_wake, runsOut_iff]
  · show _ ∈ e ↔ _
    rw [he, mem_expiries_gap, runsOut_iff]
  · intro h
    refine ⟨?_, ?_, ?_, ?_⟩
    · show _ ∈ e ↔ _
      rw [he, mem_expiries_rest]
    · show _ ∈ e ↔ _
      rw [he, mem_expiries_dwell]
    · show _ ∈ e ↔ _
      rw [he, mem_expiries_renewal]
    · show _ ∈ e ↔ _
      rw [he, mem_expiries_interval]
  · intro d
    refine ⟨?_, ?_⟩
    · show _ ∈ e ↔ _
      rw [he, mem_expiries_doorDebounce, runsOut_iff]
    · show _ ∈ e ↔ _
      rw [he, mem_expiries_doorTimer, runsOut_iff]
  · intro i
    refine ⟨?_, ?_⟩
    · show _ ∈ e ↔ _
      rw [he, mem_expiries_probe, runsOut_iff]
    · show _ ∈ e ↔ _
      rw [he, mem_expiries_read, runsOut_iff]
  · intro p
    have hstate : (v.point p).state = (s.point p).state := by rw [hpoint p, hP p]
    have hstale : Instr.pointStale p ∈ e ↔ 10000 ≤ s.tenth + 1 ∧ (s.point p).state = .valid ∧ s.wm.staleLimit p < (v.point p).age := by
      rw [he, mem_expiries_stale, stale_iff, hstate, hwm]
    refine hstale.trans ?_
    unfold WorkingMemory.staleLimit
    clear hstale he hv hframe
    cases s.wm.pointSource p <;> rfl
  · intro c hc
    exact expiry_of_mem_expiries (show c ∈ expiries s v by rw [← he]; exact hc)

end Sys2Proof.Machine

/-! ## Stage 4 of the handlers (R34, R36 to R40) -/

namespace Sys2Proof.Machine

variable {s t : State} {h k : Fin 2}

/-! ### A handler's record -/

/-- A handler after step 1 of stage 4: an admitted defrost entered, or a running one aborted (R34, R36). -/
def Handler.fourthMode (w : WorkingMemory) (a : AllotHandler) (renewing : Bool) (x : Handler) : Handler :=
  if a.outcome = .admitted ∧ x.mode = .heat ∧ x.driveAvailable = true ∧ x.resting = false ∧ renewing = false then
    { x with mode := .defrost, defrostTimer := 0 }
  else if a.outcome = .aborted ∧ x.mode = .defrost then
    { x with lastMode := .heat, dwell := 100000 * w.reversalDwell, q := 0, comp := .stopped, rest := 100000 * w.restTime, mode := .vent, lastEnd := .aborted }
  else x

/-- A handler after steps 1 to 3 of stage 4. -/
def Handler.fourth (w : WorkingMemory) (a : AllotHandler) (renewing : Bool) (x : Handler) : Handler :=
  (x.fourthMode w a renewing).applyCommand w.restTime (commandOf a (x.fourthMode w a renewing))

/-- A handler with its airflow values computed (R38, R40). -/
def Handler.aired (air : AirSettings) (demands : List Int) (renewing : Bool) (hold : AirHold) (x : Handler) : Handler :=
  { x with
    baseBlower := baseBlowerOf air.bMin x.mode demands
    blower := if renewing then max (baseBlowerOf air.bMin x.mode demands) air.renewalBlower else baseBlowerOf air.bMin x.mode demands
    fresh := if x.mode = .idle then 0 else if renewing then 1000 else if hold ≠ .none then 0 else air.fMin }

/-- A damper value by the handler's mode and the airflow settings (R39). -/
def DemandZone.damper (air : AirSettings) (m : Mode) (x : DemandZone) : Nat :=
  if x.state = .off then 0
  else if (m = .heat ∧ 0 < x.demand) ∨ (m = .cool ∧ x.demand < 0) then air.dMin + (1000 - air.dMin) * x.demand.natAbs / 1000
  else air.dMin

/-- A timer of the handler starts in its turn, so that the settings are read (R22). -/
def Handler.reads (w : WorkingMemory) (a : AllotHandler) (renewing : Bool) (x : Handler) : Prop :=
  (a.outcome = .aborted ∧ x.mode = .defrost) ∨ (x.comp = .running ∧ (x.fourth w a renewing).q = 0)

section
variable {x : Handler} {w : WorkingMemory} {a : AllotHandler} {b : Bool} {n q : Nat}

theorem Handler.applyCommand_zero : x.applyCommand n 0 = if x.comp = .running then { x with q := 0, comp := .stopped, rest := 100000 * n }
    else { x with q := 0 } := by
  rw [Handler.applyCommand, if_pos rfl, Handler.stop, sec_eq]

theorem Handler.applyCommand_pos (hq : q ≠ 0) : x.applyCommand n q = { x with q := q, comp := .running } := if_neg hq

theorem Handler.applyCommand_q : (x.applyCommand n q).q = q := by
  by_cases hq : q = 0
  · rw [hq, Handler.applyCommand_zero]
    split <;> rfl
  · rw [Handler.applyCommand_pos hq]

theorem Handler.applyCommand_comp : (x.applyCommand n q).comp = if q = 0 then .stopped else .running := by
  by_cases hq : q = 0
  · rw [hq, Handler.applyCommand_zero, if_pos rfl]
    cases hcomp : x.comp <;> simp [hcomp]
  · rw [Handler.applyCommand_pos hq, if_neg hq]

/-- A command changes Q, the compressor and the rest timer alone. -/
theorem Handler.applyCommand_eq : x.applyCommand n q = { x with
    q := q, comp := (x.applyCommand n q).comp, rest := (x.applyCommand n q).rest } := by
  by_cases hq : q = 0
  · rw [hq, Handler.applyCommand_zero]
    split <;> rfl
  · rw [Handler.applyCommand_pos hq]

theorem Handler.fourth_mode : (x.fourth w a b).mode = (x.fourthMode w a b).mode := by
  rw [Handler.fourth, Handler.applyCommand_eq]

theorem Handler.fourth_q : (x.fourth w a b).q = commandOf a (x.fourthMode w a b) := Handler.applyCommand_q

theorem Handler.fourth_comp : (x.fourth w a b).comp = if (x.fourth w a b).q = 0 then .stopped else .running := by
  rw [Handler.fourth_q]
  exact Handler.applyCommand_comp

theorem Handler.fourthMode_driveSlot : (x.fourthMode w a b).driveSlot = x.driveSlot := by
  unfold Handler.fourthMode
  split
  · rfl
  · split <;> rfl

theorem Handler.fourth_driveSlot : (x.fourth w a b).driveSlot = x.driveSlot := by
  rw [Handler.fourth, Handler.applyCommand_eq]
  exact Handler.fourthMode_driveSlot

theorem Handler.fourth_still (hm : (x.fourth w a b).mode = .idle ∨ (x.fourth w a b).mode = .vent) : (x.fourth w a b).q = 0 := by
  rw [Handler.fourth_mode] at hm
  rw [Handler.fourth_q, commandOf, if_pos]
  exact .inr (hm.elim .inl fun hv => .inr (.inl hv))
end

/-! ### The stages of a turn -/

theorem mayEnterDefrost_iff : s.mayEnterDefrost h = true ↔ (s.handler h).mode = .heat ∧ (s.handler h).driveAvailable = true ∧
    (s.handler h).resting = false ∧ s.renewing h = false := by
  simp [State.mayEnterDefrost, Handler.restClear_eq, and_assoc]

/-- What the turn of a handler may touch of the HS. -/
def HS.Turned (h : Fin 2) (s t : State) : Prop :=
  t.hs = { s.hs with handlers := t.hs.handlers, air := t.hs.air } ∧ ∀ k, k ≠ h → t.handler k = s.handler k

theorem State.Turn.turned (ht : State.Turn h s t) : HS.Turned h s t := by
  refine ⟨?_, ht.handler⟩
  rw [ht.frame]

theorem HS.Turned.trans {u : State} (ht : HS.Turned h s t) (hu : HS.Turned h t u) : HS.Turned h s u := by
  refine ⟨?_, fun k hk => (hu.2 k hk).trans (ht.2 k hk)⟩
  rw [hu.1, ht.1]

theorem stage4Mode_turn (a : AllotHandler) (h : Fin 2) : State.Turn h s (stage4Mode a h s) := by
  unfold stage4Mode
  split
  · exact (takeMode_turn h _).trans ((putHandler_turn h _).trans (latch_turn h _ _ _))
  · split
    · exact (putHandler_turn h _).trans ((takeMode_turn h _).trans ((endDefrost_turn h _).trans (readAir_turn h)))
    · exact .refl

theorem enterDefrost_handler (h : Fin 2) (s : State) :
    (enterDefrost h s).handler h = { s.handler h with mode := .defrost, defrostTimer := 0 } := by
  simp [enterDefrost]

theorem abortDefrost_handler (hm : (s.handler h).mode = .defrost) : (abortDefrost h s).handler h = { s.handler h with
    lastMode := .heat, dwell := 100000 * s.wm.reversalDwell, q := 0, comp := .stopped, rest := 100000 * s.wm.restTime
    mode := .vent, lastEnd := .aborted } := by
  have hleave : (s.handler h).leaveMode s.wm.reversalDwell = { s.handler h with lastMode := .heat, dwell := sec s.wm.reversalDwell } := by
    simp only [Handler.leaveMode, hm]
  rw [abortDefrost, hleave, readAir_handler, endDefrost_handler, takeMode_handler, State.putHandler_handler_same, sec_eq, sec_eq]

theorem stage4Mode_handler (a : AllotHandler) (h : Fin 2) (s : State) :
    (stage4Mode a h s).handler h = (s.handler h).fourthMode s.wm a (s.renewing h) := by
  unfold stage4Mode Handler.fourthMode
  simp only [mayEnterDefrost_iff]
  split
  · exact enterDefrost_handler h s
  · split
    · next hab => exact abortDefrost_handler hab.2
    · rfl

theorem stage4Mode_air (a : AllotHandler) (h : Fin 2) (s : State) : (stage4Mode a h s).hs.air =
    if a.outcome = .aborted ∧ (s.handler h).mode = .defrost then s.wm.airSettings else s.hs.air := by
  unfold stage4Mode
  split
  · next hin =>
    have hno : ¬ (a.outcome = .aborted ∧ (s.handler h).mode = .defrost) := by
      rw [hin.1]
      exact fun hab => by simp at hab
    rw [if_neg hno]
    unfold enterDefrost takeMode
    dsimp only
    split <;> rfl
  · split
    · rw [abortDefrost, readAir_air]
      unfold State.wm
      simp
    · rfl

theorem stage4Command_turn (a : AllotHandler) (h : Fin 2) : State.Turn h s (stage4Command a h s) :=
  (putHandler_turn h _).trans (timerStart_turn h _)

theorem stage4Command_handler (a : AllotHandler) (h : Fin 2) (s : State) : (stage4Command a h s).handler h =
    (s.handler h).applyCommand s.wm.restTime (commandOf a (s.handler h)) := by
  rw [stage4Command, timerStart_handler, State.putHandler_handler_same]

theorem stage4Command_air (a : AllotHandler) (h : Fin 2) (s : State) : (stage4Command a h s).hs.air =
    if commandOf a (s.handler h) = 0 ∧ (s.handler h).comp = .running then s.wm.airSettings else s.hs.air := by
  rw [stage4Command, timerStart_hs]
  simp only [Bool.and_eq_true, beq_iff_eq]
  rfl

theorem stage4Air_turned (h : Fin 2) : State.Turn h s (stage4Air h s) := (putHandler_turn h _).trans (putHandler_turn h _)

theorem stage4Air_air (h : Fin 2) (s : State) : (stage4Air h s).hs.air = s.hs.air := rfl

theorem stage4Air_handler (h : Fin 2) (s : State) : (stage4Air h s).handler h =
    (s.handler h).aired s.hs.air (s.countedDemands h) (s.renewing h) s.rs.airHold := by
  obtain ⟨u, hu⟩ : ∃ u, u = s.putHandler h { s.handler h with
    baseBlower := baseBlowerOf s.hs.air.bMin (s.handler h).mode (s.countedDemands h) } := ⟨_, rfl⟩
  have hhandler : u.handler h = { s.handler h with
      baseBlower := baseBlowerOf s.hs.air.bMin (s.handler h).mode (s.countedDemands h) } := by
    rw [hu, State.putHandler_handler_same]
  have hair : u.hs.air = s.hs.air := by rw [hu]; rfl
  have hrenewing : u.renewing h = s.renewing h := by rw [hu]; rfl
  have hhold : u.rs.airHold = s.rs.airHold := by rw [hu]; rfl
  rw [stage4Air, ← hu]
  dsimp only
  rw [State.putHandler_handler_same, State.blowerValue, State.freshValue, hhandler, hair, hrenewing, hhold]
  rfl

end Sys2Proof.Machine

/-! ## Both handlers' turns at stage 4 (R37, R39) -/

namespace Sys2Proof.Machine

variable {s t : State} {h k : Fin 2}

theorem State.Turn.renewals_kept (ht : State.Turn h s t) (hrs : t.rs = s.rs) : t.wm = s.wm ∧ t.renewing h = s.renewing h ∧
    t.rs.airHold = s.rs.airHold ∧ t.hs.lastDemand = s.hs.lastDemand ∧ t.hs.dampers = s.hs.dampers := by
  refine ⟨ht.wm, ?_, by rw [hrs], ?_, ?_⟩
  · unfold State.renewing State.renewal
    rw [hrs]
  · rw [ht.frame]
  · rw [ht.frame]

/-- What a handler's turn at stage 4 leaves: its record commanded and aired, the settings read where a timer starts, its zones'
dampers, and the events of R34 and R36. -/
structure FourthTurn (a : AllotHandler) (h : Fin 2) (s t : State) : Prop where
  hs : t.hs = { s.hs with handlers := t.hs.handlers, dampers := t.hs.dampers, air := t.hs.air }
  air : ((s.handler h).reads s.wm a (s.renewing h) → t.hs.air = s.wm.airSettings) ∧
    (¬ (s.handler h).reads s.wm a (s.renewing h) → t.hs.air = s.hs.air)
  own : t.handler h = ((s.handler h).fourth s.wm a (s.renewing h)).aired t.hs.air (s.countedDemands h) (s.renewing h) s.rs.airHold
  other : ∀ k, k ≠ h → t.handler k = s.handler k
  undamped : s.hs.lastDemand = none → t.hs.dampers = s.hs.dampers
  dampers : ∀ d, s.hs.lastDemand = some d → ∀ z : Fin 12, t.hs.dampers[z] =
    if (d.zones[z]).handler = h then (d.zones[z]).damper t.hs.air (t.handler h).mode else s.hs.dampers[z]

/-- The airflow settings after the mode and the command of a handler. -/
theorem stage4_air (a : AllotHandler) (h : Fin 2) (s : State) :
    ((s.handler h).reads s.wm a (s.renewing h) → (stage4Command a h (stage4Mode a h s)).hs.air = s.wm.airSettings) ∧
      (¬ (s.handler h).reads s.wm a (s.renewing h) → (stage4Command a h (stage4Mode a h s)).hs.air = s.hs.air) := by
  have hwm := (stage4Mode_turn (s := s) a h).wm
  rw [stage4Command_air, stage4Mode_handler, stage4Mode_air, hwm]
  unfold Handler.reads
  rw [Handler.fourth_q]
  generalize hc : commandOf a ((s.handler h).fourthMode s.wm a (s.renewing h)) = c
  by_cases hab : a.outcome = .aborted ∧ (s.handler h).mode = .defrost
  · rw [if_pos hab, ite_self]
    exact ⟨fun _ => rfl, fun hno => absurd (.inl hab) hno⟩
  · have hcomp : ((s.handler h).fourthMode s.wm a (s.renewing h)).comp = (s.handler h).comp := by
      unfold Handler.fourthMode
      rw [if_neg hab]
      split <;> rfl
    rw [if_neg hab, hcomp]
    refine ⟨fun hreads => ?_, fun hno => ?_⟩
    · rcases hreads with hreads | ⟨hrunning, hzero⟩
      · exact absurd hreads hab
      · exact if_pos ⟨hzero, hrunning⟩
    · exact if_neg fun hstop => hno (.inr ⟨hstop.2, hstop.1⟩)

theorem stage4Handler_fourth (a : Allotment) (h : Fin 2) (s : State) : FourthTurn (a.handlers[h]) h s (stage4Handler a h s) := by
  obtain ⟨hwm, hrenewing, hhold, hdemand, hdampers⟩ := (stage4Mode_turn (s := s) (a.handlers[h]) h).renewals_kept (by simp)
  have hmode := stage4Mode_handler (a.handlers[h]) h s
  have hair := stage4_air (a.handlers[h]) h s
  have hturn := stage4Mode_turn (s := s) (a.handlers[h]) h
  obtain ⟨m, hm⟩ : ∃ m, m = stage4Mode (a.handlers[h]) h s := ⟨_, rfl⟩
  rw [← hm] at hwm hrenewing hhold hdemand hdampers hmode hair hturn
  obtain ⟨hwm', hrenewing', hhold', hdemand', hdampers'⟩ := (stage4Command_turn (s := m) (a.handlers[h]) h).renewals_kept (by simp)
  have hcommand := stage4Command_handler (a.handlers[h]) h m
  have hturn' := hturn.trans (stage4Command_turn (s := m) (a.handlers[h]) h)
  obtain ⟨c, hc⟩ : ∃ c, c = stage4Command (a.handlers[h]) h m := ⟨_, rfl⟩
  rw [← hc] at hwm' hrenewing' hhold' hdemand' hdampers' hcommand hturn' hair
  have hfourth : c.handler h = (s.handler h).fourth s.wm (a.handlers[h]) (s.renewing h) := by
    rw [hcommand, hmode, hwm]
    rfl
  have haired := stage4Air_handler h c
  have hairAir := stage4Air_air h c
  have hturn'' := hturn'.trans (stage4Air_turned h)
  obtain ⟨-, -, -, hdemand'', hdampers''⟩ := (stage4Air_turned (s := c) h).renewals_kept (by simp)
  obtain ⟨e, he⟩ : ∃ e, e = stage4Air h c := ⟨_, rfl⟩
  rw [← he] at haired hairAir hturn'' hdemand'' hdampers''
  have hcounted : c.countedDemands h = s.countedDemands h := by
    unfold State.countedDemands
    rw [hdemand', hdemand]
  rw [hfourth, hcounted, hrenewing', hrenewing, hhold', hhold] at haired
  have heq : stage4Handler a h s = setDampers h e := by rw [he, hc, hm, stage4Handler]
  have hlast : e.hs.lastDemand = s.hs.lastDemand := hdemand''.trans (hdemand'.trans hdemand)
  have hset : (setDampers h e).hs = { e.hs with dampers := (setDampers h e).hs.dampers } := by
    unfold setDampers
    split <;> rfl
  have hsetAir : (setDampers h e).hs.air = e.hs.air := by rw [hset]
  have hold : e.hs.dampers = s.hs.dampers := hdampers''.trans (hdampers'.trans hdampers)
  rw [heq]
  refine ⟨?_, ?_, ?_, fun k hk => ?_, fun hd => ?_, fun d hd z => ?_⟩
  · rw [hset, hturn''.turned.1]
  · rw [hsetAir, hairAir]
    exact hair
  · rw [setDampers_handler, hsetAir, hairAir]
    exact haired
  · rw [setDampers_handler]
    exact hturn''.handler k hk
  · rw [setDampers_none e (hlast.trans hd), hold]
  · rw [setDampers_dampers e (hlast.trans hd), setDampers_handler, hsetAir, hold]
    split
    · next hown =>
      unfold State.damperOf DemandZone.damper
      rw [hown]
    · rfl

/-! ### The events of a turn -/

theorem stage4Handler_defrostStart (a : Allotment) (ho : (a.handlers[h]).outcome = .admitted) (hmay : s.mayEnterDefrost h = true) :
    ((stage4Handler a h s).lu.event .defrostStart).latched = true := by
  simp only [stage4Handler, setDampers_frame, stage4Air_frame, stage4Command_frame]
  rw [stage4Mode, if_pos ⟨ho, hmay⟩]
  exact congrArg EventRecord.latched (latch_event _ _ _ _)

theorem stage4Handler_defrostEnd (a : Allotment) (ho : (a.handlers[h]).outcome = .aborted) (hm : (s.handler h).mode = .defrost) :
    ((stage4Handler a h s).lu.event .defrostEnd).latched = true := by
  simp only [stage4Handler, setDampers_frame, stage4Air_frame, stage4Command_frame]
  rw [stage4Mode, if_neg (fun hin => absurd (ho.symm.trans hin.1) (by decide)), if_pos ⟨ho, hm⟩]
  simp only [abortDefrost, readAir_frame]
  exact congrArg EventRecord.latched (latch_event _ _ _ _)

/-! ### The two turns -/

/-- What the two turns of stage 4 leave, with the settings `air` as each turn found them. -/
structure FourthStage (a : Allotment) (air : Fin 2 → AirSettings) (s t : State) : Prop where
  frame : t = { s with hs := { s.hs with handlers := t.hs.handlers, dampers := t.hs.dampers, air := air 1 }, lu := t.lu }
  own : ∀ h, t.handler h = ((s.handler h).fourth s.wm (a.handlers[h]) (s.renewing h)).aired (air h) (s.countedDemands h)
    (s.renewing h) s.rs.airHold
  reads : ∀ h, ((s.handler 0).reads s.wm (a.handlers[(0 : Fin 2)]) (s.renewing 0) ∨
    (h = 1 ∧ (s.handler 1).reads s.wm (a.handlers[(1 : Fin 2)]) (s.renewing 1)) → air h = s.wm.airSettings) ∧
    (¬ ((s.handler 0).reads s.wm (a.handlers[(0 : Fin 2)]) (s.renewing 0) ∨
    (h = 1 ∧ (s.handler 1).reads s.wm (a.handlers[(1 : Fin 2)]) (s.renewing 1))) → air h = s.hs.air)
  undamped : s.hs.lastDemand = none → t.hs.dampers = s.hs.dampers
  dampers : ∀ d, s.hs.lastDemand = some d → ∀ z : Fin 12, t.hs.dampers[z] =
    (d.zones[z]).damper (air (d.zones[z]).handler) (t.handler (d.zones[z]).handler).mode
  starts : ∀ h, (a.handlers[h]).outcome = .admitted → s.mayEnterDefrost h = true → (t.lu.event .defrostStart).latched = true
  ends : ∀ h, (a.handlers[h]).outcome = .aborted → (s.handler h).mode = .defrost → (t.lu.event .defrostEnd).latched = true

theorem stage4Handler_frame_with (a : Allotment) (h : Fin 2) (s : State) : stage4Handler a h s = { s with
    hs := { s.hs with
      handlers := (stage4Handler a h s).hs.handlers, dampers := (stage4Handler a h s).hs.dampers, air := (stage4Handler a h s).hs.air }
    lu := (stage4Handler a h s).lu } := by
  have hhs := (stage4Handler_fourth a h s).hs
  obtain ⟨hzr, hpa, hrs, hsu, hou, hml, hsc, hpl, hbus, hpins, heeprom, htenth, hfree, hpending⟩ := stage4Handler_frame s a h
  generalize stage4Handler a h s = e at *
  exact State.eq_of_blocks hzr hhs hpa hrs hsu hou hml hsc rfl hpl hbus hpins heeprom htenth hfree hpending

theorem fourthStage (a : Allotment) (s : State) : ∃ air, FourthStage a air s (forHandlers (stage4Handler a) s) := by
  have hfirst := stage4Handler_fourth a 0 s
  have hframe := stage4Handler_frame_with a 0 s
  have hstart (ho) (hmay) := stage4Handler_defrostStart (s := s) (h := 0) a ho hmay
  have hend (ho) (hmay) := stage4Handler_defrostEnd (s := s) (h := 0) a ho hmay
  have heq : forHandlers (stage4Handler a) s = stage4Handler a 1 (stage4Handler a 0 s) := rfl
  rw [heq]
  generalize stage4Handler a 0 s = u at *
  have hsecond := stage4Handler_fourth a 1 u
  have hframe' := stage4Handler_frame_with a 1 u
  have hstart' (ho) (hmay) := stage4Handler_defrostStart (s := u) (h := 1) a ho hmay
  have hend' (ho) (hmay) := stage4Handler_defrostEnd (s := u) (h := 1) a ho hmay
  have hlatches := stage4Handler_latches (l := u.lu) (s := u) a 1 .refl
  generalize stage4Handler a 1 u = v at *
  have hhandler : u.handler 1 = s.handler 1 := hfirst.other 1 (by decide)
  have hwm : u.wm = s.wm := by rw [hframe]; rfl
  have hrenewing : u.renewing 1 = s.renewing 1 := by rw [hframe]; rfl
  have hhold : u.rs.airHold = s.rs.airHold := by rw [hframe]
  have hlast : u.hs.lastDemand = s.hs.lastDemand := by rw [hframe]
  have hcounted : u.countedDemands 1 = s.countedDemands 1 := by
    unfold State.countedDemands
    rw [hlast]
  have hmay : u.mayEnterDefrost 1 = s.mayEnterDefrost 1 := by
    unfold State.mayEnterDefrost
    rw [hhandler, hrenewing]
  have hfirstOwn : v.handler 0 = u.handler 0 := hsecond.other 0 (by decide)
  have hcases (h : Fin 2) : h = 0 ∨ h = 1 := by omega
  have hown := hsecond.own
  have hreads := hsecond.air
  rw [hhandler, hwm, hrenewing] at hreads
  rw [hhandler, hwm, hrenewing, hhold, hcounted] at hown
  refine ⟨fun h => if h = 0 then u.hs.air else v.hs.air, ⟨?_, fun h => ?_, fun h => ?_, fun hd => ?_, fun d hd z => ?_, fun h ho hm => ?_, fun h ho hm => ?_⟩⟩
  · rw [if_neg (by decide)]
    rw [hframe] at hframe'
    exact hframe'
  · rcases hcases h with rfl | rfl
    · rw [if_pos rfl, hfirstOwn]
      exact hfirst.own
    · rw [if_neg (by decide)]
      exact hown
  · rcases hcases h with rfl | rfl
    · rw [if_pos rfl]
      refine ⟨fun hr => hfirst.air.1 (hr.resolve_right fun h1 => absurd h1.1 (by decide)), fun hno => hfirst.air.2 fun hr => hno (.inl hr)⟩
    · rw [if_neg (by decide)]
      refine ⟨fun hr => ?_, fun hno => ?_⟩
      · by_cases h1 : (s.handler 1).reads s.wm (a.handlers[(1 : Fin 2)]) (s.renewing 1)
        · exact hreads.1 h1
        · rw [hreads.2 h1]
          exact hfirst.air.1 (hr.resolve_right fun hr => h1 hr.2)
      · rw [hreads.2 fun hr => hno (.inr ⟨rfl, hr⟩)]
        exact hfirst.air.2 fun hr => hno (.inl hr)
  · rw [hsecond.undamped (hlast.trans hd), hfirst.undamped hd]
  · rw [hsecond.dampers d (hlast.trans hd) z, hfirst.dampers d hd z]
    rcases hcases (d.zones[z]).handler with hz | hz
    · rw [if_neg (by rw [hz]; decide), if_pos hz, if_pos hz, hz, hfirstOwn]
    · rw [if_pos hz, if_neg (by rw [hz]; decide), hz]
  · rcases hcases h with rfl | rfl
    · exact hlatches.latched (hstart ho hm)
    · exact hstart' ho (hmay.trans hm)
  · rcases hcases h with rfl | rfl
    · exact hlatches.latched (hend ho hm)
    · exact hend' ho (by rw [hhandler]; exact hm)

end Sys2Proof.Machine

/-! ## What stage 4 hands on (R37, R64, R106, R122) -/

namespace Sys2Proof.Machine

variable {s t : State} {h k : Fin 2}

/-! ### The values handed to the OU -/

/-- A state with values handed to the OU behind those that wait. -/
def State.handed (s : State) (l : List (Role × Nat)) : State := s.setBus { s.bus with ouValues := s.bus.ouValues ++ l }

theorem State.handed_handed (l l' : List (Role × Nat)) : (s.handed l).handed l' = s.handed (l ++ l') := by
  unfold State.handed
  simp only [State.setBus, List.append_assoc]

theorem handAir_eq (h : Fin 2) (s : State) :
    handAir h s = s.handed [(.blower h, (s.handler h).blower), (.freshDamper h, (s.handler h).fresh)] :=
  State.handed_handed [(.blower h, (s.handler h).blower)] [(.freshDamper h, (s.handler h).fresh)]

/-- The values of both handlers. -/
def State.airValues (s : State) : List (Role × Nat) :=
  [(.blower 0, (s.handler 0).blower), (.freshDamper 0, (s.handler 0).fresh), (.blower 1, (s.handler 1).blower),
    (.freshDamper 1, (s.handler 1).fresh)]

theorem forHandlers_handAir (s : State) : forHandlers handAir s = s.handed s.airValues := by
  rw [forHandlers, handAir_eq, handAir_eq, State.handed_handed]
  rfl

/-- The values of a zone. -/
def State.zoneValues (s : State) (a : Allotment) (z : Fin 12) : List (Role × Nat) :=
  (.zoneDamper z, s.hs.dampers[z]) :: match s.hs.lastDemand with
    | some d => if (d.zones[z]).hasReheat then [(.zoneReheat z, (a.zones[z]).duty)] else []
    | none => []

theorem handZone_eq (a : Allotment) (z : Fin 12) (s : State) : handZone a z s = s.handed (s.zoneValues a z) := by
  unfold handZone State.zoneValues
  cases s.hs.lastDemand with
  | none => rfl
  | some d =>
    dsimp only
    split
    · exact State.handed_handed [(.zoneDamper z, s.hs.dampers[z])] [(.zoneReheat z, (a.zones[z]).duty)]
    · rfl

theorem foldl_handZone (a : Allotment) (l : List (Fin 12)) (s : State) :
    l.foldl (fun u z => handZone a z u) s = s.handed (l.flatMap (s.zoneValues a)) := by
  induction l generalizing s with
  | nil => simp [State.handed, State.setBus]
  | cons z l ih =>
    have hvalues : (s.handed (s.zoneValues a z)).zoneValues a = s.zoneValues a := rfl
    rw [List.foldl_cons, handZone_eq, ih, hvalues, State.handed_handed]
    rfl

/-! ### The drive exchanges that are due (R122) -/

theorem forHandlers_driveDue_off (hline : s.ml.line ≠ .on) : forHandlers driveDue s = s := by
  have hone (h : Fin 2) : driveDue h s = s := if_neg fun hon => hline hon.1
  rw [forHandlers, hone, hone]

theorem driveDue_pending (hline : s.ml.line = .on) (h k : Fin 2) : driveDue h s = s.setMl { s.ml with
      drivePending := (driveDue h s).ml.drivePending } ∧
    (driveDue h s).ml.drivePending[k] = (s.ml.drivePending[k] || (decide (k = h) && (s.handler h).driveSlot.isSome)) := by
  unfold driveDue
  by_cases hslot : (s.handler h).driveSlot.isSome = true
  · rw [if_pos ⟨hline, hslot⟩, hslot]
    refine ⟨rfl, ?_⟩
    simp only [State.setMl_ml, getElem_set_fin]
    by_cases hk : k = h
    · simp [hk]
    · simp [hk]
  · rw [if_neg fun hon => hslot hon.2]
    refine ⟨rfl, ?_⟩
    simp [hslot]

theorem forHandlers_driveDue_on (hline : s.ml.line = .on) : forHandlers driveDue s = s.setMl { s.ml with
      drivePending := (forHandlers driveDue s).ml.drivePending } ∧
    ∀ h : Fin 2, (forHandlers driveDue s).ml.drivePending[h] = (s.ml.drivePending[h] || (s.handler h).driveSlot.isSome) := by
  obtain ⟨hframe, -⟩ := driveDue_pending hline 0 0
  have hfirst (k : Fin 2) := (driveDue_pending hline 0 k).2
  rw [forHandlers]
  generalize driveDue 0 s = u at *
  have hu : u.ml.line = .on := by rw [hframe]; exact hline
  obtain ⟨hframe', -⟩ := driveDue_pending hu 1 0
  have hsecond (k : Fin 2) := (driveDue_pending hu 1 k).2
  generalize driveDue 1 u = v at *
  have hhandler (k : Fin 2) : u.handler k = s.handler k := by rw [hframe]; rfl
  refine ⟨?_, fun h => ?_⟩
  · rw [hframe] at hframe'
    exact hframe'
  · have hcases : h = 0 ∨ h = 1 := by omega
    rw [hsecond, hfirst, hhandler]
    rcases hcases with rfl | rfl <;> simp

/-! ### The renewals that start (R64) -/

theorem startChoice_some {c : RenewalKind} (hc : s.startChoice h = some c) :
    (s.renewal h).state = .idle ∧ (s.handler h).mode ≠ .idle := by
  refine ⟨?_, (evaluate_some hc).1⟩
  by_contra hr
  rw [startChoice_renewing hr] at hc
  exact absurd hc (by simp)

theorem Renewal.started_state (n : Nat) (c : RenewalKind) (x : Renewal) : (x.started n c).state ≠ .idle := by
  unfold Renewal.started
  dsimp only
  split <;> decide

/-- A renewal record changes exactly where a renewal starts. -/
theorem evaluated_ne_iff {n : Nat} : (s.renewal h).evaluated n (s.startChoice h) ≠ s.renewal h ↔ ∃ c, s.startChoice h = some c := by
  cases hc : s.startChoice h with
  | none => simp [Renewal.evaluated]
  | some c =>
    simp only [Option.some.injEq, exists_eq', iff_true]
    intro heq
    exact Renewal.started_state n c (s.renewal h) ((congrArg Renewal.state heq).trans (startChoice_some hc).1)

/-- The values of a renewal that starts. -/
def State.startValues (s : State) (h : Fin 2) : List (Role × Nat) :=
  match s.startChoice h with
  | some _ => [(.blower h, max (s.handler h).baseBlower s.hs.air.renewalBlower), (.freshDamper h, 1000)]
  | none => []

theorem evaluate_bus (h : Fin 2) (s : State) :
    (evaluate h s).bus = { s.bus with ouValues := s.bus.ouValues ++ s.startValues h } := by
  unfold State.startValues
  cases hc : s.startChoice h with
  | none =>
    rw [evaluate_none hc]
    simp
  | some c =>
    obtain ⟨hmode, heq⟩ := evaluate_some hc
    rw [heq, startRenewal_eq h c hmode]
    rfl

theorem forHandlers_evaluate_bus (s : State) :
    (forHandlers evaluate s).bus = { s.bus with ouValues := s.bus.ouValues ++ s.startValues 0 ++ s.startValues 1 } := by
  have hvalues : (evaluate 0 s).startValues 1 = s.startValues 1 := by
    have hair : (evaluate 0 s).hs.air = s.hs.air := congrArg (·.hs.air) (evaluate_renewalFrame 0)
    unfold State.startValues
    rw [evaluate_startChoice_other (by decide), hair, evaluate_handler, if_neg (by decide)]
  rw [forHandlers, evaluate_bus, hvalues, evaluate_bus]

end Sys2Proof.Machine

/-! ## Stage 4 as a whole (R37) -/

namespace Sys2Proof.Machine

variable {s t : State} {h k : Fin 2}

/-- A handler's record at the end of its turn of stage 4, with the settings as the turn found them. -/
def State.fourthHandler (s : State) (a : Allotment) (air : Fin 2 → AirSettings) (h : Fin 2) : Handler :=
  ((s.handler h).fourth s.wm (a.handlers[h]) (s.renewing h)).aired (air h) (s.countedDemands h) (s.renewing h) s.rs.airHold

/-- What stage 4 leaves, with the settings `air` as each handler's turn found them and the renewals `starts` that then begin. -/
structure FourthDone (a : Allotment) (air : Fin 2 → AirSettings) (starts : Fin 2 → Option RenewalKind) (s t : State) : Prop where
  frame : t = { s with
    hs := { s.hs with handlers := t.hs.handlers, dampers := t.hs.dampers, air := air 1, outstanding := false }
    rs := { s.rs with renewals := t.rs.renewals }, ml := t.ml, lu := t.lu, bus := { s.bus with ouValues := t.bus.ouValues } }
  reads : ∀ h, ((s.handler 0).reads s.wm (a.handlers[(0 : Fin 2)]) (s.renewing 0) ∨
    (h = 1 ∧ (s.handler 1).reads s.wm (a.handlers[(1 : Fin 2)]) (s.renewing 1)) → air h = s.wm.airSettings) ∧
    (¬ ((s.handler 0).reads s.wm (a.handlers[(0 : Fin 2)]) (s.renewing 0) ∨
    (h = 1 ∧ (s.handler 1).reads s.wm (a.handlers[(1 : Fin 2)]) (s.renewing 1))) → air h = s.hs.air)
  handler : ∀ h, t.handler h = (s.fourthHandler a air h).evaluated (air 1).renewalBlower (starts h)
  renewal : ∀ h, t.renewal h = (s.renewal h).evaluated s.wm.renewalDuration (starts h)
  changed : ∀ h, t.renewal h ≠ s.renewal h ↔ ∃ c, starts h = some c
  idle : ∀ h c, starts h = some c → (s.renewal h).state = .idle
  undamped : s.hs.lastDemand = none → t.hs.dampers = s.hs.dampers
  dampers : ∀ d, s.hs.lastDemand = some d → ∀ z : Fin 12, t.hs.dampers[z] =
    (d.zones[z]).damper (air (d.zones[z]).handler) (s.fourthHandler a air (d.zones[z]).handler).mode
  entered : ∀ h, (a.handlers[h]).outcome = .admitted → s.mayEnterDefrost h = true → (t.lu.event .defrostStart).latched = true
  aborted : ∀ h, (a.handlers[h]).outcome = .aborted → (s.handler h).mode = .defrost → (t.lu.event .defrostEnd).latched = true
  values : t.bus.ouValues = s.bus.ouValues
    ++ [(.blower 0, (s.fourthHandler a air 0).blower), (.freshDamper 0, (s.fourthHandler a air 0).fresh),
      (.blower 1, (s.fourthHandler a air 1).blower), (.freshDamper 1, (s.fourthHandler a air 1).fresh)]
    ++ (List.finRange 12).flatMap (t.zoneValues a)
    ++ (if (starts 0).isSome then [(.blower 0, (t.handler 0).blower), (.freshDamper 0, 1000)] else [])
    ++ (if (starts 1).isSome then [(.blower 1, (t.handler 1).blower), (.freshDamper 1, 1000)] else [])
  off : s.ml.line ≠ .on → t.ml = s.ml
  busy : s.ml.line = .on → s.ml.exchange.isSome → t.ml = { s.ml with drivePending := t.ml.drivePending } ∧
    ∀ h : Fin 2, t.ml.drivePending[h] = (s.ml.drivePending[h] || (s.handler h).driveSlot.isSome)
  drive : s.ml.line = .on → s.ml.exchange = none → ∀ i, (s.handler 0).driveSlot = some i → (s.slot i).state = .present →
    t.ml.drivePending[(0 : Fin 2)] = false ∧
    t.ml.exchange = some ⟨.drive 0, i, (s.fourthHandler a air 0).driveCommand, false, .sending, false, false⟩

theorem State.fourthHandler_driveSlot (a : Allotment) (air : Fin 2 → AirSettings) :
    (s.fourthHandler a air h).driveSlot = (s.handler h).driveSlot := Handler.fourth_driveSlot

/-- What the module line makes of the drive exchanges that stage 4 makes due (R122, R125). -/
theorem arbitrate_driveDue (w : State) :
    (w.ml.line ≠ .on → (arbitrate (forHandlers driveDue w)).ml = w.ml) ∧
    (w.ml.line = .on → w.ml.exchange.isSome → (arbitrate (forHandlers driveDue w)).ml =
        { w.ml with drivePending := (arbitrate (forHandlers driveDue w)).ml.drivePending } ∧
      ∀ h : Fin 2, (arbitrate (forHandlers driveDue w)).ml.drivePending[h] = (w.ml.drivePending[h] || (w.handler h).driveSlot.isSome)) ∧
    (w.ml.line = .on → w.ml.exchange = none → ∀ i, (w.handler 0).driveSlot = some i → (w.slot i).state = .present →
      (arbitrate (forHandlers driveDue w)).ml.drivePending[(0 : Fin 2)] = false ∧
      (arbitrate (forHandlers driveDue w)).ml.exchange =
        some ⟨.drive 0, i, (w.handler 0).driveCommand, false, .sending, false, false⟩) := by
  refine ⟨fun hline => ?_, fun hline hx => ?_, fun hline hx i hslot hpresent => ?_⟩
  · rw [forHandlers_driveDue_off hline, arbitrate_off hline]
  · obtain ⟨hframe, hdue⟩ := forHandlers_driveDue_on hline
    generalize forHandlers driveDue w = x at *
    have hbusy : x.ml.exchange.isSome := by rw [hframe]; exact hx
    rw [arbitrate_busy hbusy]
    refine ⟨?_, hdue⟩
    exact congrArg State.ml hframe
  · obtain ⟨hframe, hdue⟩ := forHandlers_driveDue_on hline
    generalize forHandlers driveDue w = x at *
    have hline' : x.ml.line = .on := by rw [hframe]; exact hline
    have hx' : x.ml.exchange = none := by rw [hframe]; exact hx
    have hhandler : x.handler 0 = w.handler 0 := by rw [hframe]; rfl
    have hslots : x.slot i = w.slot i := by rw [hframe]; rfl
    have hdrives : x.drives 0 i := by
      refine ⟨?_, by rw [hhandler]; exact hslot, by rw [hslots]; exact hpresent⟩
      rw [hdue, hslot]
      simp
    have hgranted := arbitrate_granted hline' hx'
    refine ⟨hgranted.pending, ?_⟩
    rw [← hhandler]
    exact (hgranted.first i hdrives).1

/-- The handing on of a stage 4 whose turns are over. -/
def State.handOn (v : State) (a : Allotment) : State :=
  arbitrate (forHandlers driveDue (v.handed (v.airValues ++ (List.finRange 12).flatMap (v.zoneValues a))))

theorem stage4_eq (a : Allotment) (s : State) : stage4 a s = forHandlers evaluate
    ((forHandlers (stage4Handler a) (s.setHs { s.hs with outstanding := false })).handOn a) := by
  generalize hv : forHandlers (stage4Handler a) (s.setHs { s.hs with outstanding := false }) = v
  have hvalues : (v.handed v.airValues).zoneValues a = v.zoneValues a := rfl
  rw [State.handOn, ← State.handed_handed, ← hvalues, ← foldl_handZone, ← forHandlers_handAir, ← hv]
  rfl

/-- The handing on changes the module line, events and the values handed to the OU alone. -/
theorem handOn_frame (a : Allotment) (v : State) : v.handOn a = { v with
    ml := (v.handOn a).ml, lu := (v.handOn a).lu
    bus := { v.bus with ouValues := v.bus.ouValues ++ (v.airValues ++ (List.finRange 12).flatMap (v.zoneValues a)) } } := by
  unfold State.handOn
  obtain ⟨w, hw⟩ : ∃ w, w = v.handed (v.airValues ++ (List.finRange 12).flatMap (v.zoneValues a)) := ⟨_, rfl⟩
  have hframe : forHandlers driveDue w = { w with ml := (forHandlers driveDue w).ml } := by
    by_cases hline : w.ml.line = .on
    · have hdue := (forHandlers_driveDue_on hline).1
      generalize (forHandlers driveDue w).ml.drivePending = due at hdue
      rw [hdue]
      rfl
    · rw [forHandlers_driveDue_off hline]
  have harbitrate := arbitrate_frame_with (forHandlers driveDue w)
  rw [← hw]
  generalize arbitrate (forHandlers driveDue w) = y at *
  generalize forHandlers driveDue w = x at *
  rw [hframe, hw] at harbitrate
  exact harbitrate

theorem handOn_latches (a : Allotment) (v : State) : v.lu.Latches (v.handOn a).lu := by
  unfold State.handOn
  refine arbitrate_latches ?_
  have hlu : (forHandlers driveDue (v.handed (v.airValues ++ (List.finRange 12).flatMap (v.zoneValues a)))).lu = v.lu := by
    simp [forHandlers, State.handed]
  rw [hlu]
  exact .refl

/-- The line's part of the handing on (R122, R125). -/
theorem handOn_line (a : Allotment) (v : State) :
    (v.ml.line ≠ .on → (v.handOn a).ml = v.ml) ∧
    (v.ml.line = .on → v.ml.exchange.isSome → (v.handOn a).ml = { v.ml with drivePending := (v.handOn a).ml.drivePending } ∧
      ∀ h : Fin 2, (v.handOn a).ml.drivePending[h] = (v.ml.drivePending[h] || (v.handler h).driveSlot.isSome)) ∧
    (v.ml.line = .on → v.ml.exchange = none → ∀ i, (v.handler 0).driveSlot = some i → (v.slot i).state = .present →
      (v.handOn a).ml.drivePending[(0 : Fin 2)] = false ∧
      (v.handOn a).ml.exchange = some ⟨.drive 0, i, (v.handler 0).driveCommand, false, .sending, false, false⟩) :=
  arbitrate_driveDue (v.handed (v.airValues ++ (List.finRange 12).flatMap (v.zoneValues a)))

/-- The frame of the evaluations that end stage 4. -/
theorem fourth_frame {v0 v y t : State} {air : AirSettings} {values : List (Role × Nat)}
    (hv0 : v0 = { s with hs := { s.hs with outstanding := false } })
    (hv : v = { v0 with hs := { v0.hs with handlers := v.hs.handlers, dampers := v.hs.dampers, air := air }, lu := v.lu })
    (hy : y = { v with ml := y.ml, lu := y.lu, bus := { v.bus with ouValues := values } }) (ht : y.RenewalFrame t) :
    t = { s with
      hs := { s.hs with handlers := t.hs.handlers, dampers := t.hs.dampers, air := air, outstanding := false }
      rs := { s.rs with renewals := t.rs.renewals }, ml := t.ml, lu := t.lu, bus := { s.bus with ouValues := t.bus.ouValues } } := by
  unfold State.RenewalFrame at ht
  have hml : t.ml = y.ml := by rw [ht]
  have hlu : t.lu = y.lu := by rw [ht]
  have hdampers : t.hs.dampers = v.hs.dampers := by rw [ht, hy]
  rw [hml, hlu, hdampers]
  rw [hy, hv, hv0] at ht
  exact ht

/-- The values of a renewal that starts, as the handler then stands. -/
theorem startValues_eq (y : State) (h : Fin 2) : y.startValues h = if (y.startChoice h).isSome then
      [(.blower h, ((y.handler h).evaluated y.hs.air.renewalBlower (y.startChoice h)).blower), (.freshDamper h, 1000)] else [] := by
  unfold State.startValues
  cases y.startChoice h <;> rfl

theorem fourthDone (a : Allotment) (s : State) : ∃ air starts, FourthDone a air starts s (stage4 a s) := by
  obtain ⟨v0, hv0⟩ : ∃ v0, v0 = s.setHs { s.hs with outstanding := false } := ⟨_, rfl⟩
  obtain ⟨air, hstage⟩ := fourthStage a v0
  have heq := stage4_eq a s
  rw [← hv0] at heq
  have hhandler0 (h : Fin 2) : v0.handler h = s.handler h := by rw [hv0]; rfl
  have hrenewing0 (h : Fin 2) : v0.renewing h = s.renewing h := by rw [hv0]; rfl
  have hwm0 : v0.wm = s.wm := by rw [hv0]; rfl
  have hrs0 : v0.rs = s.rs := by rw [hv0]; rfl
  have hml0 : v0.ml = s.ml := by rw [hv0]; rfl
  have hbus0 : v0.bus = s.bus := by rw [hv0]; rfl
  have hair0 : v0.hs.air = s.hs.air := by rw [hv0]; rfl
  have hdampers0 : v0.hs.dampers = s.hs.dampers := by rw [hv0]; rfl
  have hlast0 : v0.hs.lastDemand = s.hs.lastDemand := by rw [hv0]; rfl
  have hmay0 (h : Fin 2) : v0.mayEnterDefrost h = s.mayEnterDefrost h := by rw [hv0]; rfl
  have hcounted0 (h : Fin 2) : v0.countedDemands h = s.countedDemands h := by rw [hv0]; rfl
  generalize forHandlers (stage4Handler a) v0 = v at hstage heq
  obtain ⟨hvframe, hown, hreads, hundamped, hdampers, hstarts, hends⟩ := hstage
  have hfourth (h : Fin 2) : v.handler h = s.fourthHandler a air h := by
    rw [hown, hhandler0, hrenewing0, hwm0, hrs0, hcounted0]
    rfl
  have hvml : v.ml = s.ml := by rw [hvframe]; exact hml0
  have hvrs : v.rs = s.rs := by rw [hvframe]; exact hrs0
  have hvwm : v.wm = s.wm := by rw [hvframe]; exact hwm0
  have hvbus : v.bus = s.bus := by rw [hvframe]; exact hbus0
  have hvlast : v.hs.lastDemand = s.hs.lastDemand := by rw [hvframe]; exact hlast0
  have hvair : v.hs.air = air 1 := by rw [hvframe]
  have hvalues : v.airValues = [(.blower 0, (s.fourthHandler a air 0).blower), (.freshDamper 0, (s.fourthHandler a air 0).fresh),
      (.blower 1, (s.fourthHandler a air 1).blower), (.freshDamper 1, (s.fourthHandler a air 1).fresh)] := by
    rw [State.airValues, hfourth, hfourth]
  have hyframe := handOn_frame a v
  obtain ⟨hoff, hbusy, hdrive⟩ := handOn_line a v
  have hlatches := handOn_latches a v
  generalize v.handOn a = y at *
  have hyhs : y.hs = v.hs := by rw [hyframe]
  have hyhandler (h : Fin 2) : y.handler h = s.fourthHandler a air h := by
    rw [← hfourth, State.handler, hyhs]
    rfl
  have hyrenewal (h : Fin 2) : y.renewal h = s.renewal h := by
    unfold State.renewal
    rw [hyframe, hvrs]
  have hywm : y.wm = s.wm := by rw [← hvwm, hyframe]; rfl
  have hybus : y.bus = { v.bus with ouValues := v.bus.ouValues ++ (v.airValues ++ (List.finRange 12).flatMap (v.zoneValues a)) } := by
    rw [hyframe]
  have htframe := forHandlers_renewalFrame (s := y) (f := evaluate) fun i u => evaluate_renewalFrame i
  have htrenewal := forHandlers_evaluate_renewal (s := y)
  have hthandler := forHandlers_evaluate_handler (s := y)
  have htbus := forHandlers_evaluate_bus y
  rw [← heq] at htframe htrenewal hthandler htbus
  generalize stage4 a s = t at *
  clear heq
  obtain ⟨-, -, -, -, -, htlast, htair, htlu⟩ := htframe.kept
  have html : t.ml = y.ml := by
    unfold State.RenewalFrame at htframe
    rw [htframe]
  have htdampers : t.hs.dampers = v.hs.dampers := by
    unfold State.RenewalFrame at htframe
    rw [htframe, hyhs]
  have hzones : t.zoneValues a = v.zoneValues a := by
    funext z
    unfold State.zoneValues
    rw [htdampers, htlast, hyhs]
  have hchanged (h : Fin 2) := evaluated_ne_iff (s := y) (h := h) (n := y.wm.renewalDuration)
  have hyair : y.hs.air = air 1 := by rw [hyhs, hvair]
  have hstartValues (h : Fin 2) := startValues_eq y h
  simp only [← hthandler] at hstartValues
  refine ⟨air, y.startChoice, fourth_frame hv0 hvframe hyframe htframe, fun h => ?_, fun h => ?_, fun h => ?_, fun h => ?_, fun h c hc => ?_,
    fun hd => ?_, fun d hd z => ?_, fun h ho hm => ?_, fun h ho hm => ?_, ?_, fun hline => ?_, fun hline hx => ?_,
    fun hline hx i hi hp => ?_⟩
  · have hr := hreads h
    simp only [hhandler0, hwm0, hrenewing0, hair0] at hr
    exact hr
  · rw [hthandler, hyhandler, hyair]
  · rw [htrenewal, hyrenewal, hywm]
  · rw [htrenewal, ← hyrenewal]
    exact hchanged h
  · rw [← hyrenewal]
    exact (startChoice_some hc).1
  · rw [htdampers, hundamped (hlast0.trans hd), hdampers0]
  · rw [htdampers, hdampers d (hlast0.trans hd), hfourth]
  · rw [htlu]
    exact hlatches.latched (hstarts h ho ((hmay0 h).trans hm))
  · rw [htlu]
    exact hlatches.latched (hends h ho (by rw [hhandler0]; exact hm))
  · rw [htbus, hybus, hstartValues, hstartValues, hzones, ← hvalues, hvbus]
    simp only [List.append_assoc]
  · rw [html, ← hvml]
    exact hoff (by rw [hvml]; exact hline)
  · obtain ⟨hkept, hdue⟩ := hbusy (by rw [hvml]; exact hline) (by rw [hvml]; exact hx)
    rw [html, ← hvml]
    refine ⟨hkept, fun h => ?_⟩
    rw [hdue, hfourth, State.fourthHandler_driveSlot]
  · have hslot : v.slot i = s.slot i := by
      unfold State.slot
      rw [hvml]
    rw [html, ← hfourth]
    exact hdrive (by rw [hvml]; exact hline) (by rw [hvml]; exact hx) i (by rw [hfourth, State.fourthHandler_driveSlot]; exact hi)
      (by rw [hslot]; exact hp)

end Sys2Proof.Machine

/-! ## ALLOTMENT_AT_HS -/

namespace Sys2Proof.Machine

variable {s t : State} {h k : Fin 2}

/-! ### A handler's record by the outcome of its defrost (R34, R36, R37) -/

section
variable {x : Handler} {w : WorkingMemory} {a : AllotHandler} {b : Bool}

theorem Handler.fourth_of_kept (hm : x.fourthMode w a b = x) : x.fourth w a b = x.applyCommand w.restTime (commandOf a x) := by
  rw [Handler.fourth, hm]

theorem Handler.fourthMode_kept (hadmitted : a.outcome = .admitted → x.mode = .heat → x.driveAvailable = true → x.resting = false → b = true)
    (haborted : a.outcome = .aborted → x.mode ≠ .defrost) : x.fourthMode w a b = x := by
  rw [Handler.fourthMode, if_neg, if_neg]
  · exact fun hab => haborted hab.1 hab.2
  · rintro ⟨ho, hm, hd, hr, hb⟩
    rw [hadmitted ho hm hd hr] at hb
    exact absurd hb (by decide)

/-- What is commanded of a handler that may run. -/
theorem commandOf_running (hm : x.mode = .heat ∨ x.mode = .cool ∨ x.mode = .defrost) (hd : x.driveAvailable = true)
    (hr : x.resting = false) : commandOf a x = if a.outcome = .admitted ∧ x.mode ≠ .defrost then min a.command x.qReq else a.command := by
  have hidle : x.mode ≠ .idle := by rcases hm with hm | hm | hm <;> rw [hm] <;> decide
  have hvent : x.mode ≠ .vent := by rcases hm with hm | hm | hm <;> rw [hm] <;> decide
  rw [commandOf, if_neg]
  simp [hd, hr, hidle, hvent]

theorem commandOf_still (hno : x.driveAvailable = false ∨ x.mode = .idle ∨ x.mode = .vent ∨ x.resting = true) : commandOf a x = 0 := by
  rw [commandOf, if_pos]
  simpa using hno

/-- A commanded handler runs exactly where its command is above 0. -/
theorem Handler.fourth_runs : (0 < (x.fourth w a b).q → (x.fourth w a b).comp = .running) ∧
    ((x.fourth w a b).q = 0 → (x.fourth w a b).comp = .stopped) := by
  rw [Handler.fourth_comp]
  exact ⟨fun hq => if_neg (by omega), fun hq => if_pos hq⟩

theorem Handler.fourth_granted (hadmitted : a.outcome ≠ .admitted) (haborted : a.outcome ≠ .aborted)
    (hm : x.mode = .heat ∨ x.mode = .cool ∨ x.mode = .defrost) (hd : x.driveAvailable = true) (hr : x.resting = false) :
    (x.fourth w a b).mode = x.mode ∧ (x.fourth w a b).q = a.command := by
  have hkept : x.fourthMode w a b = x := Handler.fourthMode_kept (fun ho => absurd ho hadmitted) fun ho => absurd ho haborted
  rw [Handler.fourth_mode, Handler.fourth_q, hkept, commandOf_running hm hd hr, if_neg fun hin => hadmitted hin.1]
  exact ⟨rfl, rfl⟩

theorem Handler.fourth_stopped (haborted : a.outcome ≠ .aborted)
    (hno : x.driveAvailable = false ∨ x.mode = .idle ∨ x.mode = .vent ∨ x.resting = true) :
    (x.fourth w a b).mode = x.mode ∧ (x.fourth w a b).q = 0 ∧ (x.fourth w a b).comp = .stopped ∧
      (x.fourth w a b).rest = if x.comp = .running then 100000 * w.restTime else x.rest := by
  have hkept : x.fourthMode w a b = x := by
    refine Handler.fourthMode_kept (fun _ hm hd hr => ?_) fun ho => absurd ho haborted
    rw [hm, hd, hr] at hno
    simp at hno
  have hq : (x.fourth w a b).q = 0 := by rw [Handler.fourth_q, hkept, commandOf_still hno]
  refine ⟨by rw [Handler.fourth_mode, hkept], hq, Handler.fourth_runs.2 hq, ?_⟩
  rw [Handler.fourth_of_kept hkept, commandOf_still hno, Handler.applyCommand_zero]
  split <;> rfl

theorem Handler.fourth_enters (ho : a.outcome = .admitted) (hm : x.mode = .heat) (hd : x.driveAvailable = true) (hr : x.resting = false) :
    (x.fourth w a false).mode = .defrost ∧ (x.fourth w a false).q = a.command ∧ (x.fourth w a false).defrostTimer = 0 := by
  have hmode : x.fourthMode w a false = { x with mode := .defrost, defrostTimer := 0 } := if_pos ⟨ho, hm, hd, hr, rfl⟩
  have hcommand : commandOf a { x with mode := .defrost, defrostTimer := 0 } = a.command :=
    (commandOf_running (x := { x with mode := .defrost, defrostTimer := 0 }) (.inr (.inr rfl)) hd hr).trans (if_neg fun hin => hin.2 rfl)
  refine ⟨by rw [Handler.fourth_mode, hmode], by rw [Handler.fourth_q, hmode, hcommand], ?_⟩
  rw [Handler.fourth, Handler.applyCommand_eq, hmode]

theorem Handler.fourth_renewing (ho : a.outcome = .admitted) (hm : x.mode = .heat) (hd : x.driveAvailable = true) (hr : x.resting = false) :
    (x.fourth w a true).mode = .heat ∧ (x.fourth w a true).q = min a.command x.qReq := by
  have hkept : x.fourthMode w a true = x :=
    Handler.fourthMode_kept (fun _ _ _ _ => rfl) fun hab => absurd (ho.symm.trans hab) (by decide)
  rw [Handler.fourth_mode, Handler.fourth_q, hkept, commandOf_running (.inl hm) hd hr, if_pos ⟨ho, by rw [hm]; decide⟩]
  exact ⟨hm, rfl⟩

theorem Handler.fourth_aborts (ho : a.outcome = .aborted) (hm : x.mode = .defrost) : x.fourth w a b = { x with
    lastMode := .heat, dwell := 100000 * w.reversalDwell, q := 0, comp := .stopped, rest := 100000 * w.restTime
    mode := .vent, lastEnd := .aborted } := by
  have hmode : x.fourthMode w a b = { x with lastMode := .heat, dwell := 100000 * w.reversalDwell, q := 0, comp := .stopped
                                             rest := 100000 * w.restTime, mode := .vent, lastEnd := .aborted } := by
    rw [Handler.fourthMode, if_neg fun hin => absurd (ho.symm.trans hin.1) (by decide), if_pos ⟨ho, hm⟩]
  rw [Handler.fourth, hmode, commandOf_still (.inr (.inr (.inl rfl))), Handler.applyCommand_zero]
  rfl
end

/-- A handler's record at the end of stage 4, but for its airflow values. -/
theorem fourthHandler_evaluated (a : Allotment) (air : Fin 2 → AirSettings) (n : Nat) (c : Option RenewalKind) (x : Handler)
    (hx : x = (s.fourthHandler a air h).evaluated n c) : x = { (s.handler h).fourth s.wm (a.handlers[h]) (s.renewing h) with
      baseBlower := x.baseBlower, blower := x.blower, fresh := x.fresh } := by
  rw [hx]
  cases c <;> rfl

/-! ### The command itself -/

theorem exec_allotmentAtHs {a : Allotment} {rest : List Allotment} (ha : s.bus.allotHS = a :: rest) :
    exec .allotmentAtHs s = .next (kick (if s.hsAccepts a then
        stage4 a (s.setBus { s.bus with allotHS := rest, allotZR := s.bus.allotZR ++ [a] })
      else s.setBus { s.bus with allotHS := rest, allotZR := s.bus.allotZR ++ [a] })) := by
  show execAllotmentAtHs s = _
  rw [execAllotmentAtHs, ha]

theorem hsAccepts_iff (a : Allotment) : s.hsAccepts a = true ↔ s.sc.opState = .run ∧ s.hs.outstanding = true ∧ a.cycleNo = s.hs.cycleNo := by
  simp [State.hsAccepts, and_assoc]

theorem baseBlowerOf_eq (n : Nat) (m : Mode) (l : List Int) : baseBlowerOf n m l = match m with
    | .idle | .defrost => 0
    | .vent => n
    | .heat => n + (1000 - n) * ((l.map Int.toNat).foldl max 0) / 1000
    | .cool => n + (1000 - n) * ((l.map fun d => (-d).toNat).foldl max 0) / 1000 := by
  cases m <;> rfl

/-- The demands of a handler's counted zones, as stage 4 reads them (R38). -/
theorem countedDemands_eq (s : State) (h : Fin 2) : s.countedDemands h = match s.hs.lastDemand with
    | some d => ((List.finRange 12).filter fun z => (d.zones[z]).counted && (d.zones[z]).handler == h).map fun z => (d.zones[z]).demand
    | none => [] := by
  unfold State.countedDemands
  cases s.hs.lastDemand with
  | none => rfl
  | some d =>
    dsimp only
    rw [counted_eq, List.map_map]
    rfl

/-- The drive command of a commanded handler (R37). -/
theorem driveCommand_eq (x : Handler) (hstill : x.mode = .idle ∨ x.mode = .vent → x.q = 0) : x.driveCommand =
    .driveCommand (decide (0 < x.q)) (if 0 < x.q then (if x.mode = .heat then .heat else if x.mode = .cool then .cool else .reverse)
      else if x.lastMode = .cool then .cool else .heat) x.q := by
  have hdirection : x.lastMode.direction = if x.lastMode = .cool then .cool else .heat := by cases x.lastMode <;> rfl
  unfold Handler.driveCommand
  by_cases hq : x.q = 0
  · rw [if_pos hq, hq, hdirection]
    rfl
  · have hpos : 0 < x.q := by omega
    rw [if_neg hq, if_pos hpos, decide_eq_true hpos]
    cases hm : x.mode with
    | idle => exact absurd (hstill (.inl hm)) hq
    | vent => exact absurd (hstill (.inr hm)) hq
    | heat => rfl
    | cool => rfl
    | defrost => rfl

/-- The transmitter's turn after stage 4 changes nothing that stage 4 leaves. -/
theorem FourthDone.kicked {a : Allotment} {air : Fin 2 → AirSettings} {starts : Fin 2 → Option RenewalKind}
    (hdone : FourthDone a air starts s t) : FourthDone a air starts s (kick t) := by
  have hkick := kick_eq t
  have hevent := kick_event t
  obtain ⟨hframe, hreads, hhandler, hrenewal, hchanged, hidle, hundamped, hdampers, hentered, haborted, hvalues, hoff, hbusy, hdrive⟩ := hdone
  generalize kick t = u at *
  have hu : u = { t with lu := u.lu } := hkick
  have hhandler' (h : Fin 2) : u.handler h = t.handler h := by rw [hu]; rfl
  have hrenewal' (h : Fin 2) : u.renewal h = t.renewal h := by rw [hu]; rfl
  have hhs : u.hs = t.hs := by rw [hu]
  have hml : u.ml = t.ml := by rw [hu]
  have hbus : u.bus = t.bus := by rw [hu]
  have hzones : u.zoneValues a = t.zoneValues a := by
    funext z
    unfold State.zoneValues
    rw [hhs]
  refine ⟨?_, hreads, fun h => ?_, fun h => ?_, fun h => ?_, hidle, fun hd => ?_, fun d hd z => ?_, fun h ho hm => ?_, fun h ho hm => ?_,
    ?_, fun hline => ?_, fun hline hx => ?_, fun hline hx i hi hp => ?_⟩
  · have hrs : u.rs = t.rs := by rw [hu]
    rw [hframe] at hu
    rw [hhs, hml, hrs, hbus]
    exact hu
  · rw [hhandler', hhandler]
  · rw [hrenewal', hrenewal]
  · rw [hrenewal']
    exact hchanged h
  · rw [hhs]
    exact hundamped hd
  · rw [hhs]
    exact hdampers d hd z
  · rw [hevent]
    exact hentered h ho hm
  · rw [hevent]
    exact haborted h ho hm
  · rw [hbus, hzones, hhandler', hhandler']
    exact hvalues
  · rw [hml]
    exact hoff hline
  · rw [hml]
    exact hbusy hline hx
  · rw [hml]
    exact hdrive hline hx i hi hp

section
variable {a : Allotment} {air : Fin 2 → AirSettings} {starts : Fin 2 → Option RenewalKind}

/-- A handler's record after stage 4, but for its airflow values. -/
theorem FourthDone.record (hdone : FourthDone a air starts s t) (h : Fin 2) : t.handler h =
    { (s.handler h).fourth s.wm (a.handlers[h]) (s.renewing h) with
      baseBlower := (t.handler h).baseBlower, blower := (t.handler h).blower, fresh := (t.handler h).fresh } :=
  fourthHandler_evaluated a air _ _ _ (hdone.handler h)

theorem not_resting_iff {x : Handler} : ¬ (x.comp = .stopped ∧ x.rest ≠ 0) ↔ x.resting = false := by
  rw [← Handler.resting_iff, Bool.not_eq_true]

theorem renewing_false_iff : s.renewing h = false ↔ (s.renewal h).state = .idle := by
  rw [← Bool.not_eq_true, renewing_iff, not_not]

/-- The records of the handlers by what step 1 of the allotment made of their defrosts (R34, R36, R37). -/
theorem FourthDone.clauses (hdone : FourthDone a air starts s t) (h : Fin 2) : let x := s.handler h
    let resting := x.comp = .stopped ∧ x.rest ≠ 0
    let o := (a.handlers[h]).outcome
    let q := (a.handlers[h]).command
    (o ≠ .admitted → o ≠ .aborted → (x.mode = .heat ∨ x.mode = .cool ∨ x.mode = .defrost) → x.driveAvailable = true → ¬ resting →
      (t.handler h).mode = x.mode ∧ (t.handler h).q = q ∧
      (0 < q → (t.handler h).comp = .running) ∧ (q = 0 → (t.handler h).comp = .stopped)) ∧
    (o ≠ .aborted → (x.driveAvailable = false ∨ x.mode = .idle ∨ x.mode = .vent ∨ resting) →
      (t.handler h).mode = x.mode ∧ (t.handler h).q = 0 ∧ (t.handler h).comp = .stopped ∧
      (t.handler h).rest = if x.comp = .running then 100000 * s.wm.restTime else x.rest) ∧
    (o = .admitted → x.mode = .heat → x.driveAvailable = true → ¬ resting → (s.renewal h).state = .idle →
      (t.handler h).mode = .defrost ∧ (t.handler h).q = q ∧ (t.handler h).defrostTimer = 0 ∧
      (0 < q → (t.handler h).comp = .running) ∧ (t.lu.event .defrostStart).latched = true) ∧
    (o = .admitted → x.mode = .heat → x.driveAvailable = true → ¬ resting → (s.renewal h).state ≠ .idle →
      (t.handler h).mode = .heat ∧ (t.handler h).q = min q x.qReq) ∧
    (o = .aborted → x.mode = .defrost →
      (t.handler h).mode = .vent ∧ (t.handler h).q = 0 ∧ (t.handler h).comp = .stopped ∧ (t.handler h).lastEnd = .aborted ∧
      (t.handler h).lastMode = .heat ∧ (t.handler h).dwell = 100000 * s.wm.reversalDwell ∧
      (t.handler h).rest = 100000 * s.wm.restTime ∧ (t.handler h).icing = x.icing ∧ (t.handler h).defrostDue = x.defrostDue ∧
      (t.lu.event .defrostEnd).latched = true) := by
  intro x resting o q
  have hrecord := hdone.record h
  generalize (t.handler h).baseBlower = base at hrecord
  generalize (t.handler h).blower = blower at hrecord
  generalize (t.handler h).fresh = fresh at hrecord
  rw [hrecord]
  dsimp only
  have hruns := Handler.fourth_runs (x := s.handler h) (w := s.wm) (a := a.handlers[h]) (b := s.renewing h)
  refine ⟨fun hadmitted haborted hm hd hr => ?_, fun haborted hno => ?_, fun ho hm hd hr hidle => ?_, fun ho hm hd hr hidle => ?_,
    fun ho hm => ?_⟩
  · obtain ⟨hmode, hq⟩ := Handler.fourth_granted (w := s.wm) (b := s.renewing h) hadmitted haborted hm hd (not_resting_iff.mp hr)
    rw [hq] at hruns
    exact ⟨hmode, hq, hruns⟩
  · refine Handler.fourth_stopped haborted ?_
    rw [Handler.resting_iff]
    exact hno
  · have hrenewing := renewing_false_iff.mpr hidle
    have hmay := mayEnterDefrost_iff.mpr ⟨hm, hd, not_resting_iff.mp hr, hrenewing⟩
    rw [hrenewing] at hruns ⊢
    obtain ⟨hmode, hq, htimer⟩ := Handler.fourth_enters (w := s.wm) ho hm hd (not_resting_iff.mp hr)
    rw [hq] at hruns
    exact ⟨hmode, hq, htimer, hruns.1, hdone.entered h ho hmay⟩
  · rw [renewing_iff.mpr hidle]
    exact Handler.fourth_renewing ho hm hd (not_resting_iff.mp hr)
  · rw [Handler.fourth_aborts ho hm]
    exact ⟨rfl, rfl, rfl, rfl, rfl, rfl, rfl, rfl, rfl, hdone.aborted h ho hm⟩
end

/-- Settles O23. -/
theorem allotmentCommandsTheHandlers : Obligations.AllotmentCommandsTheHandlers := by
  intro s a rest ha accepted
  refine ⟨fun hno hsettled => ?_, fun hyes => ?_⟩
  · rw [exec_allotmentAtHs ha, if_neg fun hin => hno ((hsAccepts_iff a).mp hin)]
    exact congrArg Host.Outcome.next
      (kick_settled (s := s.setBus { s.bus with allotHS := rest, allotZR := s.bus.allotZR ++ [a] }) hsettled)
  obtain ⟨s1, hs1⟩ : ∃ u, u = s.setBus { s.bus with allotHS := rest, allotZR := s.bus.allotZR ++ [a] } := ⟨_, rfl⟩
  have hexec := exec_allotmentAtHs ha
  rw [if_pos ((hsAccepts_iff a).mpr hyes), ← hs1] at hexec
  obtain ⟨settings, starting, hdone⟩ := fourthDone a s1
  replace hdone := hdone.kicked
  generalize kick (stage4 a s1) = t at hdone hexec
  have hclauses := hdone.clauses
  have hrecord := hdone.record
  obtain ⟨hframe, hreads, hhandler, hrenewal, hchanged, hidle, hundamped, hdampers, -, -, hvalues, hoff, hbusy, hdrive⟩ := hdone
  have hcommands : ∀ h, s1.fourthHandler a settings h = s.fourthHandler a settings h := by rw [hs1]; exact fun h => rfl
  simp only [hcommands] at hhandler hdampers hvalues hdrive
  subst hs1
  have hsettings : t.hs.air = settings 1 := by rw [hframe]
  have hlast : t.hs.lastDemand = s.hs.lastDemand := by
    rw [hframe]
    rfl
  refine ⟨t, hexec, ?_, hclauses, ?_⟩
  · rw [hsettings]
    exact hframe
  intro starts air wants lifted base blower fresh renews
  have hmode (h : Fin 2) : (t.handler h).mode = (s.fourthHandler a settings h).mode := by
    rw [hhandler, Handler.evaluated_mode]
  have hstarts (h : Fin 2) : starts h ↔ (s.handler h).reads s.wm (a.handlers[h]) (s.renewing h) := by
    have hq : (t.handler h).q = ((s.handler h).fourth s.wm (a.handlers[h]) (s.renewing h)).q := by
      rw [hrecord h]
      rfl
    dsimp only [starts, Handler.reads]
    rw [hq]
  have hair (h : Fin 2) : settings h = air h := by
    have hr := hreads h
    by_cases hany : starts 0 ∨ (h = 1 ∧ starts 1)
    · exact (hr.1 (hany.imp (hstarts 0).mp (And.imp_right (hstarts 1).mp))).trans (if_pos hany).symm
    · exact (hr.2 fun hno => hany (hno.imp (hstarts 0).mpr (And.imp_right (hstarts 1).mpr))).trans (if_neg hany).symm
  have hwants (h : Fin 2) : wants h = s.countedDemands h := (countedDemands_eq s h).symm
  have hbase (h : Fin 2) : base h = baseBlowerOf (settings h).bMin (s.fourthHandler a settings h).mode (s.countedDemands h) := by
    rw [← hwants, hair, ← hmode]
    exact (baseBlowerOf_eq _ _ _).symm
  have hbaseOf (h : Fin 2) : (s.fourthHandler a settings h).baseBlower = base h := (hbase h).symm
  have hblower (h : Fin 2) : (s.fourthHandler a settings h).blower = blower h := by
    have hvalue : (s.fourthHandler a settings h).blower = if s.renewing h = true then
        max (s.fourthHandler a settings h).baseBlower (settings h).renewalBlower else (s.fourthHandler a settings h).baseBlower := rfl
    rw [hvalue, hbaseOf, hair]
    by_cases hr : (s.renewal h).state = .idle
    · rw [if_neg fun hno => renewing_iff.mp hno hr]
      exact (if_pos hr).symm
    · rw [if_pos (renewing_iff.mpr hr)]
      exact (if_neg hr).symm
  have hfresh (h : Fin 2) : (s.fourthHandler a settings h).fresh = fresh h := by
    have hvalue : (s.fourthHandler a settings h).fresh = if (s.fourthHandler a settings h).mode = .idle then 0
        else if s.renewing h = true then 1000 else if s.rs.airHold ≠ .none then 0 else (settings h).fMin := rfl
    rw [hvalue, ← hmode, hair]
    dsimp only [fresh]
    rw [if_congr (Q := (s.renewal h).state ≠ .idle) renewing_iff rfl rfl]
  have hrenews (h : Fin 2) : renews h ↔ ∃ c, starting h = some c := hchanged h
  have hstarted (h : Fin 2) (l : List (Role × Nat)) : (if (starting h).isSome then l else []) = if renews h then l else [] :=
    if_congr (Option.isSome_iff_exists.trans (hrenews h).symm) rfl rfl
  have hairs : (settings 1).renewalBlower = (air 1).renewalBlower := by rw [hair]
  refine ⟨hsettings.trans (hair 1), fun h => ?_, hundamped, fun d hd z => ?_, ?_, hoff, hbusy, fun hline hx i hi hp => ?_⟩
  · by_cases hr : renews h
    · obtain ⟨c, hc⟩ := (hrenews h).mp hr
      rw [if_pos hr, if_pos hr, hhandler, hrenewal, hc, ← hairs]
      refine ⟨hbaseOf h, ?_, rfl, fun _ => ⟨hidle h c hc, Renewal.started_state _ _ _, rfl⟩⟩
      rw [← hbaseOf]
      rfl
    · have hnone : starting h = none := by
        cases hc : starting h with
        | none => rfl
        | some c => exact absurd ((hrenews h).mpr ⟨c, hc⟩) hr
      rw [if_neg hr, if_neg hr, hhandler, hnone]
      exact ⟨hbaseOf h, hblower h, hfresh h, fun hyes => absurd hyes hr⟩
  · intro x m
    rw [hdampers d hd z, ← hmode, hair]
    rfl
  · rw [hstarted, hstarted, hblower, hblower, hfresh, hfresh] at hvalues
    refine hvalues.trans ?_
    unfold State.zoneValues
    rw [hlast]
    rfl
  · intro y
    obtain ⟨hdue, hgoes⟩ := hdrive hline hx i hi hp
    refine ⟨hdue, hgoes.trans ?_⟩
    have hstill : (s.fourthHandler a settings 0).mode = .idle ∨ (s.fourthHandler a settings 0).mode = .vent →
        (s.fourthHandler a settings 0).q = 0 := Handler.fourth_still
    have hq : y.q = (s.fourthHandler a settings 0).q := by
      dsimp only [y]
      rw [hhandler]
      cases starting 0 <;> rfl
    have hlastMode : y.lastMode = (s.fourthHandler a settings 0).lastMode := by
      dsimp only [y]
      rw [hhandler]
      cases starting 0 <;> rfl
    have hy : y.mode = (s.fourthHandler a settings 0).mode := hmode 0
    rw [driveCommand_eq _ hstill, hq, hlastMode, hy]

end Sys2Proof.Machine
